-- ==== Sys2Proof/Word.lean ====
section
/-!
DEFINITION. The 48-bit word of R6 and R4, and the device instant of R35.
-/
namespace Sys2Proof

/-- One word: every address holds 48 bits (spec/00_scope.md R6). -/
abbrev Word := BitVec 48

/-- An instant on the raw TPLL timeline, in units of 50 ps: 16 units to a tick (spec/02_time_and_clocks.md R35). -/
abbrev Inst := Int

end Sys2Proof
end

