-- ==== Sys2Proof/Syntax.lean ====
section
/-!
DEFINITION. The commands of the block: one constructor for each row of spec/opcode_table.json, in the table's order. An
operand carries what reaches the device from outside with the command: who accesses a register and the word written, the
frame received, the phase of an edge, the samples of a converter, the instants of SPAD events, a level judged by a
comparator, or the low 40 bits of an Ivqua instruction word. Everything else a command needs is in the state.
-/
namespace Sys2Proof

/-- The three PLLs of spec/02_time_and_clocks.md R31. -/
inductive Pll | tpll | spll | lpll
  deriving DecidableEq, Repr

/-- The mirror axes. -/
inductive Axis | h | v
  deriving DecidableEq, Repr

/-- Who accesses a register: a host port, Meridian, the Dome or a core, Alidade 0 to 3 then Reticle 4 to 11 (R47). -/
inductive Accessor | portA | portB | meridian | dome | core (c : Fin 12)
  deriving DecidableEq, Repr

/-- What the excitation monitor sees of one bridge in a check window: the 32 excitation currents and whether an ADC code
was at its clip (spec/06_angle_sensing.md R145). -/
structure BridgeWin where
  currents : List (BitVec 16)
  clip : Bool
  deriving DecidableEq, Repr

/-- A SPAD event: its time in ps from the raw time's zero, and the SPAD (u, v) that fired (spec/07_receiver_tdc.md R151, R159). -/
structure SpadEv where
  ps : Nat
  u : Fin 256
  v : Fin 96
  deriving DecidableEq, Repr

/-- What the SCAN entry checks of spec/14_safety.md R336 see outside the registers: the Dome self-test and lockstep
report, the level of each SOUT readback, and whether the LSR_EN ball followed. -/
structure EntryEnv where
  selfTest : Bool
  readback : BitVec 4
  lsrFollows : Bool
  deriving DecidableEq, Repr

/-- What the boot checks of spec/13_modes_startup.md R304 see outside the device: the flash image as words, whether every
QSPI read succeeded, and the Dome self-test. -/
structure BootEnv where
  flash : List Word
  readOk : Bool
  selfTest : Bool
  deriving DecidableEq, Repr

/-- The periodic checks of spec/14_safety.md R335. -/
inductive DomeCheck | refRatio | lsrReadback | calAge | progress | zoneSelfTest
  deriving DecidableEq, Repr

/-- A run of 66-bit blocks on a lane, sync header in [65:64] and scrambled payload in [63:0], with the 58 scrambled bits that came
before it, the latest in bit 0 (spec/15_gloelink.md R350). -/
structure LineRun where
  before : BitVec 58
  blocks : List (BitVec 66)
  deriving DecidableEq, Repr

/-- A port's lane and a run of blocks received on it. -/
structure PortRun where
  port : Fin 3
  rx : LineRun
  deriving DecidableEq, Repr

/-- Why a received frame is discarded (spec/15_gloelink.md R360). -/
inductive BadFrame
  /-- A run that holds an invalid block: a sync header other than 0b01, or an idle block in no idle form (R350, R353). -/
  | block (rx : LineRun)
  /-- A frame whose CRC fails. -/
  | crc (rx : LineRun)
  /-- The CRC passes and SEQ is another than the expected one. -/
  | seq (n : BitVec 7)
  /-- The CRC and SEQ pass and the type or length is none the table lists. -/
  | malformed (f : List Word)
  deriving DecidableEq, Repr

/-- A command. -/
inductive Instr
  /-- REFCLK_LOSS (R30). No REFCLK rising edge for 200 ns sets REF_LOSS and SUSPECT. -/
  | refclkLoss (absent : Bool)
  /-- PLL_LOCK (R32). A PLL completes its band search and lock, and sets LOCK. -/
  | pllLock (p : Pll) (band : BitVec 6)
  /-- PLL_LOSS_OF_LOCK (R33). Phase error beyond ±1.0 ns for 4 comparisons clears LOCK and sets the sticky LOL bit. -/
  | pllLossOfLock (p : Pll)
  /-- RELOCK_T (R34). A write of RELOCK_T re-runs the TPLL band search and lock; accepted only in IDLE and SAFE. -/
  | relockT (a : Accessor)
  /-- RELOCK_L (R34). A write of RELOCK_L re-runs the LPLL band search and lock, taking all ports down. -/
  | relockL (a : Accessor)
  /-- SYNC_IN_EDGE (R38). A SYNC_IN rising edge sampled while ARM is 1 schedules a divider reset 160 ns later. -/
  | syncInEdge
  /-- DIVIDER_RESET (R38). The SPLL and LPLL dividers reset to phase zero, ARM clears, and DONE and possibly SHIFTED set. -/
  | dividerReset (spllMoved lpllMoved : Bool)
  /-- SSC_ENABLE (R42). A write of 1 to SSC_CFG.EN is checked and either starts the spread profile or is refused with
  TBL_ERR. -/
  | sscEnable (a : Accessor) (v : Word)
  /-- SSC_DISABLE (R43). A write of 0 to EN lets the current modulation period run to its end. -/
  | sscDisable (a : Accessor) (v : Word)
  /-- SSC_SEGMENT_END (R41). A spread segment's length expires and the profile moves to the next segment. -/
  | sscSegmentEnd
  /-- SSC_PERIOD_END (R43). After a disable, the period ends at 0 ppm and ACTIVE clears. -/
  | sscPeriodEnd
  /-- SECOND_ROLLOVER (R45). TICK passes 1,249,999,999, returns to 0, and SEC and the epoch count advance. -/
  | secondRollover
  /-- TIME_NOW_READ (R47). A read of TIME.NOW returns the time word and latches the accessor's NOW_EPOCH. -/
  | timeNowRead (a : Accessor)
  /-- PPS_EDGE (R49). A PPS_IN rising edge is timestamped and awaits qualification. -/
  | ppsEdge (phase : BitVec 4)
  /-- PPS_EDGE_QUALIFIED (R50). A PPS edge held high for 100 ns is accepted or counted as an outlier; a shorter pulse
  counts as a glitch. -/
  | ppsEdgeQualified (held : Bool)
  /-- SLEW_ADJUSTMENT (R53). A scheduled slew interval expires and one tick is dropped or added, moving all held
  instants. -/
  | slewAdjustment
  /-- PPS_LOST (R55). 1.1 s with no accepted PPS edge clears PRESENT and sets LOST. -/
  | ppsLost
  /-- FMU_START (R57). A write of 1 to FMU_CFG.START arms the frequency-measurement unit, or is refused. -/
  | fmuStart (a : Accessor) (v : Word)
  /-- FMU_GATE_START (R57). The first prescaled source edge after arming starts the gate. -/
  | fmuGateStart (phase : BitVec 4)
  /-- FMU_GATE_STOP (R57). The NPER-th prescaled edge stops the gate, stores RES and sets DONE. -/
  | fmuGateStop (phase : BitVec 4)
  /-- FMU_TIMEOUT (R59). No prescaled edge for 1.1 s ends the measurement with RES 0 and TIMEOUT set. -/
  | fmuTimeout
  /-- FIRE_TRIM_CALIBRATION_DONE (R63). A bank's FIRE output calibration completes, writing TRIM and setting TRIMMED. -/
  | fireTrimCalibrationDone (b : Fin 4) (trim : BitVec 6)
  /-- SEGMASK_FRAME_START (R65). The lane starts a queued part's SEGMASK frame at the latest moment its rules allow. -/
  | segmaskFrameStart
  /-- SEGMASK_FRAME_END (R64). A 24-bit SEGMASK frame finishes after 50 ticks. -/
  | segmaskFrameEnd
  /-- PART_JUDGEMENT (R69). At the tick of its T_fire a part is skipped, deferred or fired. -/
  | partJudgement
  /-- DEFERRED_PART_RETRY (R69). A deferred part is judged again at a following tick. -/
  | deferredPartRetry
  /-- DEFER_LIMIT_SKIP (R69). A part whose total deferral would exceed DEFER_MAX is skipped and counted in
  SKIP_CNT.LIMIT. -/
  | deferLimitSkip
  /-- FIRE_PULSE_END (R62). The FIRE pulse width expires and FIREb returns low. -/
  | firePulseEnd (b : Fin 4)
  /-- BANK_WAKE (R74). An enabled sleeping bank wakes at its 250 µs stagger point and powers its strips. -/
  | bankWake (b : Fin 4)
  /-- BANK_EN_WRITE (R74). A write to FIRE.CTRL.BANK_EN puts cleared banks to sleep and starts waking newly set ones. -/
  | bankEnWrite (a : Accessor) (v : Word)
  /-- EYE_BUCKET_ADVANCE (R78). The 1 ms bucket of the 100 ms sums advances. -/
  | eyeBucketAdvance
  /-- EYE_LOCK (R79). A write of 1 to EYE_CFG.LOCK locks the eye-safety limits, weights, E_MISS and energy gain until
  reset. -/
  | eyeLock (a : Accessor) (v : Word)
  /-- MPD_EDGE (R83). The armed start comparator sees the MPD input rise above threshold and takes an edge that serves
  the oldest waiting group or counts as stray. -/
  | mpdEdge (phase : BitVec 4) (fromBelow : Bool)
  /-- START_REARM (R84). The hold-off ends and the input is below threshold less hysteresis, so the comparator re-arms. -/
  | startRearm
  /-- START_TIMEOUT (R86). A start group's wait ends without an edge and the group takes a forced start. -/
  | startTimeout
  /-- PULSE_ENERGY_DELIVERY (R89). Eight ticks after the last summed sample, the pulse energy E_p is delivered to
  eye-safety accounting. -/
  | pulseEnergyDelivery (xs : List (BitVec 10))
  /-- MASK_TABLE_LOAD (R90). After a Firing boundary commits MASK_CFG, the mask table load completes and sets LOADED or
  TBL_ERR. -/
  | maskTableLoad
  /-- MASK_VERDICT (R91). Eight ticks after a mask window's last sample, the verdict is formed. -/
  | maskVerdict (xs : List (BitVec 10))
  /-- CAP_ARM (R95). A write of 1 to CAP_CTRL.ARM arms the capture unit with an empty ring, or is refused. -/
  | capArm (a : Accessor)
  /-- CAP_STOP (R95). A write of 1 to CAP_CTRL.STOP disarms an armed unit. -/
  | capStop (a : Accessor)
  /-- CAP_SWTRIG (R92). A write of 1 to CAP_CTRL.SWTRIG raises trigger condition 3. -/
  | capSwtrig (a : Accessor)
  /-- CAP_UNFREEZE (R96). A write of 1 to CAP_CTRL.UNFREEZE clears CAP_STAT.FROZEN. -/
  | capUnfreeze (a : Accessor)
  /-- TRIG_IN_EDGE (R92). A qualified TRIG_IN rising edge raises trigger condition 2. -/
  | trigInEdge
  /-- TRIG_ANY_FALL (R100). A fall of TRIG_ANY_N driven by another unit raises condition 2 with REMOTE set. -/
  | trigAnyFall
  /-- TRIG_ANY_RELEASE (R100). After 16 ticks the unit releases TRIG_ANY_N. -/
  | trigAnyRelease
  /-- CAPTURE_RECORD_WRITTEN (R95). The capture record is written to its slot, DONE sets and the unit re-arms or disarms. -/
  | captureRecordWritten (xs : List (BitVec 10))
  /-- ARM_BUS_RISE (R99). A rising edge of ARM_BUS arms a slave unit that is idle. -/
  | armBusRise
  /-- AVG_INTERVAL_START (R98). An averaging interval begins every IVL ms. -/
  | avgIntervalStart
  /-- AVG_TILE_WRITTEN (R98). The averager writes its result tile and increments SEQ, or counts an empty interval. -/
  | avgTileWritten
  /-- CONTROL_PERIOD_BOUNDARY (R104). At each 10 µs boundary Coelostat latches samples and the Mirror group, applies the
  previous results and publishes the model. -/
  | controlPeriodBoundary (vhv iH iV : BitVec 12)
  /-- H_LOCK (R113). The lock conditions hold for LOCK_N consecutive periods and H_LOCKED sets. -/
  | hLock
  /-- LOCK_TIMEOUT (R113). H_LOCKED has not set in time after capture, so LOCK_FAIL sets and the H drives park. -/
  | lockTimeout
  /-- FOLLOWING_ERROR_FAULT (R120). An axis stays over its following-error limit for TMR periods, so FE sets and a
  mirror fault is reported. -/
  | followingErrorFault (x : Axis)
  /-- FE_RECOVERY (R121). An ACT 1 faulted axis stays within its limit for TMR periods and LSR_EN may rise again. -/
  | feRecovery (x : Axis)
  /-- SWEEP_BOUNDARY (R122). The model phase passes 0.25 or 0.75 turn, the sweep count advances and the direction
  changes. -/
  | sweepBoundary
  /-- COMMIT_IMMEDIATE (R285). A pending commit whose boundary cannot occur takes effect within 1 µs. -/
  | commitImmediate (g : Fin 7)
  /-- COLUMN_EVENT_POST (R124). Transit posts a reachable column's event to the four Alidade queues at T_col less LEAD. -/
  | columnEventPost
  /-- EXCITATION_HALF_PERIOD_END (R129). Every 64 samples the excitation changes polarity and the monitor judges the
  half-period. -/
  | excitationHalfPeriodEnd (w0 w1 w2 w3 : BridgeWin)
  /-- BRIDGE_OUTPUT (R131). A bridge's decimator delivers an output with its validity mark, and it is linearised. -/
  | bridgeOutput (n : Fin 4) (xs : List (BitVec 16))
  /-- POLARITY_SWAP_DUE (R133). A scheduled swap interval expires and a swap falls due for a bridge. -/
  | polaritySwapDue (n : Fin 4)
  /-- SWAP_REQ (R133). A write of 1 to a BR_CTRL.SWAP_REQ bit makes a swap of that bridge due. -/
  | swapReq (a : Accessor) (v : Word)
  /-- BRK_CLEAR (R148). A write of 1 to a BRK bit clears it only if the last two half-periods were unflagged. -/
  | brkClear (a : Accessor) (v : Word)
  /-- BR_OUT_READ (R150). A read of BR_OUTn latches BR_ANGn for the accessor. -/
  | brOutRead (a : Accessor) (n : Fin 4)
  /-- H_MODEL0_READ (R127). A read of H_MODEL0 latches H_MODEL1 for the accessor. -/
  | hModel0Read (a : Accessor)
  /-- HK_SINGLE (R138). A write of 1 to HK_CTRL.SINGLE inserts one conversion of SINGLE_IN. -/
  | hkSingle (a : Accessor) (v : Word)
  /-- HK_CONVERSION_START (R138). The sequencer starts a housekeeping conversion at a 1 MHz clock edge. -/
  | hkConversionStart
  /-- HK_RESULT_LAND (R139). A linearised result lands in HK_DATA and the private latches, setting NEW or OVR. -/
  | hkResultLand (code : BitVec 16)
  /-- HK_DATA_READ (R139). A read of HK_DATA returns the result and clears NEW. -/
  | hkDataRead (a : Accessor)
  /-- REF_SRC_WRITE (R143). A write to REF_CFG.SRC changes the reference, clears SETTLED and pauses the sequencer. -/
  | refSrcWrite (a : Accessor) (v : Word)
  /-- REF_SETTLED (R143). The reference stays within 0.05 % for 16 µs, so SETTLED sets and conversions resume. -/
  | refSettled
  /-- REF_SETTLE_TIMEOUT (R143). SETTLED has not set within 1 ms, so REF_ERR sets. -/
  | refSettleTimeout
  /-- TDAC_CFG_WRITE (R144). A write to TDAC_CFG starts, changes or ends test DAC injection, or is refused. -/
  | tdacCfgWrite (a : Accessor) (v : Word)
  /-- BIAS_OK_CHANGE (R153). The excess bias is within or outside 50 mV for 10 µs, so a domain's BIAS_OK sets or clears. -/
  | biasOkChange (d : Fin 24) (vexM : BitVec 16)
  /-- BIAS_ERR_TIMEOUT (R153). BIAS_OK has not set within 200 µs of power-up, or has stayed clear for 1 ms, so BIAS_ERR
  sets. -/
  | biasErrTimeout (ds : BitVec 24)
  /-- CHANNEL_STOP (R159). An armed channel finds a coincidence of m SPAD events within W and takes a stop. -/
  | channelStop (d : Fin 24) (j : Fin 32) (events : List SpadEv)
  /-- BLIND_COINCIDENCE (R163). A disarmed channel finds a coincidence and adds one blind count to its part. -/
  | blindCoincidence (d : Fin 24) (j : Fin 32) (events : List SpadEv)
  /-- CHANNEL_REARM (R162). A channel's hold-off ends and it re-arms. -/
  | channelRearm (d : Fin 24) (j : Fin 32)
  /-- CONVERSION_COMPLETE (R161). 12.8 ns after stop and start, a conversion completes and the stop is classified and
  queued. -/
  | conversionComplete (d : Fin 24) (j : Fin 32)
  /-- BIN_DETECTION (R164). Binning takes detections from the strip queue into the visit's accumulators. -/
  | binDetection (d : Fin 24)
  /-- CAL_TEST_COMPLETE (R166). A sampler's calibration test completes and its new trims and offset wait for the slot's
  release. -/
  | calTestComplete (d : Fin 24) (smp : Fin 33) (hits : List Nat) (offs : BitVec 16)
  /-- CAL_NO_HIT_TIMEOUT (R166). A channel receives no calibration hit within 10 ms of free time and is retired. -/
  | calNoHitTimeout (d : Fin 24) (j : Fin 32)
  /-- CAL_STALE (R167). CAL_STAT.AGE exceeds 1,000 ms, so STALE and FAULT set and a strip fault is reported. -/
  | calStale (d : Fin 24)
  /-- STRIP_FLAG_CLEAR (R170). A write of 1 to FAULT, BIAS_ERR or STALE clears it only when its conditions allow. -/
  | stripFlagClear (a : Accessor) (d : Fin 24) (v : Word)
  /-- LISTENING_WINDOW_CLOSE (R158). At t_start + L a part's macro-pixel SPADs are gated off. -/
  | listeningWindowClose (b : Fin 4)
  /-- PART_LEAVES_FLIGHT (R22). The last conversion slot ends, the part leaves flight, its counts are taken and its slot
  is released. -/
  | partLeavesFlight (b : Fin 4)
  /-- VISIT_READ_DONE (R186). The visit's tile read and check complete and its accumulators are loaded or started afresh. -/
  | visitReadDone (d : Fin 24)
  /-- VISIT_WRITEBACK_DONE (R188). The visit's tiles are written back and its cells close as R188 states. -/
  | visitWritebackDone (d : Fin 24)
  /-- VISIT_EMPTY_TIMEOUT (R187). A visit with no booked part by T_col + 4,096 ns ends without write-back. -/
  | visitEmptyTimeout (d : Fin 24)
  /-- OVERFLOW_CELL_ENTERS (R193). The close queue has room and the lowest overflow cell enters it with LATE set. -/
  | overflowCellEnters (d : Fin 24)
  /-- RING_GROUP_ENTRY (R207). A waiting group or header finds room and enters the bank's ring. -/
  | ringGroupEntry (b : Fin 4)
  /-- RING_STALL_TIMEOUT (R209). No slot is freed for STALL ms while something waits, so the ring enters discard mode. -/
  | ringStallTimeout (b : Fin 4)
  /-- RING_CFG_WRITE (R206). A write changing RING_CFG.BASE or NTILE empties the ring and counts its records as
  discarded. -/
  | ringCfgWrite (a : Accessor) (b : Fin 4) (v : Word)
  /-- WC_INTERVAL_END (R210). At each window-contamination interval end the monitor writes LEVEL and updates FLAG per
  row. -/
  | wcIntervalEnd (b : Fin 4)
  /-- POINT_FRAME_SEND (R357). A POINT frame is sent when 31 records are ready or the oldest unsent record has waited 2
  µs. -/
  | pointFrameSend (p : Fin 2) (b : Fin 4)
  /-- NOP (R253). Does nothing for one cycle. -/
  | nop (c : Fin 12) (w : BitVec 40)
  /-- HALT (R253). The core enters HALTED when the instruction completes. -/
  | halt (c : Fin 12) (w : BitVec 40)
  /-- TRAP (R253). Raises trap cause SOFT. -/
  | trap (c : Fin 12) (w : BitVec 40)
  /-- LDI (R253). Loads a zero-extended 24-bit immediate into Gd. -/
  | ldi (c : Fin 12) (w : BitVec 40)
  /-- LDH (R253). Loads a 24-bit immediate into the high half of Gd. -/
  | ldh (c : Fin 12) (w : BitVec 40)
  /-- MOV (R253). Copies Ga to Gd. -/
  | mov (c : Fin 12) (w : BitVec 40)
  /-- ADD (R253). Adds two G registers and sets ZNCV. -/
  | add (c : Fin 12) (w : BitVec 40)
  /-- ADDI (R253). Adds a sign-extended immediate and sets ZNCV. -/
  | addi (c : Fin 12) (w : BitVec 40)
  /-- SUB (R253). Subtracts two G registers and sets ZNCV. -/
  | sub (c : Fin 12) (w : BitVec 40)
  /-- SUBI (R253). Subtracts a sign-extended immediate and sets ZNCV. -/
  | subi (c : Fin 12) (w : BitVec 40)
  /-- MUL (R253). Multiplies the signed low 24 bits of two registers exactly. -/
  | mul (c : Fin 12) (w : BitVec 40)
  /-- CMP (R253). Compares two registers and sets ZNCV. -/
  | cmp (c : Fin 12) (w : BitVec 40)
  /-- CMPI (R253). Compares a register with an immediate and sets ZNCV. -/
  | cmpi (c : Fin 12) (w : BitVec 40)
  /-- AND (R253). Bitwise AND of two registers. -/
  | iand (c : Fin 12) (w : BitVec 40)
  /-- OR (R253). Bitwise OR of two registers. -/
  | ior (c : Fin 12) (w : BitVec 40)
  /-- XOR (R253). Bitwise XOR of two registers. -/
  | ixor (c : Fin 12) (w : BitVec 40)
  /-- NOT (R253). Bitwise complement of a register. -/
  | inot (c : Fin 12) (w : BitVec 40)
  /-- SHL (R254). Shifts left with zero fill. -/
  | shl (c : Fin 12) (w : BitVec 40)
  /-- SHR (R254). Shifts right with zero fill. -/
  | shr (c : Fin 12) (w : BitVec 40)
  /-- SAR (R254). Shifts right arithmetically. -/
  | sar (c : Fin 12) (w : BitVec 40)
  /-- LD (R255). Loads a tile-buffer word into Gd. -/
  | ld (c : Fin 12) (w : BitVec 40)
  /-- ST (R255). Stores Gd into a tile-buffer word. -/
  | st (c : Fin 12) (w : BitVec 40)
  /-- LDT (R226). Reads and checks a shared-store tile into a tile buffer. -/
  | ldt (c : Fin 12) (w : BitVec 40)
  /-- STT (R226). Writes a tile buffer to a shared-store tile within the STT window. -/
  | stt (c : Fin 12) (w : BitVec 40)
  /-- BR (R256). Branches when the condition holds. -/
  | br (c : Fin 12) (w : BitVec 40)
  /-- CALL (R256). Pushes the return address and branches. -/
  | call (c : Fin 12) (w : BitVec 40)
  /-- RET (R256). Pops the return address, clearing TRAP_ACTIVE for a trap entry. -/
  | ret (c : Fin 12) (w : BitVec 40)
  /-- LOOP (R256). Decrements Ga and branches while it is not zero. -/
  | loop (c : Fin 12) (w : BitVec 40)
  /-- WAITT (R257). Starts a wait until the time word reaches Ga. -/
  | waitt (c : Fin 12) (w : BitVec 40)
  /-- WAITT_RESUME (R234). The awaited time-word instant is reached and the core resumes. -/
  | waittResume (c : Fin 12)
  /-- WAITE (R258). Starts a wait for an event of the mask. -/
  | waite (c : Fin 12) (w : BitVec 40)
  /-- WAITE_RESUME (R233). An event of the mask becomes pending; WAITE writes and clears the pending events and resumes. -/
  | waiteResume (c : Fin 12)
  /-- SEND (R259). Places words of a tile buffer in a mailbox as one stamped message, or traps MBXFULL. -/
  | send (c : Fin 12) (w : BitVec 40)
  /-- RECV (R259). Takes a mailbox's message into a tile buffer, or reports it empty. -/
  | recv (c : Fin 12) (w : BitVec 40)
  /-- SIG (R260). Sets the SIG event of the named core. -/
  | sig (c : Fin 12) (w : BitVec 40)
  /-- CMT (R241). Requests a commit of the named group once the core's prior WRS have arrived. -/
  | cmt (c : Fin 12) (w : BitVec 40)
  /-- CMT_COMMIT_MADE (R241). All prior WRS of the core have reached their registers and the CMT's commit is made,
  setting PEND. -/
  | cmtCommitMade (c : Fin 12)
  /-- RDS (R261). Reads a register into Gd with its side effects, or sets C on refusal. -/
  | rds (c : Fin 12) (w : BitVec 40)
  /-- WRS (R261). Writes Gd to a register, or sets C on refusal. -/
  | wrs (c : Fin 12) (w : BitVec 40)
  /-- WRS_ARRIVAL (R261). An accepted WRS reaches its register within 20 cycles. -/
  | wrsArrival (c : Fin 12)
  /-- WAITA (R235). Discards stale events and presents the oldest queued Transit event, or starts waiting. -/
  | waita (c : Fin 12) (w : BitVec 40)
  /-- WAITA_RESUME (R235). A column event is posted to a waiting core, which presents it and resumes. -/
  | waitaResume (c : Fin 12)
  /-- FIRE (R265). Books bank b's part of the current event with an offset and mask. -/
  | fire (c : Fin 12) (w : BitVec 40)
  /-- BOOKING_ARRIVAL (R237). The booking reaches the fire scheduler and is accepted or refused as late or as a fifth in
  flight. -/
  | bookingArrival (c : Fin 12)
  /-- WIN (R263). Sets the window register for later bookings. -/
  | win (c : Fin 12) (w : BitVec 40)
  /-- VISIT (R264). Opens or joins a visit for the current event's column on the bank's strips, or is refused. -/
  | visit (c : Fin 12) (w : BitVec 40)
  /-- CLOSE (R266). Requests a frame boundary at the next sweep boundary. -/
  | close (c : Fin 12) (w : BitVec 40)
  /-- VPOS (R267). Proposes a vertical tilt target. -/
  | vpos (c : Fin 12) (w : BitVec 40)
  /-- SYNCA (R238). Enters a barrier with a mask of Alidade cores. -/
  | synca (c : Fin 12) (w : BitVec 40)
  /-- SYNCA_RELEASE (R238). Every running core of the mask has arrived and all are released in one cycle. -/
  | syncaRelease (c : Fin 12)
  /-- SKIPQ (R262). Discards up to G[a] of the oldest queued events. -/
  | skipq (c : Fin 12) (w : BitVec 40)
  /-- CPOP (R271). Takes a closed cell from the service set, or starts waiting for one. -/
  | cpop (c : Fin 12) (w : BitVec 40)
  /-- CPOP_RESUME (R271). A close entry becomes available; CPOP loads and checks the tile and makes the cell current. -/
  | cpopResume (c : Fin 12)
  /-- VLD (R269). Loads a tile-buffer word into a vector register. -/
  | vld (c : Fin 12) (w : BitVec 40)
  /-- VST (R269). Stores a vector register into a tile-buffer word. -/
  | vst (c : Fin 12) (w : BitVec 40)
  /-- VADD (R269). Saturating lane-wise add. -/
  | vadd (c : Fin 12) (w : BitVec 40)
  /-- VSUB (R269). Floored lane-wise subtract. -/
  | vsub (c : Fin 12) (w : BitVec 40)
  /-- VMAX (R269). Lane-wise maximum. -/
  | vmax (c : Fin 12) (w : BitVec 40)
  /-- VMIN (R269). Lane-wise minimum. -/
  | vmin (c : Fin 12) (w : BitVec 40)
  /-- VSUM (R269). Sums the four lanes into a G register. -/
  | vsum (c : Fin 12) (w : BitVec 40)
  /-- VSHR (R269). Lane-wise right shift. -/
  | vshr (c : Fin 12) (w : BitVec 40)
  /-- PEAK (R274). Runs the fine or coarse echo search on TB0 and writes echoes to TB1. -/
  | peak (c : Fin 12) (w : BitVec 40)
  /-- BGND (R272). Computes the coarse floor and ambient measure. -/
  | bgnd (c : Fin 12) (w : BitVec 40)
  /-- PILE (R273). Applies pile-up correction to the fine bins in place. -/
  | pile (c : Fin 12) (w : BitVec 40)
  /-- OCC (R275). Runs ambient, intensity, confidence, prediction, score, flag and placement updates. -/
  | occ (c : Fin 12) (w : BitVec 40)
  /-- EMIT (R276). Places one record in the core's group buffer, or is refused. -/
  | emit (c : Fin 12) (w : BitVec 40)
  /-- CUPD (R277). Writes the held tile's words 37 to 46, releases the cell and hands its group to the ring. -/
  | cupd (c : Fin 12) (w : BitVec 40)
  /-- WATCHDOG_EXPIRY (R243). WD × 10 µs pass without WAITA, so WD_EXP sets and a sequencer fault may be reported. -/
  | watchdogExpiry (c : Fin 12)
  /-- CORE_START (R245). A write of 1 to CTRL.START clears the core and begins loading its image, or is refused. -/
  | coreStart (a : Accessor) (c : Fin 12)
  /-- CORE_LOAD_DONE (R245). Image checks finish and the core enters RUNNING, or STOPPED with LOAD_ERR. -/
  | coreLoadDone (c : Fin 12)
  /-- CORE_STOP (R245). A write of 1 to CTRL.STOP stops the core after its current instruction. -/
  | coreStop (a : Accessor) (c : Fin 12)
  /-- HOSTEV (R232). A write of 1 to CTRL.HOSTEV sets the core's HOST event. -/
  | hostev (a : Accessor) (c : Fin 12)
  /-- PROG_LOCK (R245). A write of 1 to CTRL.PROG_LOCK forbids later starts until reset. -/
  | progLock (a : Accessor) (c : Fin 12)
  /-- EPH_LOAD_GO (R247). A write of 1 to EPH_LOAD.GO starts verification of an Ephemeris table, or is refused. -/
  | ephLoadGo (a : Accessor) (v : Word)
  /-- EPH_VERIFY_DONE (R247). Verification ends with READY set or with ERR and FAIL_COL. -/
  | ephVerifyDone
  /-- COMMIT_GO (R283). A write of 1 to a bit of DEV.COMMIT.GO commits that group or merges with its pending commit. -/
  | commitGo (a : Accessor) (v : Word)
  /-- REQUEST_IDLE (R296). MODE_REQ target IDLE moves the device to IDLE or is refused. -/
  | requestIdle (a : Accessor)
  /-- REQUEST_ARMED (R296). MODE_REQ target ARMED enters ARMED and starts the resonance search, or is refused. -/
  | requestArmed (a : Accessor)
  /-- REQUEST_SCAN (R297). MODE_REQ target SCAN sets BUSY and starts the Dome's entry checks, or is refused. -/
  | requestScan (a : Accessor)
  /-- REQUEST_SAFE (R296). MODE_REQ target SAFE takes the device to SAFE. -/
  | requestSafe (a : Accessor)
  /-- SCAN_ENTRY_CHECKS_DONE (R336). The Dome's entry checks finish and the device enters SCAN, DEGRADED or HOLDOVER, or
  stays ARMED with ERR. -/
  | scanEntryChecksDone (env : EntryEnv)
  /-- RESET_END (R302). Power-on reset and RESET_N release have both ended and the device enters BOOT. -/
  | resetEnd (bootsel : BitVec 2)
  /-- BOOT_GO (R306). A write of BOOT_CTRL.GO starts the checks of a host-loaded image, or is refused. -/
  | bootGo (a : Accessor) (v : Word)
  /-- BOOT_CHECKS_DONE (R304). The boot image checks and Dome self-test finish, entering IDLE or leaving BOOT with ERR. -/
  | bootChecksDone (env : BootEnv)
  /-- SUPPLY_INPUT_OUT_OF_WINDOW (R313). A supply input stays outside its window for 50 ns; the rail switches over or a
  supply fault is reported. -/
  | supplyInputOutOfWindow (rail : Fin 4) (backup : Bool)
  /-- SUPPLY_SWITCH_BACK (R314). A rail's main input has stayed in window for RET ms and the rail switches back to main. -/
  | supplySwitchBack (rail : Fin 4)
  /-- POWER_ON_RESET (R315). A rail below its reset level for 1 µs starts the power-on reset. -/
  | powerOnReset (rail : Fin 4)
  /-- RESET_N_ASSERT (R317). RESET_N low for at least 1 µs starts a reset. -/
  | resetNAssert
  /-- RESET_N_RELEASE (R318). RESET_N rises, ending the pin reset and recording the hold length. -/
  | resetNRelease
  /-- SOFT_RESET (R320). A write to RST_CTRL with the key and SOFT starts a reset, or is refused. -/
  | softReset (a : Accessor) (v : Word)
  /-- DOME_RESET (R317). The Dome requests a reset. -/
  | domeReset
  /-- FREEZE_PIN (R321). FREEZE_N low for 100 ns with PIN_EN requests a freeze. -/
  | freezePin
  /-- FREEZE (R321). A write of 1 to FRZ_CTRL.FREEZE requests a freeze. -/
  | freeze (a : Accessor)
  /-- DBG_LOCK (R321). A write of 1 to DBG_CFG.LOCK forbids setting FREEZE_EN until reset. -/
  | dbgLock (a : Accessor) (v : Word)
  /-- EXTEST (R323). TAP instruction driving the boundary register in FROZEN. -/
  | extest
  /-- SAMPLE_PRELOAD (R323). TAP instruction sampling or preloading the boundary register. -/
  | samplePreload (v : BitVec 68)
  /-- IDCODE (R323). TAP instruction returning the 32-bit identity. -/
  | idcode
  /-- FRZ_STAT (R323). TAP instruction returning the freeze status. -/
  | frzStat
  /-- FRZ_MEM (R324). TAP instruction reading any word address in FROZEN without side effects. -/
  | frzMem (addr : BitVec 26)
  /-- FRZ_CHAIN (R323). TAP instruction giving access to vendor scan chains in FROZEN. -/
  | frzChain
  /-- FRZ_RESUME (R325). TAP instruction restarting the clocks and entering SAFE. -/
  | frzResume
  /-- FRZ_RESET (R325). TAP instruction starting a reset with RST_CAUSE.TAP. -/
  | frzReset
  /-- BYPASS (R323). TAP instruction selecting the 1-bit bypass register. -/
  | bypass
  /-- DOME_FAULT_REACTION (R333). The Dome reacts to a reported fault by setting its FLT bit and changing mode as the
  fault table states. -/
  | domeFaultReaction
  /-- LOCKSTEP_MISMATCH (R329). The Dome comparator finds a mismatch and hardware drops LSR_EN and SOUT. -/
  | lockstepMismatch
  /-- DOME_PERIODIC_CHECK (R335). A periodic Dome check runs and sets its FLT bit on failure. -/
  | domePeriodicCheck (c : DomeCheck) (failed : Bool)
  /-- LSR_EN_RAISE (R334). The Dome drives LSR_EN high once its conditions have held. -/
  | lsrEnRaise
  /-- DEG_ACK (R332). A write of 1 to DEG_CTRL.ACK acknowledges DEGRADED, or is refused while a FLT bit is set. -/
  | degAck (a : Accessor)
  /-- DEGRADED_EXIT (R300). After an accepted ACK the device leaves DEGRADED for SCAN or HOLDOVER. -/
  | degradedExit
  /-- DEG_TMAX_EXPIRY (R332). DEGRADED_TMAX expires, DEG_TMO sets and the device enters SAFE. -/
  | degTmaxExpiry
  /-- FLT_CLEAR (R349). A write of 1 to a SAFE.FLT bit clears it only when its source is clear. -/
  | fltClear (a : Accessor) (v : Word)
  /-- SF2_LOCK (R349). A write of 1 to SF2_CFG.LOCK locks the SAFE block's RWL fields until reset. -/
  | sf2Lock (a : Accessor) (v : Word)
  /-- ZONE_VERDICT (R338). At B + 2.5 ms each enabled zone is judged occupied, incomplete or clear and the demands
  update. -/
  | zoneVerdict
  /-- FRAME_TIMEOUT (R340). No frame boundary within FRAME_MAX turns off every demand and enters SAFE. -/
  | frameTimeout
  /-- SOUT_TEST_GAP (R343). A channel's test-gap slot starts and the channel is held low and read back. -/
  | soutTestGap (ch : Fin 4) (readHigh : Bool)
  /-- SOUT_READBACK_FAILURE (R344). A readback check fails, sets SOUT_STAT.FLT and holds the pair off. -/
  | soutReadbackFailure (ch : Fin 4)
  /-- TP_GAP (R345). TPA or TPB goes low for its 200 µs test gap and the gap checks are made. -/
  | tpGap (src : Bool) (ins : BitVec 8)
  /-- TP_OVERCURRENT (R345). A TPA or TPB load above 10 mA for 50 µs sets OVC and FLT.TP. -/
  | tpOvercurrent (src : Bool)
  /-- CONTACT_OPEN (R346). A SIN channel reads low for 100 µs outside its gap window and is open. -/
  | contactOpen (k : Fin 4) (chB : Bool)
  /-- CONTACT_DISCREPANCY (R346). One channel closed and the other open for DISC_T sets DISC and SIN_X. -/
  | contactDiscrepancy (k : Fin 4)
  /-- BLOCK_LOCK_LOSS (R350). 16 invalid sync headers in 64 blocks lose block lock and take the port down. -/
  | blockLockLoss (p : PortRun)
  /-- TRAIN (R362). A received TRAIN frame advances bring-up, or takes an UP port down. -/
  | train (p : Fin 3) (f : List Word)
  /-- FLOW (R361). A received FLOW frame updates the partner's credits and completes bring-up to UP. -/
  | flow (p : Fin 3) (f : List Word)
  /-- FLOW_SEND (R361). The device sends a FLOW frame after freeing buffers or at least every 10 µs. -/
  | flowSend (p : Fin 3)
  /-- ACK_RECEIVED (R359). An acknowledgement advances, releasing unacknowledged frames and freeing ring slots. -/
  | ackReceived (p : Fin 3) (rx : LineRun)
  /-- NAK_RECEIVED (R360). A received NAK resends every unacknowledged frame after the current one. -/
  | nakReceived (p : Fin 3) (rx : LineRun)
  /-- ACK_TIMEOUT (R360). The oldest unacknowledged frame waits 20 µs and is resent; eight in a row take the port down. -/
  | ackTimeout (p : Fin 3)
  /-- REG_RD (R366). A REG_RD frame reads N consecutive registers and is answered by RESP or ERR. -/
  | regRd (p : Fin 3) (f : List Word)
  /-- REG_WR (R366). A REG_WR frame writes consecutive registers and is answered by RESP or ERR. -/
  | regWr (p : Fin 3) (f : List Word)
  /-- MEM_RD (R366). A MEM_RD frame reads words of context memory or the shared store. -/
  | memRd (p : Fin 3) (f : List Word)
  /-- MEM_WR (R425). A MEM_WR frame writes words of memory, rewriting each tile's CRC, or is refused. -/
  | memWr (p : Fin 3) (f : List Word)
  /-- MBX_SEND (R379). An MBX frame with OP 0 places a stamped message in a mailbox and rings its doorbell. -/
  | mbxSend (p : Fin 3) (f : List Word)
  /-- MBX_RECV (R379). An MBX frame with OP 1 removes the mailbox's message. -/
  | mbxRecv (p : Fin 3) (f : List Word)
  /-- SEM_QUERY (R376). A SEM frame with OP 0 returns the state of all 32 semaphores. -/
  | semQuery (p : Fin 3) (f : List Word)
  /-- CHAIN (R370). A received CHAIN frame updates the head's PRESENT map. -/
  | chain (p : Fin 3) (f : List Word)
  /-- DOWNSTREAM_FORWARD (R371). A request whose HOP names a device further down is forwarded out of port C. -/
  | downstreamForward (p : Fin 3) (f : List Word)
  /-- UPSTREAM_FRAME_FORWARD (R371). A frame from a chained device arriving on port C is forwarded out of the head port
  ORIG names. -/
  | upstreamFrameForward (f : List Word)
  /-- RETRAIN (R363). A write of 1 to LINKp.CTRL.RETRAIN takes the port down and retrains it. -/
  | retrain (a : Accessor) (p : Fin 3)
  /-- PORT_ENABLE_WRITE (R362). A write to LINKp.CTRL.EN disables the port or starts its bring-up. -/
  | portEnableWrite (a : Accessor) (p : Fin 3) (v : Word)
  /-- PORT_FAULT (R368). A required port not UP for DOWN_T ms sets FAULT and reports or latches a port fault. -/
  | portFault (p : Fin 3)
  /-- PORT_FAULT_CLEAR (R368). A write of 1 to LINKp.STAT.FAULT clears it only while UP or REQ is 0. -/
  | portFaultClear (a : Accessor) (p : Fin 3)
  /-- SEM_CLAIM (R373). A read of SEM.CLAIMn grants the semaphore or returns HELD and marks a port waiting. -/
  | semClaim (a : Accessor) (n : Fin 32)
  /-- SEM_SETG (R373). An owner's write with SETG replaces the guard's GRP and BLK. -/
  | semSetg (a : Accessor) (n : Fin 32) (v : Word)
  /-- SEM_REL (R373). An owner's write with REL releases the semaphore and notifies waiting ports. -/
  | semRel (a : Accessor) (n : Fin 32)
  /-- SEM_HOLD_EXPIRY (R374). An owning host's port out of UP for SEM_HOLD ms releases its semaphores. -/
  | semHoldExpiry (p : Fin 3)
  /-- MBX_ACK (R380). A write of 1 to MBXm.ACK.ACK sets the acknowledgement doorbell and notifies its target. -/
  | mbxAck (a : Accessor) (m : Fin 16)
  /-- MBX_ACKC (R380). A write of 1 to MBXm.ACK.ACKC clears ACK. -/
  | mbxAckc (a : Accessor) (m : Fin 16)
  /-- SCRUB_TILE_CHECK (R390). The scrubber checks its next tile, re-initialising a failing context tile or logging a
  failing shared-store tile. -/
  | scrubTileCheck
  /-- SCRUB_RETRY (R390). A tile skipped because it was held in an open visit is retried 20 µs later. -/
  | scrubRetry
  /-- BREAKDOWN_MEASUREMENT (R393). Every 1 ms a strip measures its reference SPADs' breakdown and updates VBD. -/
  | breakdownMeasurement (d : Fin 24) (vbd vspad : BitVec 16)
  /-- HOT_SPAD_TEST_WINDOW (R394). A 20 µs hot-SPAD counting window on one group ends, and finished groups may retire
  hot SPADs. -/
  | hotSpadTestWindow (d : Fin 24) (counts : List Nat)
  /-- AGEING_INTERVAL_END (R396). At each ageing interval end Meridian forms E_MEAN and may step and commit the pulse
  width. -/
  | ageingIntervalEnd
  /-- AGE_CAPTURE (R396). A write of 1 to AGE_CFG.CAPTURE takes E_REF from the next complete interval. -/
  | ageCapture (a : Accessor)
  /-- ALMANAC_RECORD (R397). Every ALM_CFG.IVL × 10 ms Meridian compiles and sends an Almanac EVENT record. -/
  | almanacRecord
  /-- REGISTER_WRITE (R7). A write to a register with no row of its own updates its fields by their access codes, or is
  refused. -/
  | registerWrite (a : Accessor) (addr : BitVec 25) (v : Word)
  /-- BLOCK_LOCK (R350). A receive lane takes block lock after 64 consecutive valid sync headers, which lets bring-up
  receive TRAIN frames. -/
  | blockLock (p : PortRun)
  /-- FRAME_DISCARDED (R360). A received frame with an invalid block, a failing CRC, a wrong SEQ or a malformed type is
  discarded, counted, and NAK or a repeat acknowledgement is sent. -/
  | frameDiscarded (p : Fin 3) (why : BadFrame)
  /-- SUPPLY_INPUT_IN_WINDOW (R313). A supply input returns inside its window, which updates M_OK or B_OK and starts the
  switch-back count or restarts the power-on reset count. -/
  | supplyInputInWindow (rail : Fin 4) (backup : Bool)
  /-- SOUT_HALF_PERIOD (R342). At each 10 µs half-period boundary the toggling SOUT channels change level, the readback
  is compared, and a newly on demand starts toggling. -/
  | soutHalfPeriod (levels : BitVec 4)
  /-- CONTACT_CLOSED (R346). A SIN channel that read as open reads high again and counts as closed, which lets LSR_EN
  rise and the SCAN entry check pass. -/
  | contactClosed (k : Fin 4) (chB : Bool)
  /-- SHARED_STORE_CLEARED (R308). Within 1.1 ms of reset end the fuses have been read and the memories initialised, and
  requests waiting in the port receive buffers begin to execute in order. -/
  | sharedStoreCleared
  deriving DecidableEq, Repr

end Sys2Proof
end

