-- ==== Sys2Proof/WellFormed.lean ====
section
/-!
DEFINITION. Which commands can reach the block. The operand types bound register numbers, strips and banks; what is left is
checked here: how many samples a converter delivers and how long a received frame is.
-/
namespace Sys2Proof

/-- A frame without its trailer: a header word and 0 to 63 body words (R354). -/
def frameLenOk (f : List Word) : Bool := decide (1 ≤ f.length ∧ f.length ≤ 64)

/-- One block, or a frame of at most 65 with its trailer (R354). -/
def runLenOk (rx : LineRun) : Bool := decide (1 ≤ rx.blocks.length ∧ rx.blocks.length ≤ 65)

/-- A command whose operands have the lengths and the order the spec gives them. -/
def Instr.wf : Instr → Bool
  | .pulseEnergyDelivery xs => decide (xs.length = 68)
  | .maskVerdict xs => decide (xs.length = 64)
  | .captureRecordWritten xs => decide (xs.length ≤ 4096)
  | .excitationHalfPeriodEnd w0 w1 w2 w3 =>
    decide (w0.currents.length = 32) && decide (w1.currents.length = 32) &&
    decide (w2.currents.length = 32) && decide (w3.currents.length = 32)
  | .bridgeOutput _ xs => decide (xs.length = 10 ∨ xs.length = 20 ∨ xs.length = 40 ∨ xs.length = 200)
  | .calTestComplete _ _ hits _ => decide (hits.length = 16)
  | .hotSpadTestWindow _ xs => decide (xs.length = 64)
  | .train _ f => frameLenOk f
  | .blockLock p => decide (p.rx.blocks.length = 64)
  | .blockLockLoss p => decide (p.rx.blocks.length = 64)
  | .ackReceived _ rx => runLenOk rx
  | .nakReceived _ rx => runLenOk rx
  | .frameDiscarded _ (.block rx) => runLenOk rx
  | .frameDiscarded _ (.crc rx) => runLenOk rx
  | .flow _ f => frameLenOk f
  | .regRd _ f => frameLenOk f
  | .regWr _ f => frameLenOk f
  | .memRd _ f => frameLenOk f
  | .memWr _ f => frameLenOk f
  | .mbxSend _ f => frameLenOk f
  | .mbxRecv _ f => frameLenOk f
  | .semQuery _ f => frameLenOk f
  | .chain _ f => frameLenOk f
  | .downstreamForward _ f => frameLenOk f
  | .upstreamFrameForward f => frameLenOk f
  | .frameDiscarded _ (.malformed f) => frameLenOk f
  | _ => true

end Sys2Proof
end

