-- ==== Sys2Proof/Decode.lean ====
section
/-!
DEFINITION. The command a word spells by the table's bits. spec/opcode_table.json gives no row any bits: a command reaches
the block as an access, a frame or an event, and no word spells one.
-/
namespace Sys2Proof

/-- The command that a word of the table spells: no row of the table gives bits, so none. -/
def decodeTableWord (nbits w : Nat) : Option Instr :=
  match nbits, w with
  | _, _ => none

end Sys2Proof
end

