-- ==== Sys2Proof/Config.lean ====
section
/-!
DEFINITION. What the spec leaves open: free values, opaque so that no proof can see them.
-/
namespace Sys2Proof

/-- Where a free value is taken: one name for each open point of the spec (each has a log entry). -/
inductive FreeSite
  /-- Rounding of the horizontal tracker's exact result, −1, 0 or +1 unit (R108, R109). -/
  | tracker
  /-- Error of a crossing instant, within 50 ps (R123). -/
  | crossing
  /-- Error of a linearised angle, within 1 LSB (R134). -/
  | angle
  /-- Error of a housekeeping temperature, within 0.02 °C (R141); also the on-die diode's curve. -/
  | hkTemp
  /-- The tick of each 25 that carries the REFCLK edge after a TPLL lock (R36). -/
  | refEdge
  /-- By how much a divider reset that moves the SPLL dividers stretches a core clock cycle, at most one VCO period (R39). -/
  | stretch
  /-- The recovery time of a SPAD in ps, by its number 256 v + u, within 3.0 ns (R154). -/
  | recovery
  /-- Contents of the vendor scan chains (R323). -/
  | scanChain
  /-- Levels of boundary pins that the model does not hold (R323). -/
  | boundary
  /-- The level of ARM_BUS between another unit's rising edges (R99, R103). -/
  | armBus
  /-- The line bits that a lane has sent before a frame, with the idle blocks in between (R350). -/
  | lineBits
  /-- The equaliser settings that a bring-up finds (R352). -/
  | equaliser
  /-- A value the spec does not state. -/
  | unstated
  deriving DecidableEq, Repr

/-- A free value: the n-th taken at a site. No body: nothing can evaluate it. -/
opaque Config.free : FreeSite → Nat → Nat

/-- Junction temperature in 0.01 °C for a code of the on-die diode, which is factory-calibrated (R141 curve 6). -/
opaque Config.diodeTemp : Nat → Int

end Sys2Proof
end

