-- ==== Sys2Proof/Machine/Tab.lean ====
section
/-!
DEFINITION. A finite table keyed by a natural number: a list of key and value pairs with strictly rising keys. What an
unlisted key reads as is the caller's default. Memory, registers and the arrays of units are such tables.
-/
namespace Sys2Proof.Machine

/-- A table: pairs with strictly rising keys. -/
abbrev Tab (β : Type) := List (Nat × β)

/-- The value listed at a key. -/
def Tab.find? {β : Type} : Tab β → Nat → Option β
  | [], _ => none
  | (a, v) :: t, k => if a = k then some v else Tab.find? t k

/-- The value at a key; an unlisted key reads as the default. -/
def Tab.get {β : Type} (d : Nat → β) (t : Tab β) (k : Nat) : β :=
  match Tab.find? t k with
  | some v => v
  | none => d k

/-- List a value at a key, in key order. -/
def Tab.put {β : Type} : Tab β → Nat → β → Tab β
  | [], k, v => [(k, v)]
  | (a, w) :: t, k, v =>
    if k < a then (k, v) :: (a, w) :: t
    else if k = a then (k, v) :: t
    else (a, w) :: Tab.put t k v

/-- Unlist a key. -/
def Tab.del {β : Type} : Tab β → Nat → Tab β
  | [], _ => []
  | (a, w) :: t, k => if a = k then t else (a, w) :: Tab.del t k

/-- Write a value, keeping the canonical form: writing the default removes the entry. -/
def Tab.set {β : Type} [DecidableEq β] (d : Nat → β) (t : Tab β) (k : Nat) (v : β) : Tab β :=
  if v = d k then Tab.del t k else Tab.put t k v

/-- Change the value at a key. -/
def Tab.upd {β : Type} (d : Nat → β) (t : Tab β) (k : Nat) (f : β → β) : Tab β :=
  Tab.put t k (f (Tab.get d t k))

/-- The keys rise strictly. -/
def Tab.sorted {β : Type} : Tab β → Bool
  | [] => true
  | [_] => true
  | (a, _) :: (b, w) :: t => decide (a < b) && Tab.sorted ((b, w) :: t)

/-- The canonical form: keys rise strictly, and no entry equals what its key reads as when unlisted. -/
def Tab.wf {β : Type} [DecidableEq β] (d : Nat → β) (t : Tab β) : Bool :=
  Tab.sorted t && t.all (fun p => decide (p.2 ≠ d p.1))

/-- Take one value over a list of numbers, in order. -/
def forEach {σ : Type} (l : List Nat) (s : σ) (f : σ → Nat → σ) : σ := l.foldl f s

end Sys2Proof.Machine
end

