-- ==== Sys2Proof/Machine/RegMap.lean ====
section
/-!
DEFINITION. The register map: every field of every register, with its address, bits, access code, commit group and
reset value, as the field tables of the functional chapters and spec/17_register_map.md give them (R7, R12, R403).
-/
namespace Sys2Proof.Machine

/-- The access codes of spec/00_scope.md R7. -/
inductive Acc | rw | ro | wo | w1c | w1s | rc | rws | rwl
  deriving DecidableEq, Repr

/-- The commit groups of spec/00_scope.md R11; the numbers are those of spec/12_scan_programs.md R282. -/
inductive Grp | firing | window | cell | rejection | mirror | frontEnd | time
  deriving DecidableEq, Repr

/-- How the instances of a register lie: at a base with strides, or at a core's block (R249, R250). -/
inductive Lay | lin | core
  deriving DecidableEq, Repr

/-- A reset value: a number; a fuse; `lin a d` is a + d i for instance i; `svc` is 0b111 << 3k; `first n v` is v for i < n. -/
inductive Rst | const (n : Nat) | fuse (k : Nat) | lin (a d : Nat) | svc | first (n v : Nat)
  deriving DecidableEq, Repr

/-- A field, or an array of like fields: instance i of n1 lies s1 addresses on, element j of n2 lies s2 addresses and
bs bits on. -/
structure Fld where
  lay : Lay
  base : Nat
  s1 : Nat
  n1 : Nat
  s2 : Nat
  n2 : Nat
  bs : Nat
  hi : Nat
  lo : Nat
  acc : Acc
  grp : Option Grp
  rst : Rst
  deriving DecidableEq, Repr

/-- First address of core c's block: Alidade 0 to 3, then Reticle 0 to 7 (R249, R250). -/
def coreBase (c : Nat) : Nat := if c < 4 then 0x1000C00 + 0x40 * c else 0x1000D00 + 0x20 * (c - 4)

/-- The address of a field of instance i, element j. -/
def Fld.addr (F : Fld) (i j : Nat) : Nat :=
  match F.lay with
  | .lin => F.base + F.s1 * i + F.s2 * j
  | .core => coreBase i + F.base

/-- Its lowest bit. -/
def Fld.low (F : Fld) (j : Nat) : Nat := F.lo + F.bs * j

/-- Its number of values. -/
def Fld.span (F : Fld) : Nat := 2 ^ (F.hi + 1 - F.lo)

/-- Where its value is held in the register tables: one key to each field. -/
def Fld.key (F : Fld) (i j : Nat) : Nat := F.addr i j * 64 + F.low j

/- DEV.COMMIT: spec/12_scan_programs.md R289 -/
def F.DEV.COMMIT.GO : Fld := ⟨.lin, 0x1000010, 0x0, 1, 0, 1, 0, 6, 0, .wo, none, .const 0⟩
/- DEV.CMT_STAT: spec/12_scan_programs.md R289 -/
def F.DEV.CMT_STAT.DONE : Fld := ⟨.lin, 0x1000011, 0x0, 1, 0, 1, 0, 14, 8, .w1c, none, .const 0⟩
def F.DEV.CMT_STAT.PEND : Fld := ⟨.lin, 0x1000011, 0x0, 1, 0, 1, 0, 6, 0, .ro, none, .const 0⟩
/- DEV.CMT_CNT: spec/12_scan_programs.md R289 -/
def F.DEV.CMT_CNT.MERGED : Fld := ⟨.lin, 0x1000012, 0x0, 1, 0, 1, 0, 47, 24, .rc, none, .const 0⟩
def F.DEV.CMT_CNT.COMMITS : Fld := ⟨.lin, 0x1000012, 0x0, 1, 0, 1, 0, 23, 0, .ro, none, .const 0⟩
/- DEV.ID: spec/13_modes_startup.md R327 -/
def F.DEV.ID.PART : Fld := ⟨.lin, 0x1000000, 0x0, 1, 0, 1, 0, 47, 32, .ro, none, .const 18582⟩
def F.DEV.ID.REV : Fld := ⟨.lin, 0x1000000, 0x0, 1, 0, 1, 0, 31, 24, .ro, none, .fuse 1⟩
def F.DEV.ID.SERIAL : Fld := ⟨.lin, 0x1000000, 0x0, 1, 0, 1, 0, 23, 0, .ro, none, .fuse 2⟩
/- DEV.MODE_STAT: spec/13_modes_startup.md R327 -/
def F.DEV.MODE_STAT.SEQ : Fld := ⟨.lin, 0x1000001, 0x0, 1, 0, 1, 0, 47, 32, .ro, none, .const 0⟩
def F.DEV.MODE_STAT.ARM_ERR : Fld := ⟨.lin, 0x1000001, 0x0, 1, 0, 1, 0, 31, 28, .ro, none, .const 0⟩
def F.DEV.MODE_STAT.REQ_ERR : Fld := ⟨.lin, 0x1000001, 0x0, 1, 0, 1, 0, 27, 24, .ro, none, .const 0⟩
def F.DEV.MODE_STAT.LATCHED : Fld := ⟨.lin, 0x1000001, 0x0, 1, 0, 1, 0, 11, 11, .ro, none, .const 0⟩
def F.DEV.MODE_STAT.ON_BACKUP : Fld := ⟨.lin, 0x1000001, 0x0, 1, 0, 1, 0, 10, 10, .ro, none, .const 0⟩
def F.DEV.MODE_STAT.ARMED_OK : Fld := ⟨.lin, 0x1000001, 0x0, 1, 0, 1, 0, 9, 9, .ro, none, .const 0⟩
def F.DEV.MODE_STAT.BUSY : Fld := ⟨.lin, 0x1000001, 0x0, 1, 0, 1, 0, 8, 8, .ro, none, .const 0⟩
def F.DEV.MODE_STAT.PEND_TO : Fld := ⟨.lin, 0x1000001, 0x0, 1, 0, 1, 0, 6, 4, .ro, none, .const 0⟩
def F.DEV.MODE_STAT.MODE : Fld := ⟨.lin, 0x1000001, 0x0, 1, 0, 1, 0, 2, 0, .ro, none, .const 0⟩
/- DEV.MODE_REQ: spec/13_modes_startup.md R327 -/
def F.DEV.MODE_REQ.TARGET : Fld := ⟨.lin, 0x1000002, 0x0, 1, 0, 1, 0, 2, 0, .wo, none, .const 0⟩
/- DEV.RST_CAUSE: spec/13_modes_startup.md R327 -/
def F.DEV.RST_CAUSE.TAP : Fld := ⟨.lin, 0x1000004, 0x0, 1, 0, 1, 0, 4, 4, .w1c, none, .const 0⟩
def F.DEV.RST_CAUSE.DOME : Fld := ⟨.lin, 0x1000004, 0x0, 1, 0, 1, 0, 3, 3, .w1c, none, .const 0⟩
def F.DEV.RST_CAUSE.SOFT : Fld := ⟨.lin, 0x1000004, 0x0, 1, 0, 1, 0, 2, 2, .w1c, none, .const 0⟩
def F.DEV.RST_CAUSE.PIN : Fld := ⟨.lin, 0x1000004, 0x0, 1, 0, 1, 0, 1, 1, .w1c, none, .const 0⟩
def F.DEV.RST_CAUSE.POR : Fld := ⟨.lin, 0x1000004, 0x0, 1, 0, 1, 0, 0, 0, .w1c, none, .const 0⟩
/- DEV.RST_CTRL: spec/13_modes_startup.md R327 -/
def F.DEV.RST_CTRL.KEY : Fld := ⟨.lin, 0x1000005, 0x0, 1, 0, 1, 0, 47, 32, .wo, none, .const 0⟩
def F.DEV.RST_CTRL.SOFT : Fld := ⟨.lin, 0x1000005, 0x0, 1, 0, 1, 0, 0, 0, .wo, none, .const 0⟩
/- DEV.SUP_STAT: spec/13_modes_startup.md R327 -/
def F.DEV.SUP_STAT.DUAL : Fld := ⟨.lin, 0x1000008, 0x0, 1, 0, 1, 0, 19, 16, .w1c, none, .const 0⟩
def F.DEV.SUP_STAT.BK_FLT : Fld := ⟨.lin, 0x1000008, 0x0, 1, 0, 1, 0, 15, 12, .w1c, none, .const 0⟩
def F.DEV.SUP_STAT.B_OK : Fld := ⟨.lin, 0x1000008, 0x0, 1, 0, 1, 0, 11, 8, .ro, none, .const 0⟩
def F.DEV.SUP_STAT.M_OK : Fld := ⟨.lin, 0x1000008, 0x0, 1, 0, 1, 0, 7, 4, .ro, none, .const 0⟩
def F.DEV.SUP_STAT.ON_BK : Fld := ⟨.lin, 0x1000008, 0x0, 1, 0, 1, 0, 3, 0, .ro, none, .const 0⟩
/- DEV.SUP_CFG: spec/13_modes_startup.md R327 -/
def F.DEV.SUP_CFG.RET : Fld := ⟨.lin, 0x1000009, 0x0, 1, 0, 1, 0, 15, 8, .rwl, none, .const 10⟩
def F.DEV.SUP_CFG.BK_USE : Fld := ⟨.lin, 0x1000009, 0x0, 1, 0, 1, 0, 3, 0, .rwl, none, .const 15⟩
/- DEV.SUP_CNT: spec/13_modes_startup.md R327 -/
def F.DEV.SUP_CNT.SWITCH : Fld := ⟨.lin, 0x100000a, 0x0, 1, 0, 1, 0, 47, 32, .rc, none, .const 0⟩
def F.DEV.SUP_CNT.BK_MS : Fld := ⟨.lin, 0x100000a, 0x0, 1, 0, 1, 0, 31, 0, .ro, none, .const 0⟩
/- DEV.AON_STAT: spec/13_modes_startup.md R327 -/
def F.DEV.AON_STAT.RST_HOLD : Fld := ⟨.lin, 0x1000018, 0x0, 1, 0, 1, 0, 47, 32, .ro, none, .const 0⟩
def F.DEV.AON_STAT.FRZ_IGN : Fld := ⟨.lin, 0x1000018, 0x0, 1, 0, 1, 0, 31, 16, .rc, none, .const 0⟩
def F.DEV.AON_STAT.FRZ_DONE : Fld := ⟨.lin, 0x1000018, 0x0, 1, 0, 1, 0, 1, 1, .w1c, none, .const 0⟩
def F.DEV.AON_STAT.RST_STUCK : Fld := ⟨.lin, 0x1000018, 0x0, 1, 0, 1, 0, 0, 0, .w1c, none, .const 0⟩
/- DEV.DBG_CFG: spec/13_modes_startup.md R327 -/
def F.DEV.DBG_CFG.DISABLED : Fld := ⟨.lin, 0x1000019, 0x0, 1, 0, 1, 0, 9, 9, .ro, none, .fuse 3⟩
def F.DEV.DBG_CFG.LOCK : Fld := ⟨.lin, 0x1000019, 0x0, 1, 0, 1, 0, 8, 8, .w1s, none, .const 0⟩
def F.DEV.DBG_CFG.PIN_EN : Fld := ⟨.lin, 0x1000019, 0x0, 1, 0, 1, 0, 1, 1, .rwl, none, .const 1⟩
def F.DEV.DBG_CFG.FREEZE_EN : Fld := ⟨.lin, 0x1000019, 0x0, 1, 0, 1, 0, 0, 0, .rwl, none, .const 0⟩
/- DEV.FRZ_CTRL: spec/13_modes_startup.md R327 -/
def F.DEV.FRZ_CTRL.FREEZE : Fld := ⟨.lin, 0x100001a, 0x0, 1, 0, 1, 0, 0, 0, .wo, none, .const 0⟩
/- DEV.BOOT_CTRL: spec/13_modes_startup.md R327 -/
def F.DEV.BOOT_CTRL.GO : Fld := ⟨.lin, 0x1000020, 0x0, 1, 0, 1, 0, 16, 16, .wo, none, .const 0⟩
def F.DEV.BOOT_CTRL.SRC : Fld := ⟨.lin, 0x1000020, 0x0, 1, 0, 1, 0, 13, 0, .rw, none, .const 0⟩
/- DEV.BOOT_STAT: spec/13_modes_startup.md R327 -/
def F.DEV.BOOT_STAT.VERSION : Fld := ⟨.lin, 0x1000021, 0x0, 1, 0, 1, 0, 47, 32, .ro, none, .const 0⟩
def F.DEV.BOOT_STAT.OPEN : Fld := ⟨.lin, 0x1000021, 0x0, 1, 0, 1, 0, 15, 15, .ro, none, .const 0⟩
def F.DEV.BOOT_STAT.BUSY : Fld := ⟨.lin, 0x1000021, 0x0, 1, 0, 1, 0, 14, 14, .ro, none, .const 0⟩
def F.DEV.BOOT_STAT.ERR : Fld := ⟨.lin, 0x1000021, 0x0, 1, 0, 1, 0, 11, 8, .ro, none, .const 0⟩
def F.DEV.BOOT_STAT.USED : Fld := ⟨.lin, 0x1000021, 0x0, 1, 0, 1, 0, 5, 4, .ro, none, .const 3⟩
def F.DEV.BOOT_STAT.SEL : Fld := ⟨.lin, 0x1000021, 0x0, 1, 0, 1, 0, 1, 0, .ro, none, .const 0⟩
def fldsDEV0 : List Fld :=
  [F.DEV.COMMIT.GO, F.DEV.CMT_STAT.DONE, F.DEV.CMT_STAT.PEND,
   F.DEV.CMT_CNT.MERGED, F.DEV.CMT_CNT.COMMITS, F.DEV.ID.PART,
   F.DEV.ID.REV, F.DEV.ID.SERIAL, F.DEV.MODE_STAT.SEQ,
   F.DEV.MODE_STAT.ARM_ERR, F.DEV.MODE_STAT.REQ_ERR, F.DEV.MODE_STAT.LATCHED,
   F.DEV.MODE_STAT.ON_BACKUP, F.DEV.MODE_STAT.ARMED_OK, F.DEV.MODE_STAT.BUSY,
   F.DEV.MODE_STAT.PEND_TO, F.DEV.MODE_STAT.MODE, F.DEV.MODE_REQ.TARGET,
   F.DEV.RST_CAUSE.TAP, F.DEV.RST_CAUSE.DOME, F.DEV.RST_CAUSE.SOFT,
   F.DEV.RST_CAUSE.PIN, F.DEV.RST_CAUSE.POR, F.DEV.RST_CTRL.KEY,
   F.DEV.RST_CTRL.SOFT, F.DEV.SUP_STAT.DUAL, F.DEV.SUP_STAT.BK_FLT,
   F.DEV.SUP_STAT.B_OK, F.DEV.SUP_STAT.M_OK, F.DEV.SUP_STAT.ON_BK,
   F.DEV.SUP_CFG.RET, F.DEV.SUP_CFG.BK_USE, F.DEV.SUP_CNT.SWITCH,
   F.DEV.SUP_CNT.BK_MS, F.DEV.AON_STAT.RST_HOLD, F.DEV.AON_STAT.FRZ_IGN,
   F.DEV.AON_STAT.FRZ_DONE, F.DEV.AON_STAT.RST_STUCK, F.DEV.DBG_CFG.DISABLED,
   F.DEV.DBG_CFG.LOCK]
def fldsDEV1 : List Fld :=
  [F.DEV.DBG_CFG.PIN_EN, F.DEV.DBG_CFG.FREEZE_EN, F.DEV.FRZ_CTRL.FREEZE,
   F.DEV.BOOT_CTRL.GO, F.DEV.BOOT_CTRL.SRC, F.DEV.BOOT_STAT.VERSION,
   F.DEV.BOOT_STAT.OPEN, F.DEV.BOOT_STAT.BUSY, F.DEV.BOOT_STAT.ERR,
   F.DEV.BOOT_STAT.USED, F.DEV.BOOT_STAT.SEL]
def fldsDEV : List Fld := fldsDEV0 ++ fldsDEV1

/- TIME.PLL_STAT: spec/02_time_and_clocks.md R60 -/
def F.TIME.PLL_STAT.LPLL_BAND : Fld := ⟨.lin, 0x1000100, 0x0, 1, 0, 1, 0, 26, 21, .ro, none, .const 0⟩
def F.TIME.PLL_STAT.SPLL_BAND : Fld := ⟨.lin, 0x1000100, 0x0, 1, 0, 1, 0, 20, 15, .ro, none, .const 0⟩
def F.TIME.PLL_STAT.TPLL_BAND : Fld := ⟨.lin, 0x1000100, 0x0, 1, 0, 1, 0, 14, 9, .ro, none, .const 0⟩
def F.TIME.PLL_STAT.REF_LOSS : Fld := ⟨.lin, 0x1000100, 0x0, 1, 0, 1, 0, 8, 8, .w1c, none, .const 0⟩
def F.TIME.PLL_STAT.LPLL_LOL : Fld := ⟨.lin, 0x1000100, 0x0, 1, 0, 1, 0, 7, 7, .w1c, none, .const 0⟩
def F.TIME.PLL_STAT.SPLL_LOL : Fld := ⟨.lin, 0x1000100, 0x0, 1, 0, 1, 0, 6, 6, .w1c, none, .const 0⟩
def F.TIME.PLL_STAT.TPLL_LOL : Fld := ⟨.lin, 0x1000100, 0x0, 1, 0, 1, 0, 5, 5, .w1c, none, .const 0⟩
def F.TIME.PLL_STAT.LPLL_LOCK : Fld := ⟨.lin, 0x1000100, 0x0, 1, 0, 1, 0, 2, 2, .ro, none, .const 0⟩
def F.TIME.PLL_STAT.SPLL_LOCK : Fld := ⟨.lin, 0x1000100, 0x0, 1, 0, 1, 0, 1, 1, .ro, none, .const 0⟩
def F.TIME.PLL_STAT.TPLL_LOCK : Fld := ⟨.lin, 0x1000100, 0x0, 1, 0, 1, 0, 0, 0, .ro, none, .const 0⟩
/- TIME.PLL_CTRL: spec/02_time_and_clocks.md R60 -/
def F.TIME.PLL_CTRL.RELOCK_L : Fld := ⟨.lin, 0x1000101, 0x0, 1, 0, 1, 0, 1, 1, .wo, none, .const 0⟩
def F.TIME.PLL_CTRL.RELOCK_T : Fld := ⟨.lin, 0x1000101, 0x0, 1, 0, 1, 0, 0, 0, .wo, none, .const 0⟩
/- TIME.SYNC_CFG: spec/02_time_and_clocks.md R60 -/
def F.TIME.SYNC_CFG.ARM : Fld := ⟨.lin, 0x1000102, 0x0, 1, 0, 1, 0, 0, 0, .rwl, none, .const 0⟩
/- TIME.SYNC_STAT: spec/02_time_and_clocks.md R60 -/
def F.TIME.SYNC_STAT.SHIFTED : Fld := ⟨.lin, 0x1000103, 0x0, 1, 0, 1, 0, 1, 1, .w1c, none, .const 0⟩
def F.TIME.SYNC_STAT.DONE : Fld := ⟨.lin, 0x1000103, 0x0, 1, 0, 1, 0, 0, 0, .w1c, none, .const 0⟩
/- TIME.SSC_CFG: spec/02_time_and_clocks.md R60 -/
def F.TIME.SSC_CFG.NSEG : Fld := ⟨.lin, 0x1000104, 0x0, 1, 0, 1, 0, 8, 4, .rwl, none, .const 0⟩
def F.TIME.SSC_CFG.EN : Fld := ⟨.lin, 0x1000104, 0x0, 1, 0, 1, 0, 0, 0, .rwl, none, .const 0⟩
/- TIME.SSC_STAT: spec/02_time_and_clocks.md R60 -/
def F.TIME.SSC_STAT.CUR_SEG : Fld := ⟨.lin, 0x1000105, 0x0, 1, 0, 1, 0, 7, 4, .ro, none, .const 0⟩
def F.TIME.SSC_STAT.ACTIVE : Fld := ⟨.lin, 0x1000105, 0x0, 1, 0, 1, 0, 1, 1, .ro, none, .const 0⟩
def F.TIME.SSC_STAT.TBL_ERR : Fld := ⟨.lin, 0x1000105, 0x0, 1, 0, 1, 0, 0, 0, .w1c, none, .const 0⟩
/- TIME.SSC_SEG: spec/02_time_and_clocks.md R60 -/
def F.TIME.SSC_SEG.LEN : Fld := ⟨.lin, 0x1000110, 0x1, 16, 0, 1, 0, 26, 16, .rwl, none, .const 0⟩
def F.TIME.SSC_SEG.END_PPM : Fld := ⟨.lin, 0x1000110, 0x1, 16, 0, 1, 0, 12, 0, .rwl, none, .const 0⟩
/- TIME.NOW: spec/02_time_and_clocks.md R60 -/
def F.TIME.NOW.SEC : Fld := ⟨.lin, 0x1000120, 0x0, 1, 0, 1, 0, 47, 31, .ro, none, .const 0⟩
def F.TIME.NOW.TICK : Fld := ⟨.lin, 0x1000120, 0x0, 1, 0, 1, 0, 30, 0, .ro, none, .const 0⟩
/- TIME.NOW_EPOCH: spec/02_time_and_clocks.md R60 -/
def F.TIME.NOW_EPOCH.EPOCH : Fld := ⟨.lin, 0x1000121, 0x0, 1, 0, 1, 0, 31, 0, .ro, none, .const 0⟩
/- TIME.SET_SEC: spec/02_time_and_clocks.md R60 -/
def F.TIME.SET_SEC.LOAD : Fld := ⟨.lin, 0x1000122, 0x0, 1, 0, 1, 0, 32, 32, .rws, (some .time), .const 0⟩
def F.TIME.SET_SEC.VALUE : Fld := ⟨.lin, 0x1000122, 0x0, 1, 0, 1, 0, 31, 0, .rws, (some .time), .const 0⟩
/- TIME.STAT: spec/02_time_and_clocks.md R60 -/
def F.TIME.STAT.STEPPED : Fld := ⟨.lin, 0x1000123, 0x0, 1, 0, 1, 0, 1, 1, .w1c, none, .const 0⟩
def F.TIME.STAT.SUSPECT : Fld := ⟨.lin, 0x1000123, 0x0, 1, 0, 1, 0, 0, 0, .w1c, none, .const 0⟩
/- TIME.PPS_CFG: spec/02_time_and_clocks.md R60 -/
def F.TIME.PPS_CFG.OFFSET : Fld := ⟨.lin, 0x1000124, 0x0, 1, 0, 1, 0, 35, 12, .rws, (some .time), .const 0⟩
def F.TIME.PPS_CFG.RATE : Fld := ⟨.lin, 0x1000124, 0x0, 1, 0, 1, 0, 11, 4, .rws, (some .time), .const 200⟩
def F.TIME.PPS_CFG.MODE : Fld := ⟨.lin, 0x1000124, 0x0, 1, 0, 1, 0, 1, 0, .rws, (some .time), .const 0⟩
/- TIME.PPS_STAT: spec/02_time_and_clocks.md R60 -/
def F.TIME.PPS_STAT.SLEWING : Fld := ⟨.lin, 0x1000125, 0x0, 1, 0, 1, 0, 2, 2, .ro, none, .const 0⟩
def F.TIME.PPS_STAT.LOST : Fld := ⟨.lin, 0x1000125, 0x0, 1, 0, 1, 0, 1, 1, .w1c, none, .const 0⟩
def F.TIME.PPS_STAT.PRESENT : Fld := ⟨.lin, 0x1000125, 0x0, 1, 0, 1, 0, 0, 0, .ro, none, .const 0⟩
/- TIME.PPS_STAMP: spec/02_time_and_clocks.md R60 -/
def F.TIME.PPS_STAMP.STAMP : Fld := ⟨.lin, 0x1000126, 0x0, 1, 0, 1, 0, 47, 0, .ro, none, .const 0⟩
/- TIME.PPS_ERR: spec/02_time_and_clocks.md R60 -/
def F.TIME.PPS_ERR.PHASE : Fld := ⟨.lin, 0x1000127, 0x0, 1, 0, 1, 0, 43, 40, .ro, none, .const 0⟩
def F.TIME.PPS_ERR.ERR : Fld := ⟨.lin, 0x1000127, 0x0, 1, 0, 1, 0, 35, 0, .ro, none, .const 0⟩
/- TIME.PPS_CNT: spec/02_time_and_clocks.md R60 -/
def F.TIME.PPS_CNT.ACCEPTED : Fld := ⟨.lin, 0x1000128, 0x0, 1, 0, 1, 0, 47, 32, .ro, none, .const 0⟩
def F.TIME.PPS_CNT.OUTLIER : Fld := ⟨.lin, 0x1000128, 0x0, 1, 0, 1, 0, 31, 16, .rc, none, .const 0⟩
def F.TIME.PPS_CNT.GLITCH : Fld := ⟨.lin, 0x1000128, 0x0, 1, 0, 1, 0, 15, 0, .rc, none, .const 0⟩
/- TIME.FMU_CFG: spec/02_time_and_clocks.md R60 -/
def F.TIME.FMU_CFG.NPER : Fld := ⟨.lin, 0x1000130, 0x0, 1, 0, 1, 0, 23, 8, .rw, none, .const 1⟩
def F.TIME.FMU_CFG.PRESC : Fld := ⟨.lin, 0x1000130, 0x0, 1, 0, 1, 0, 5, 4, .rw, none, .const 0⟩
def F.TIME.FMU_CFG.SRC : Fld := ⟨.lin, 0x1000130, 0x0, 1, 0, 1, 0, 3, 2, .rw, none, .const 0⟩
def F.TIME.FMU_CFG.CONT : Fld := ⟨.lin, 0x1000130, 0x0, 1, 0, 1, 0, 1, 1, .rw, none, .const 0⟩
def F.TIME.FMU_CFG.START : Fld := ⟨.lin, 0x1000130, 0x0, 1, 0, 1, 0, 0, 0, .wo, none, .const 0⟩
/- TIME.FMU_STAT: spec/02_time_and_clocks.md R60 -/
def F.TIME.FMU_STAT.TIMEOUT : Fld := ⟨.lin, 0x1000131, 0x0, 1, 0, 1, 0, 3, 3, .w1c, none, .const 0⟩
def F.TIME.FMU_STAT.OVR : Fld := ⟨.lin, 0x1000131, 0x0, 1, 0, 1, 0, 2, 2, .w1c, none, .const 0⟩
def F.TIME.FMU_STAT.DONE : Fld := ⟨.lin, 0x1000131, 0x0, 1, 0, 1, 0, 1, 1, .w1c, none, .const 0⟩
def F.TIME.FMU_STAT.BUSY : Fld := ⟨.lin, 0x1000131, 0x0, 1, 0, 1, 0, 0, 0, .ro, none, .const 0⟩
/- TIME.FMU_RES: spec/02_time_and_clocks.md R60 -/
def F.TIME.FMU_RES.RES : Fld := ⟨.lin, 0x1000132, 0x0, 1, 0, 1, 0, 47, 0, .ro, none, .const 0⟩
def fldsTIME0 : List Fld :=
  [F.TIME.PLL_STAT.LPLL_BAND, F.TIME.PLL_STAT.SPLL_BAND, F.TIME.PLL_STAT.TPLL_BAND,
   F.TIME.PLL_STAT.REF_LOSS, F.TIME.PLL_STAT.LPLL_LOL, F.TIME.PLL_STAT.SPLL_LOL,
   F.TIME.PLL_STAT.TPLL_LOL, F.TIME.PLL_STAT.LPLL_LOCK, F.TIME.PLL_STAT.SPLL_LOCK,
   F.TIME.PLL_STAT.TPLL_LOCK, F.TIME.PLL_CTRL.RELOCK_L, F.TIME.PLL_CTRL.RELOCK_T,
   F.TIME.SYNC_CFG.ARM, F.TIME.SYNC_STAT.SHIFTED, F.TIME.SYNC_STAT.DONE,
   F.TIME.SSC_CFG.NSEG, F.TIME.SSC_CFG.EN, F.TIME.SSC_STAT.CUR_SEG,
   F.TIME.SSC_STAT.ACTIVE, F.TIME.SSC_STAT.TBL_ERR, F.TIME.SSC_SEG.LEN,
   F.TIME.SSC_SEG.END_PPM, F.TIME.NOW.SEC, F.TIME.NOW.TICK,
   F.TIME.NOW_EPOCH.EPOCH, F.TIME.SET_SEC.LOAD, F.TIME.SET_SEC.VALUE,
   F.TIME.STAT.STEPPED, F.TIME.STAT.SUSPECT, F.TIME.PPS_CFG.OFFSET,
   F.TIME.PPS_CFG.RATE, F.TIME.PPS_CFG.MODE, F.TIME.PPS_STAT.SLEWING,
   F.TIME.PPS_STAT.LOST, F.TIME.PPS_STAT.PRESENT, F.TIME.PPS_STAMP.STAMP,
   F.TIME.PPS_ERR.PHASE, F.TIME.PPS_ERR.ERR, F.TIME.PPS_CNT.ACCEPTED,
   F.TIME.PPS_CNT.OUTLIER]
def fldsTIME1 : List Fld :=
  [F.TIME.PPS_CNT.GLITCH, F.TIME.FMU_CFG.NPER, F.TIME.FMU_CFG.PRESC,
   F.TIME.FMU_CFG.SRC, F.TIME.FMU_CFG.CONT, F.TIME.FMU_CFG.START,
   F.TIME.FMU_STAT.TIMEOUT, F.TIME.FMU_STAT.OVR, F.TIME.FMU_STAT.DONE,
   F.TIME.FMU_STAT.BUSY, F.TIME.FMU_RES.RES]
def fldsTIME : List Fld := fldsTIME0 ++ fldsTIME1

/- FIRE.CTRL: spec/03_firing.md R81 -/
def F.FIRE.CTRL.BANK_EN : Fld := ⟨.lin, 0x1000200, 0x0, 1, 0, 1, 0, 3, 0, .rw, none, .const 15⟩
/- FIRE.STAT: spec/03_firing.md R81 -/
def F.FIRE.STAT.TRIMMED : Fld := ⟨.lin, 0x1000201, 0x0, 1, 0, 1, 0, 12, 9, .ro, none, .const 0⟩
def F.FIRE.STAT.LSR_EN : Fld := ⟨.lin, 0x1000201, 0x0, 1, 0, 1, 0, 8, 8, .ro, none, .const 0⟩
def F.FIRE.STAT.READY : Fld := ⟨.lin, 0x1000201, 0x0, 1, 0, 1, 0, 7, 4, .ro, none, .const 0⟩
def F.FIRE.STAT.AWAKE : Fld := ⟨.lin, 0x1000201, 0x0, 1, 0, 1, 0, 3, 0, .ro, none, .const 0⟩
/- FIRE.PULSE_CFG: spec/03_firing.md R81 -/
def F.FIRE.PULSE_CFG.WIDTH : Fld := ⟨.lin, 0x1000202, 0x0, 1, 0, 1, 0, 7, 0, .rws, (some .firing), .const 60⟩
/- FIRE.DITH_CFG: spec/03_firing.md R81 -/
def F.FIRE.DITH_CFG.EN : Fld := ⟨.lin, 0x1000203, 0x0, 1, 0, 1, 0, 16, 16, .rws, (some .firing), .const 1⟩
def F.FIRE.DITH_CFG.SEED : Fld := ⟨.lin, 0x1000203, 0x0, 1, 0, 1, 0, 15, 0, .rws, (some .firing), .fuse 0⟩
/- FIRE.DITH_STAT: spec/03_firing.md R81 -/
def F.FIRE.DITH_STAT.LAST_D : Fld := ⟨.lin, 0x1000204, 0x0, 1, 0, 1, 0, 23, 16, .ro, none, .const 0⟩
def F.FIRE.DITH_STAT.STATE : Fld := ⟨.lin, 0x1000204, 0x0, 1, 0, 1, 0, 15, 0, .ro, none, .const 0⟩
/- FIRE.SEG_EN: spec/03_firing.md R81 -/
def F.FIRE.SEG_EN.EN : Fld := ⟨.lin, 0x1000205, 0x0, 1, 0, 1, 0, 47, 0, .rws, (some .firing), .const 281474976710655⟩
/- FIRE.GOV_CFG: spec/03_firing.md R81 -/
def F.FIRE.GOV_CFG.REFILL : Fld := ⟨.lin, 0x1000208, 0x0, 1, 0, 1, 0, 47, 32, .rws, (some .firing), .const 0⟩
def F.FIRE.GOV_CFG.COST : Fld := ⟨.lin, 0x1000208, 0x0, 1, 0, 1, 0, 31, 16, .rws, (some .firing), .const 0⟩
def F.FIRE.GOV_CFG.DEFER_MAX : Fld := ⟨.lin, 0x1000208, 0x0, 1, 0, 1, 0, 11, 0, .rws, (some .firing), .const 625⟩
/- FIRE.GOV_LIM: spec/03_firing.md R81 -/
def F.FIRE.GOV_LIM.CEIL : Fld := ⟨.lin, 0x1000209, 0x0, 1, 0, 1, 0, 23, 0, .rws, (some .firing), .const 0⟩
/- FIRE.GOV_HOLD: spec/03_firing.md R81 -/
def F.FIRE.GOV_HOLD.REFILL_H : Fld := ⟨.lin, 0x100020a, 0x0, 1, 0, 1, 0, 47, 32, .rws, (some .firing), .const 0⟩
def F.FIRE.GOV_HOLD.ACT_H : Fld := ⟨.lin, 0x100020a, 0x0, 1, 0, 1, 0, 3, 0, .rws, (some .firing), .const 15⟩
/- FIRE.GOV_STAT: spec/03_firing.md R81 -/
def F.FIRE.GOV_STAT.BUDGET : Fld := ⟨.lin, 0x100020b, 0x0, 1, 0, 1, 0, 23, 0, .ro, none, .const 0⟩
/- FIRE.TRIM: spec/03_firing.md R81 -/
def F.FIRE.TRIM.TRIM : Fld := ⟨.lin, 0x1000210, 0x1, 4, 0, 1, 0, 5, 0, .rwl, none, .const 0⟩
/- FIRE.SHOT_CNT: spec/03_firing.md R81 -/
def F.FIRE.SHOT_CNT.PARTS : Fld := ⟨.lin, 0x1000218, 0x0, 1, 0, 1, 0, 47, 0, .ro, none, .const 0⟩
/- FIRE.DEFER_CNT: spec/03_firing.md R81 -/
def F.FIRE.DEFER_CNT.GOV : Fld := ⟨.lin, 0x1000219, 0x0, 1, 0, 1, 0, 47, 32, .rc, none, .const 0⟩
def F.FIRE.DEFER_CNT.LANE : Fld := ⟨.lin, 0x1000219, 0x0, 1, 0, 1, 0, 31, 16, .rc, none, .const 0⟩
def F.FIRE.DEFER_CNT.FLIGHT : Fld := ⟨.lin, 0x1000219, 0x0, 1, 0, 1, 0, 15, 0, .rc, none, .const 0⟩
/- FIRE.SKIP_CNT: spec/03_firing.md R81 -/
def F.FIRE.SKIP_CNT.LIMIT : Fld := ⟨.lin, 0x100021a, 0x0, 1, 0, 1, 0, 47, 36, .rc, none, .const 0⟩
def F.FIRE.SKIP_CNT.INHIB : Fld := ⟨.lin, 0x100021a, 0x0, 1, 0, 1, 0, 35, 24, .rc, none, .const 0⟩
def F.FIRE.SKIP_CNT.NOTREADY : Fld := ⟨.lin, 0x100021a, 0x0, 1, 0, 1, 0, 23, 12, .rc, none, .const 0⟩
def F.FIRE.SKIP_CNT.HOLD : Fld := ⟨.lin, 0x100021a, 0x0, 1, 0, 1, 0, 11, 0, .rc, none, .const 0⟩
/- FIRE.REFUSE_CNT: spec/03_firing.md R81 -/
def F.FIRE.REFUSE_CNT.LATE : Fld := ⟨.lin, 0x100021b, 0x0, 1, 0, 1, 0, 47, 24, .rc, none, .const 0⟩
def F.FIRE.REFUSE_CNT.FLIGHT : Fld := ⟨.lin, 0x100021b, 0x0, 1, 0, 1, 0, 23, 0, .rc, none, .const 0⟩
/- FIRE.EYE_CFG: spec/03_firing.md R81 -/
def F.FIRE.EYE_CFG.LOCK : Fld := ⟨.lin, 0x1000220, 0x0, 1, 0, 1, 0, 16, 16, .w1s, none, .const 0⟩
def F.FIRE.EYE_CFG.E_MISS : Fld := ⟨.lin, 0x1000220, 0x0, 1, 0, 1, 0, 15, 0, .rwl, none, .const 65535⟩
/- FIRE.EYE_LIM: spec/03_firing.md R81 -/
def F.FIRE.EYE_LIM.LIM100 : Fld := ⟨.lin, 0x1000221, 0x0, 1, 0, 1, 0, 47, 16, .rwl, none, .const 0⟩
def F.FIRE.EYE_LIM.LIM5 : Fld := ⟨.lin, 0x1000221, 0x0, 1, 0, 1, 0, 15, 0, .rwl, none, .const 0⟩
/- FIRE.EYE_STAT: spec/03_firing.md R81 -/
def F.FIRE.EYE_STAT.SEG : Fld := ⟨.lin, 0x1000222, 0x0, 1, 0, 1, 0, 13, 8, .ro, none, .const 0⟩
def F.FIRE.EYE_STAT.VIOL100 : Fld := ⟨.lin, 0x1000222, 0x0, 1, 0, 1, 0, 1, 1, .w1c, none, .const 0⟩
def F.FIRE.EYE_STAT.VIOL5 : Fld := ⟨.lin, 0x1000222, 0x0, 1, 0, 1, 0, 0, 0, .w1c, none, .const 0⟩
/- FIRE.EYE_WGT: spec/03_firing.md R81 -/
def F.FIRE.EYE_WGT.W : Fld := ⟨.lin, 0x1000230, 0x1, 48, 0, 1, 0, 7, 0, .rwl, none, .const 128⟩
/- FIRE.EYE_SUM: spec/03_firing.md R81 -/
def F.FIRE.EYE_SUM.SUM100 : Fld := ⟨.lin, 0x1000260, 0x1, 48, 0, 1, 0, 47, 16, .ro, none, .const 0⟩
def F.FIRE.EYE_SUM.SUM5 : Fld := ⟨.lin, 0x1000260, 0x1, 48, 0, 1, 0, 15, 0, .ro, none, .const 0⟩
def fldsFIRE : List Fld :=
  [F.FIRE.CTRL.BANK_EN, F.FIRE.STAT.TRIMMED, F.FIRE.STAT.LSR_EN,
   F.FIRE.STAT.READY, F.FIRE.STAT.AWAKE, F.FIRE.PULSE_CFG.WIDTH,
   F.FIRE.DITH_CFG.EN, F.FIRE.DITH_CFG.SEED, F.FIRE.DITH_STAT.LAST_D,
   F.FIRE.DITH_STAT.STATE, F.FIRE.SEG_EN.EN, F.FIRE.GOV_CFG.REFILL,
   F.FIRE.GOV_CFG.COST, F.FIRE.GOV_CFG.DEFER_MAX, F.FIRE.GOV_LIM.CEIL,
   F.FIRE.GOV_HOLD.REFILL_H, F.FIRE.GOV_HOLD.ACT_H, F.FIRE.GOV_STAT.BUDGET,
   F.FIRE.TRIM.TRIM, F.FIRE.SHOT_CNT.PARTS, F.FIRE.DEFER_CNT.GOV,
   F.FIRE.DEFER_CNT.LANE, F.FIRE.DEFER_CNT.FLIGHT, F.FIRE.SKIP_CNT.LIMIT,
   F.FIRE.SKIP_CNT.INHIB, F.FIRE.SKIP_CNT.NOTREADY, F.FIRE.SKIP_CNT.HOLD,
   F.FIRE.REFUSE_CNT.LATE, F.FIRE.REFUSE_CNT.FLIGHT, F.FIRE.EYE_CFG.LOCK,
   F.FIRE.EYE_CFG.E_MISS, F.FIRE.EYE_LIM.LIM100, F.FIRE.EYE_LIM.LIM5,
   F.FIRE.EYE_STAT.SEG, F.FIRE.EYE_STAT.VIOL100, F.FIRE.EYE_STAT.VIOL5,
   F.FIRE.EYE_WGT.W, F.FIRE.EYE_SUM.SUM100, F.FIRE.EYE_SUM.SUM5]

/- MON.START_CFG: spec/04_pulse_monitor.md R103 -/
def F.MON.START_CFG.NOM : Fld := ⟨.lin, 0x1000400, 0x0, 1, 0, 1, 0, 46, 38, .rws, (some .firing), .const 120⟩
def F.MON.START_CFG.TOUT : Fld := ⟨.lin, 0x1000400, 0x0, 1, 0, 1, 0, 37, 32, .rws, (some .firing), .const 25⟩
def F.MON.START_CFG.TMIN : Fld := ⟨.lin, 0x1000400, 0x0, 1, 0, 1, 0, 27, 24, .rws, (some .firing), .const 2⟩
def F.MON.START_CFG.HO_EVT : Fld := ⟨.lin, 0x1000400, 0x0, 1, 0, 1, 0, 23, 20, .rws, (some .firing), .const 1⟩
def F.MON.START_CFG.HO_TIME : Fld := ⟨.lin, 0x1000400, 0x0, 1, 0, 1, 0, 19, 16, .rws, (some .firing), .const 4⟩
def F.MON.START_CFG.HO_MODE : Fld := ⟨.lin, 0x1000400, 0x0, 1, 0, 1, 0, 12, 12, .rws, (some .firing), .const 0⟩
def F.MON.START_CFG.HYST : Fld := ⟨.lin, 0x1000400, 0x0, 1, 0, 1, 0, 11, 8, .rws, (some .firing), .const 2⟩
def F.MON.START_CFG.LEVEL : Fld := ⟨.lin, 0x1000400, 0x0, 1, 0, 1, 0, 7, 0, .rws, (some .firing), .const 64⟩
/- MON.START_STAT: spec/04_pulse_monitor.md R103 -/
def F.MON.START_STAT.LPF : Fld := ⟨.lin, 0x1000401, 0x0, 1, 0, 1, 0, 3, 0, .w1c, none, .const 0⟩
/- MON.START_CNT: spec/04_pulse_monitor.md R103 -/
def F.MON.START_CNT.STRAY : Fld := ⟨.lin, 0x1000402, 0x0, 1, 0, 1, 0, 47, 32, .rc, none, .const 0⟩
def F.MON.START_CNT.IGNORED : Fld := ⟨.lin, 0x1000402, 0x0, 1, 0, 1, 0, 31, 16, .rc, none, .const 0⟩
/- MON.START_BANK: spec/04_pulse_monitor.md R103 -/
def F.MON.START_BANK.FORCED : Fld := ⟨.lin, 0x1000404, 0x1, 4, 0, 1, 0, 47, 24, .rc, none, .const 0⟩
def F.MON.START_BANK.RUN : Fld := ⟨.lin, 0x1000404, 0x1, 4, 0, 1, 0, 17, 16, .ro, none, .const 0⟩
def F.MON.START_BANK.MEAN : Fld := ⟨.lin, 0x1000404, 0x1, 4, 0, 1, 0, 8, 0, .ro, none, .const 0⟩
/- MON.ENERGY_CFG: spec/04_pulse_monitor.md R103 -/
def F.MON.ENERGY_CFG.GAIN : Fld := ⟨.lin, 0x1000410, 0x0, 1, 0, 1, 0, 31, 16, .rwl, none, .const 65535⟩
def F.MON.ENERGY_CFG.INT_LEN : Fld := ⟨.lin, 0x1000410, 0x0, 1, 0, 1, 0, 6, 0, .rwl, none, .const 32⟩
/- MON.ENERGY_STAT: spec/04_pulse_monitor.md R103 -/
def F.MON.ENERGY_STAT.BANKS : Fld := ⟨.lin, 0x1000411, 0x0, 1, 0, 1, 0, 19, 16, .ro, none, .const 0⟩
def F.MON.ENERGY_STAT.LAST : Fld := ⟨.lin, 0x1000411, 0x0, 1, 0, 1, 0, 15, 0, .ro, none, .const 0⟩
/- MON.MASK_CFG: spec/04_pulse_monitor.md R103 -/
def F.MON.MASK_CFG.INHIBIT : Fld := ⟨.lin, 0x1000414, 0x0, 1, 0, 1, 0, 17, 17, .rws, (some .firing), .const 0⟩
def F.MON.MASK_CFG.EN : Fld := ⟨.lin, 0x1000414, 0x0, 1, 0, 1, 0, 16, 16, .rws, (some .firing), .const 0⟩
def F.MON.MASK_CFG.BASE : Fld := ⟨.lin, 0x1000414, 0x0, 1, 0, 1, 0, 13, 0, .rws, (some .firing), .const 0⟩
/- MON.MASK_STAT: spec/04_pulse_monitor.md R103 -/
def F.MON.MASK_STAT.VCNT : Fld := ⟨.lin, 0x1000415, 0x0, 1, 0, 1, 0, 47, 32, .rc, none, .const 0⟩
def F.MON.MASK_STAT.ABOVE : Fld := ⟨.lin, 0x1000415, 0x0, 1, 0, 1, 0, 14, 14, .ro, none, .const 0⟩
def F.MON.MASK_STAT.SAMPLE : Fld := ⟨.lin, 0x1000415, 0x0, 1, 0, 1, 0, 13, 8, .ro, none, .const 0⟩
def F.MON.MASK_STAT.LOADED : Fld := ⟨.lin, 0x1000415, 0x0, 1, 0, 1, 0, 2, 2, .ro, none, .const 0⟩
def F.MON.MASK_STAT.VIOL : Fld := ⟨.lin, 0x1000415, 0x0, 1, 0, 1, 0, 1, 1, .w1c, none, .const 0⟩
def F.MON.MASK_STAT.TBL_ERR : Fld := ⟨.lin, 0x1000415, 0x0, 1, 0, 1, 0, 0, 0, .w1c, none, .const 0⟩
/- MON.AVG_CFG: spec/04_pulse_monitor.md R103 -/
def F.MON.AVG_CFG.BASE : Fld := ⟨.lin, 0x1000418, 0x0, 1, 0, 1, 0, 45, 32, .rw, none, .const 0⟩
def F.MON.AVG_CFG.EN : Fld := ⟨.lin, 0x1000418, 0x0, 1, 0, 1, 0, 24, 24, .rw, none, .const 0⟩
def F.MON.AVG_CFG.BANKS : Fld := ⟨.lin, 0x1000418, 0x0, 1, 0, 1, 0, 23, 20, .rw, none, .const 15⟩
def F.MON.AVG_CFG.IVL : Fld := ⟨.lin, 0x1000418, 0x0, 1, 0, 1, 0, 19, 8, .rw, none, .const 100⟩
def F.MON.AVG_CFG.K : Fld := ⟨.lin, 0x1000418, 0x0, 1, 0, 1, 0, 3, 0, .rw, none, .const 8⟩
/- MON.AVG_STAT: spec/04_pulse_monitor.md R103 -/
def F.MON.AVG_STAT.SEQ : Fld := ⟨.lin, 0x1000419, 0x0, 1, 0, 1, 0, 47, 32, .ro, none, .const 0⟩
def F.MON.AVG_STAT.EMPTY : Fld := ⟨.lin, 0x1000419, 0x0, 1, 0, 1, 0, 31, 16, .rc, none, .const 0⟩
def F.MON.AVG_STAT.SHORT : Fld := ⟨.lin, 0x1000419, 0x0, 1, 0, 1, 0, 0, 0, .ro, none, .const 0⟩
/- MON.CAP_CFG: spec/04_pulse_monitor.md R103 -/
def F.MON.CAP_CFG.PRE : Fld := ⟨.lin, 0x1000420, 0x0, 1, 0, 1, 0, 43, 32, .rw, none, .const 512⟩
def F.MON.CAP_CFG.BANKS : Fld := ⟨.lin, 0x1000420, 0x0, 1, 0, 1, 0, 31, 28, .rw, none, .const 15⟩
def F.MON.CAP_CFG.TRIG_EN : Fld := ⟨.lin, 0x1000420, 0x0, 1, 0, 1, 0, 27, 24, .rw, none, .const 0⟩
def F.MON.CAP_CFG.FRZ_REQ : Fld := ⟨.lin, 0x1000420, 0x0, 1, 0, 1, 0, 21, 21, .rw, none, .const 0⟩
def F.MON.CAP_CFG.MODE : Fld := ⟨.lin, 0x1000420, 0x0, 1, 0, 1, 0, 20, 20, .rw, none, .const 0⟩
def F.MON.CAP_CFG.NREC : Fld := ⟨.lin, 0x1000420, 0x0, 1, 0, 1, 0, 18, 16, .rw, none, .const 1⟩
def F.MON.CAP_CFG.BASE : Fld := ⟨.lin, 0x1000420, 0x0, 1, 0, 1, 0, 13, 0, .rw, none, .const 0⟩
/- MON.CAP_CTRL: spec/04_pulse_monitor.md R103 -/
def F.MON.CAP_CTRL.UNFREEZE : Fld := ⟨.lin, 0x1000421, 0x0, 1, 0, 1, 0, 3, 3, .wo, none, .const 0⟩
def F.MON.CAP_CTRL.STOP : Fld := ⟨.lin, 0x1000421, 0x0, 1, 0, 1, 0, 2, 2, .wo, none, .const 0⟩
def F.MON.CAP_CTRL.SWTRIG : Fld := ⟨.lin, 0x1000421, 0x0, 1, 0, 1, 0, 1, 1, .wo, none, .const 0⟩
def F.MON.CAP_CTRL.ARM : Fld := ⟨.lin, 0x1000421, 0x0, 1, 0, 1, 0, 0, 0, .wo, none, .const 0⟩
/- MON.CAP_STAT: spec/04_pulse_monitor.md R103 -/
def F.MON.CAP_STAT.MISSED : Fld := ⟨.lin, 0x1000422, 0x0, 1, 0, 1, 0, 47, 32, .rc, none, .const 0⟩
def F.MON.CAP_STAT.RECS : Fld := ⟨.lin, 0x1000422, 0x0, 1, 0, 1, 0, 31, 16, .ro, none, .const 0⟩
def F.MON.CAP_STAT.SLOT : Fld := ⟨.lin, 0x1000422, 0x0, 1, 0, 1, 0, 6, 4, .ro, none, .const 0⟩
def F.MON.CAP_STAT.DONE : Fld := ⟨.lin, 0x1000422, 0x0, 1, 0, 1, 0, 3, 3, .w1c, none, .const 0⟩
def F.MON.CAP_STAT.FROZEN : Fld := ⟨.lin, 0x1000422, 0x0, 1, 0, 1, 0, 2, 2, .ro, none, .const 0⟩
def F.MON.CAP_STAT.BUSY : Fld := ⟨.lin, 0x1000422, 0x0, 1, 0, 1, 0, 1, 1, .ro, none, .const 0⟩
def F.MON.CAP_STAT.ARMED : Fld := ⟨.lin, 0x1000422, 0x0, 1, 0, 1, 0, 0, 0, .ro, none, .const 0⟩
/- MON.MU_CFG: spec/04_pulse_monitor.md R103 -/
def F.MON.MU_CFG.SKEW : Fld := ⟨.lin, 0x1000428, 0x0, 1, 0, 1, 0, 7, 4, .rwl, none, .const 3⟩
def F.MON.MU_CFG.ROLE : Fld := ⟨.lin, 0x1000428, 0x0, 1, 0, 1, 0, 1, 0, .rwl, none, .const 0⟩
/- MON.MU_STAT: spec/04_pulse_monitor.md R103 -/
def F.MON.MU_STAT.REMOTE : Fld := ⟨.lin, 0x1000429, 0x0, 1, 0, 1, 0, 47, 32, .rc, none, .const 0⟩
def F.MON.MU_STAT.TRIG_ANY : Fld := ⟨.lin, 0x1000429, 0x0, 1, 0, 1, 0, 1, 1, .ro, none, .const 0⟩
def F.MON.MU_STAT.ARM_BUS : Fld := ⟨.lin, 0x1000429, 0x0, 1, 0, 1, 0, 0, 0, .ro, none, .const 0⟩
/- MON.ADC_TRIM: spec/04_pulse_monitor.md R103 -/
def F.MON.ADC_TRIM.OFFS_A : Fld := ⟨.lin, 0x1000430, 0x0, 1, 0, 1, 0, 31, 24, .rwl, none, .const 0⟩
def F.MON.ADC_TRIM.OFFS_B : Fld := ⟨.lin, 0x1000430, 0x0, 1, 0, 1, 0, 23, 16, .rwl, none, .const 0⟩
def F.MON.ADC_TRIM.GAIN_B : Fld := ⟨.lin, 0x1000430, 0x0, 1, 0, 1, 0, 11, 0, .rwl, none, .const 0⟩
def fldsMON0 : List Fld :=
  [F.MON.START_CFG.NOM, F.MON.START_CFG.TOUT, F.MON.START_CFG.TMIN,
   F.MON.START_CFG.HO_EVT, F.MON.START_CFG.HO_TIME, F.MON.START_CFG.HO_MODE,
   F.MON.START_CFG.HYST, F.MON.START_CFG.LEVEL, F.MON.START_STAT.LPF,
   F.MON.START_CNT.STRAY, F.MON.START_CNT.IGNORED, F.MON.START_BANK.FORCED,
   F.MON.START_BANK.RUN, F.MON.START_BANK.MEAN, F.MON.ENERGY_CFG.GAIN,
   F.MON.ENERGY_CFG.INT_LEN, F.MON.ENERGY_STAT.BANKS, F.MON.ENERGY_STAT.LAST,
   F.MON.MASK_CFG.INHIBIT, F.MON.MASK_CFG.EN, F.MON.MASK_CFG.BASE,
   F.MON.MASK_STAT.VCNT, F.MON.MASK_STAT.ABOVE, F.MON.MASK_STAT.SAMPLE,
   F.MON.MASK_STAT.LOADED, F.MON.MASK_STAT.VIOL, F.MON.MASK_STAT.TBL_ERR,
   F.MON.AVG_CFG.BASE, F.MON.AVG_CFG.EN, F.MON.AVG_CFG.BANKS,
   F.MON.AVG_CFG.IVL, F.MON.AVG_CFG.K, F.MON.AVG_STAT.SEQ,
   F.MON.AVG_STAT.EMPTY, F.MON.AVG_STAT.SHORT, F.MON.CAP_CFG.PRE,
   F.MON.CAP_CFG.BANKS, F.MON.CAP_CFG.TRIG_EN, F.MON.CAP_CFG.FRZ_REQ,
   F.MON.CAP_CFG.MODE]
def fldsMON1 : List Fld :=
  [F.MON.CAP_CFG.NREC, F.MON.CAP_CFG.BASE, F.MON.CAP_CTRL.UNFREEZE,
   F.MON.CAP_CTRL.STOP, F.MON.CAP_CTRL.SWTRIG, F.MON.CAP_CTRL.ARM,
   F.MON.CAP_STAT.MISSED, F.MON.CAP_STAT.RECS, F.MON.CAP_STAT.SLOT,
   F.MON.CAP_STAT.DONE, F.MON.CAP_STAT.FROZEN, F.MON.CAP_STAT.BUSY,
   F.MON.CAP_STAT.ARMED, F.MON.MU_CFG.SKEW, F.MON.MU_CFG.ROLE,
   F.MON.MU_STAT.REMOTE, F.MON.MU_STAT.TRIG_ANY, F.MON.MU_STAT.ARM_BUS,
   F.MON.ADC_TRIM.OFFS_A, F.MON.ADC_TRIM.OFFS_B, F.MON.ADC_TRIM.GAIN_B]
def fldsMON : List Fld := fldsMON0 ++ fldsMON1

/- MIRR.PARK: spec/05_mirror_control.md R127 -/
def F.MIRR.PARK.PARK_H : Fld := ⟨.lin, 0x1000500, 0x0, 1, 0, 1, 0, 31, 16, .rwl, none, .const 0⟩
def F.MIRR.PARK.PARK_V : Fld := ⟨.lin, 0x1000500, 0x0, 1, 0, 1, 0, 15, 0, .rwl, none, .const 0⟩
/- MIRR.BIAS: spec/05_mirror_control.md R127 -/
def F.MIRR.BIAS.BIAS_H : Fld := ⟨.lin, 0x1000501, 0x0, 1, 0, 1, 0, 31, 16, .rws, (some .mirror), .const 32768⟩
def F.MIRR.BIAS.BIAS_V : Fld := ⟨.lin, 0x1000501, 0x0, 1, 0, 1, 0, 15, 0, .rws, (some .mirror), .const 32768⟩
/- MIRR.STAT: spec/05_mirror_control.md R127 -/
def F.MIRR.STAT.LOCK_FAIL : Fld := ⟨.lin, 0x1000502, 0x0, 1, 0, 1, 0, 8, 8, .w1c, none, .const 0⟩
def F.MIRR.STAT.VHV_LOW : Fld := ⟨.lin, 0x1000502, 0x0, 1, 0, 1, 0, 7, 7, .ro, none, .const 0⟩
def F.MIRR.STAT.FE_V : Fld := ⟨.lin, 0x1000502, 0x0, 1, 0, 1, 0, 6, 6, .w1c, none, .const 0⟩
def F.MIRR.STAT.FE_H : Fld := ⟨.lin, 0x1000502, 0x0, 1, 0, 1, 0, 5, 5, .w1c, none, .const 0⟩
def F.MIRR.STAT.SRCH_FAIL : Fld := ⟨.lin, 0x1000502, 0x0, 1, 0, 1, 0, 4, 4, .w1c, none, .const 0⟩
def F.MIRR.STAT.V_INPOS : Fld := ⟨.lin, 0x1000502, 0x0, 1, 0, 1, 0, 3, 3, .ro, none, .const 0⟩
def F.MIRR.STAT.H_LOCKED : Fld := ⟨.lin, 0x1000502, 0x0, 1, 0, 1, 0, 2, 2, .ro, none, .const 0⟩
def F.MIRR.STAT.H_CAPT : Fld := ⟨.lin, 0x1000502, 0x0, 1, 0, 1, 0, 1, 1, .ro, none, .const 0⟩
def F.MIRR.STAT.ACTIVE : Fld := ⟨.lin, 0x1000502, 0x0, 1, 0, 1, 0, 0, 0, .ro, none, .const 0⟩
/- MIRR.WIN: spec/05_mirror_control.md R127 -/
def F.MIRR.WIN.WIN_HP : Fld := ⟨.lin, 0x1000503, 0x0, 1, 0, 1, 0, 7, 6, .ro, none, .const 0⟩
def F.MIRR.WIN.WIN_HN : Fld := ⟨.lin, 0x1000503, 0x0, 1, 0, 1, 0, 5, 4, .ro, none, .const 0⟩
def F.MIRR.WIN.WIN_VP : Fld := ⟨.lin, 0x1000503, 0x0, 1, 0, 1, 0, 3, 2, .ro, none, .const 0⟩
def F.MIRR.WIN.WIN_VN : Fld := ⟨.lin, 0x1000503, 0x0, 1, 0, 1, 0, 1, 0, .ro, none, .const 0⟩
/- MIRR.LIMCNT: spec/05_mirror_control.md R127 -/
def F.MIRR.LIMCNT.CUR : Fld := ⟨.lin, 0x1000504, 0x0, 1, 0, 1, 0, 47, 32, .rc, none, .const 0⟩
def F.MIRR.LIMCNT.TEMP : Fld := ⟨.lin, 0x1000504, 0x0, 1, 0, 1, 0, 31, 16, .rc, none, .const 0⟩
def F.MIRR.LIMCNT.SLEW : Fld := ⟨.lin, 0x1000504, 0x0, 1, 0, 1, 0, 15, 0, .rc, none, .const 0⟩
/- MIRR.DAC_H: spec/05_mirror_control.md R127 -/
def F.MIRR.DAC_H.U : Fld := ⟨.lin, 0x1000505, 0x0, 1, 0, 1, 0, 31, 16, .ro, none, .const 0⟩
def F.MIRR.DAC_H.L_H : Fld := ⟨.lin, 0x1000505, 0x0, 1, 0, 1, 0, 15, 0, .ro, none, .const 0⟩
/- MIRR.DAC_V: spec/05_mirror_control.md R127 -/
def F.MIRR.DAC_V.VP : Fld := ⟨.lin, 0x1000506, 0x0, 1, 0, 1, 0, 31, 16, .ro, none, .const 0⟩
def F.MIRR.DAC_V.VN : Fld := ⟨.lin, 0x1000506, 0x0, 1, 0, 1, 0, 15, 0, .ro, none, .const 0⟩
/- MIRR.H_SET: spec/05_mirror_control.md R127 -/
def F.MIRR.H_SET.A_SET : Fld := ⟨.lin, 0x1000508, 0x0, 1, 0, 1, 0, 23, 0, .rws, (some .mirror), .const 6524473⟩
/- MIRR.H_AMP: spec/05_mirror_control.md R127 -/
def F.MIRR.H_AMP.KP_A : Fld := ⟨.lin, 0x1000509, 0x0, 1, 0, 1, 0, 47, 24, .rws, (some .mirror), .const 0⟩
def F.MIRR.H_AMP.KI_A : Fld := ⟨.lin, 0x1000509, 0x0, 1, 0, 1, 0, 23, 0, .rws, (some .mirror), .const 0⟩
/- MIRR.H_PF: spec/05_mirror_control.md R127 -/
def F.MIRR.H_PF.PH_SET : Fld := ⟨.lin, 0x100050a, 0x0, 1, 0, 1, 0, 47, 32, .rws, (some .mirror), .const 16384⟩
def F.MIRR.H_PF.KF : Fld := ⟨.lin, 0x100050a, 0x0, 1, 0, 1, 0, 31, 16, .rws, (some .mirror), .const 0⟩
/- MIRR.H_TRK: spec/05_mirror_control.md R127 -/
def F.MIRR.H_TRK.GP_SH : Fld := ⟨.lin, 0x100050b, 0x0, 1, 0, 1, 0, 29, 24, .rws, (some .mirror), .const 3⟩
def F.MIRR.H_TRK.GF_SH : Fld := ⟨.lin, 0x100050b, 0x0, 1, 0, 1, 0, 21, 16, .rws, (some .mirror), .const 10⟩
def F.MIRR.H_TRK.GA_SH : Fld := ⟨.lin, 0x100050b, 0x0, 1, 0, 1, 0, 13, 8, .rws, (some .mirror), .const 5⟩
def F.MIRR.H_TRK.GC_SH : Fld := ⟨.lin, 0x100050b, 0x0, 1, 0, 1, 0, 5, 0, .rws, (some .mirror), .const 12⟩
/- MIRR.H_SRCH: spec/05_mirror_control.md R127 -/
def F.MIRR.H_SRCH.F_START : Fld := ⟨.lin, 0x100050c, 0x0, 1, 0, 1, 0, 47, 30, .rwl, none, .const 200000⟩
def F.MIRR.H_SRCH.SPAN : Fld := ⟨.lin, 0x100050c, 0x0, 1, 0, 1, 0, 29, 16, .rwl, none, .const 2000⟩
def F.MIRR.H_SRCH.RATE : Fld := ⟨.lin, 0x100050c, 0x0, 1, 0, 1, 0, 9, 0, .rwl, none, .const 200⟩
/- MIRR.H_RAMP: spec/05_mirror_control.md R127 -/
def F.MIRR.H_RAMP.U_SRCH : Fld := ⟨.lin, 0x100050d, 0x0, 1, 0, 1, 0, 47, 32, .rwl, none, .const 4096⟩
def F.MIRR.H_RAMP.RAMP : Fld := ⟨.lin, 0x100050d, 0x0, 1, 0, 1, 0, 31, 16, .rws, (some .mirror), .const 653⟩
def F.MIRR.H_RAMP.LOCK_N : Fld := ⟨.lin, 0x100050d, 0x0, 1, 0, 1, 0, 15, 8, .rwl, none, .const 100⟩
def F.MIRR.H_RAMP.LOCK_PH : Fld := ⟨.lin, 0x100050d, 0x0, 1, 0, 1, 0, 7, 0, .rwl, none, .const 20⟩
/- MIRR.H_MODEL0: spec/05_mirror_control.md R127 -/
def F.MIRR.H_MODEL0.AMP : Fld := ⟨.lin, 0x1000510, 0x0, 1, 0, 1, 0, 47, 24, .ro, none, .const 0⟩
def F.MIRR.H_MODEL0.OFFSET : Fld := ⟨.lin, 0x1000510, 0x0, 1, 0, 1, 0, 23, 0, .ro, none, .const 0⟩
/- MIRR.H_MODEL1: spec/05_mirror_control.md R127 -/
def F.MIRR.H_MODEL1.PHASE : Fld := ⟨.lin, 0x1000511, 0x0, 1, 0, 1, 0, 47, 32, .ro, none, .const 0⟩
def F.MIRR.H_MODEL1.FREQ : Fld := ⟨.lin, 0x1000511, 0x0, 1, 0, 1, 0, 31, 0, .ro, none, .const 0⟩
/- MIRR.H_NCO: spec/05_mirror_control.md R127 -/
def F.MIRR.H_NCO.F_NCO : Fld := ⟨.lin, 0x1000512, 0x0, 1, 0, 1, 0, 47, 16, .ro, none, .const 0⟩
def F.MIRR.H_NCO.PSI : Fld := ⟨.lin, 0x1000512, 0x0, 1, 0, 1, 0, 15, 0, .ro, none, .const 0⟩
/- MIRR.H_RES: spec/05_mirror_control.md R127 -/
def F.MIRR.H_RES.F_CAPT : Fld := ⟨.lin, 0x1000513, 0x0, 1, 0, 1, 0, 31, 0, .ro, none, .const 0⟩
/- MIRR.V_CMD: spec/05_mirror_control.md R127 -/
def F.MIRR.V_CMD.TARGET : Fld := ⟨.lin, 0x1000518, 0x0, 1, 0, 1, 0, 23, 0, .rws, (some .mirror), .const 0⟩
/- MIRR.V_CFG: spec/05_mirror_control.md R127 -/
def F.MIRR.V_CFG.OWNER : Fld := ⟨.lin, 0x1000519, 0x0, 1, 0, 1, 0, 42, 40, .rwl, none, .const 0⟩
def F.MIRR.V_CFG.INPOS : Fld := ⟨.lin, 0x1000519, 0x0, 1, 0, 1, 0, 39, 32, .rws, (some .mirror), .const 10⟩
def F.MIRR.V_CFG.VMAX : Fld := ⟨.lin, 0x1000519, 0x0, 1, 0, 1, 0, 31, 16, .rws, (some .mirror), .const 746⟩
def F.MIRR.V_CFG.AMAX : Fld := ⟨.lin, 0x1000519, 0x0, 1, 0, 1, 0, 15, 0, .rws, (some .mirror), .const 1910⟩
/- MIRR.V_PID: spec/05_mirror_control.md R127 -/
def F.MIRR.V_PID.KP : Fld := ⟨.lin, 0x100051a, 0x0, 1, 0, 1, 0, 47, 32, .rws, (some .mirror), .const 0⟩
def F.MIRR.V_PID.KD : Fld := ⟨.lin, 0x100051a, 0x0, 1, 0, 1, 0, 31, 16, .rws, (some .mirror), .const 0⟩
def F.MIRR.V_PID.KI : Fld := ⟨.lin, 0x100051a, 0x0, 1, 0, 1, 0, 15, 0, .rws, (some .mirror), .const 0⟩
/- MIRR.V_FF: spec/05_mirror_control.md R127 -/
def F.MIRR.V_FF.KA : Fld := ⟨.lin, 0x100051b, 0x0, 1, 0, 1, 0, 15, 0, .rws, (some .mirror), .const 0⟩
/- MIRR.V_POS: spec/05_mirror_control.md R127 -/
def F.MIRR.V_POS.P_CMD : Fld := ⟨.lin, 0x100051c, 0x0, 1, 0, 1, 0, 47, 24, .ro, none, .const 0⟩
def F.MIRR.V_POS.P_MEAS : Fld := ⟨.lin, 0x100051c, 0x0, 1, 0, 1, 0, 23, 0, .ro, none, .const 0⟩
/- MIRR.V_STAT: spec/05_mirror_control.md R127 -/
def F.MIRR.V_STAT.NOTOWN : Fld := ⟨.lin, 0x100051d, 0x0, 1, 0, 1, 0, 15, 0, .rc, none, .const 0⟩
/- MIRR.VHV_CFG: spec/05_mirror_control.md R127 -/
def F.MIRR.VHV_CFG.NOM : Fld := ⟨.lin, 0x1000520, 0x0, 1, 0, 1, 0, 11, 0, .rws, (some .mirror), .const 2048⟩
/- MIRR.SENSE: spec/05_mirror_control.md R127 -/
def F.MIRR.SENSE.VHV : Fld := ⟨.lin, 0x1000521, 0x0, 1, 0, 1, 0, 35, 24, .ro, none, .const 0⟩
def F.MIRR.SENSE.I_H : Fld := ⟨.lin, 0x1000521, 0x0, 1, 0, 1, 0, 23, 12, .ro, none, .const 0⟩
def F.MIRR.SENSE.I_V : Fld := ⟨.lin, 0x1000521, 0x0, 1, 0, 1, 0, 11, 0, .ro, none, .const 0⟩
/- MIRR.ILIM: spec/05_mirror_control.md R127 -/
def F.MIRR.ILIM.I_LIM_H : Fld := ⟨.lin, 0x1000522, 0x0, 1, 0, 1, 0, 43, 32, .rws, (some .mirror), .const 4095⟩
def F.MIRR.ILIM.I_LIM_V : Fld := ⟨.lin, 0x1000522, 0x0, 1, 0, 1, 0, 27, 16, .rws, (some .mirror), .const 4095⟩
def F.MIRR.ILIM.K_I : Fld := ⟨.lin, 0x1000522, 0x0, 1, 0, 1, 0, 15, 0, .rws, (some .mirror), .const 16⟩
/- MIRR.TLIM: spec/05_mirror_control.md R127 -/
def F.MIRR.TLIM.T_LIM : Fld := ⟨.lin, 0x1000523, 0x0, 1, 0, 1, 0, 47, 32, .rws, (some .mirror), .const 12500⟩
def F.MIRR.TLIM.K_T : Fld := ⟨.lin, 0x1000523, 0x0, 1, 0, 1, 0, 31, 16, .rws, (some .mirror), .const 16⟩
def F.MIRR.TLIM.HK_IN : Fld := ⟨.lin, 0x1000523, 0x0, 1, 0, 1, 0, 4, 0, .rws, (some .mirror), .const 0⟩
/- MIRR.SLEW: spec/05_mirror_control.md R127 -/
def F.MIRR.SLEW.SLEW_H : Fld := ⟨.lin, 0x1000524, 0x0, 1, 0, 1, 0, 31, 16, .rws, (some .mirror), .const 65535⟩
def F.MIRR.SLEW.SLEW_V : Fld := ⟨.lin, 0x1000524, 0x0, 1, 0, 1, 0, 15, 0, .rws, (some .mirror), .const 65535⟩
/- MIRR.FE_CFG: spec/05_mirror_control.md R127 -/
def F.MIRR.FE_CFG.LIM_V : Fld := ⟨.lin, 0x1000528, 0x0, 1, 0, 1, 0, 47, 32, .rwl, none, .const 4660⟩
def F.MIRR.FE_CFG.LIM_H : Fld := ⟨.lin, 0x1000528, 0x0, 1, 0, 1, 0, 31, 20, .rwl, none, .const 50⟩
def F.MIRR.FE_CFG.ACT_V : Fld := ⟨.lin, 0x1000528, 0x0, 1, 0, 1, 0, 17, 17, .rwl, none, .const 1⟩
def F.MIRR.FE_CFG.ACT_H : Fld := ⟨.lin, 0x1000528, 0x0, 1, 0, 1, 0, 16, 16, .rwl, none, .const 0⟩
def F.MIRR.FE_CFG.TMR : Fld := ⟨.lin, 0x1000528, 0x0, 1, 0, 1, 0, 8, 0, .rwl, none, .const 100⟩
/- MIRR.FE_STAT: spec/05_mirror_control.md R127 -/
def F.MIRR.FE_STAT.PEAK_H : Fld := ⟨.lin, 0x1000529, 0x0, 1, 0, 1, 0, 47, 24, .rc, none, .const 0⟩
def F.MIRR.FE_STAT.PEAK_V : Fld := ⟨.lin, 0x1000529, 0x0, 1, 0, 1, 0, 23, 0, .rc, none, .const 0⟩
/- MIRR.TRANSIT_CFG: spec/05_mirror_control.md R127 -/
def F.MIRR.TRANSIT_CFG.LEAD : Fld := ⟨.lin, 0x1000530, 0x0, 1, 0, 1, 0, 44, 32, .rws, (some .firing), .const 1250⟩
def F.MIRR.TRANSIT_CFG.GUARD : Fld := ⟨.lin, 0x1000530, 0x0, 1, 0, 1, 0, 31, 16, .rws, (some .firing), .const 364⟩
def F.MIRR.TRANSIT_CFG.TDLY : Fld := ⟨.lin, 0x1000530, 0x0, 1, 0, 1, 0, 15, 0, .rws, (some .firing), .const 0⟩
/- MIRR.TRANSIT_STAT: spec/05_mirror_control.md R127 -/
def F.MIRR.TRANSIT_STAT.UNREACHED : Fld := ⟨.lin, 0x1000531, 0x0, 1, 0, 1, 0, 47, 24, .rc, none, .const 0⟩
def F.MIRR.TRANSIT_STAT.LATEPOST : Fld := ⟨.lin, 0x1000531, 0x0, 1, 0, 1, 0, 23, 0, .rc, none, .const 0⟩
/- MIRR.SWEEP: spec/05_mirror_control.md R127 -/
def F.MIRR.SWEEP.COUNT : Fld := ⟨.lin, 0x1000532, 0x0, 1, 0, 1, 0, 47, 1, .ro, none, .const 0⟩
def F.MIRR.SWEEP.DIR : Fld := ⟨.lin, 0x1000532, 0x0, 1, 0, 1, 0, 0, 0, .ro, none, .const 0⟩
/- MIRR.TRANSIT_OVF: spec/05_mirror_control.md R127 -/
def F.MIRR.TRANSIT_OVF.OVF : Fld := ⟨.lin, 0x1000533, 0x0, 1, 0, 4, 12, 11, 0, .rc, none, .const 0⟩
def fldsMIRR0 : List Fld :=
  [F.MIRR.PARK.PARK_H, F.MIRR.PARK.PARK_V, F.MIRR.BIAS.BIAS_H,
   F.MIRR.BIAS.BIAS_V, F.MIRR.STAT.LOCK_FAIL, F.MIRR.STAT.VHV_LOW,
   F.MIRR.STAT.FE_V, F.MIRR.STAT.FE_H, F.MIRR.STAT.SRCH_FAIL,
   F.MIRR.STAT.V_INPOS, F.MIRR.STAT.H_LOCKED, F.MIRR.STAT.H_CAPT,
   F.MIRR.STAT.ACTIVE, F.MIRR.WIN.WIN_HP, F.MIRR.WIN.WIN_HN,
   F.MIRR.WIN.WIN_VP, F.MIRR.WIN.WIN_VN, F.MIRR.LIMCNT.CUR,
   F.MIRR.LIMCNT.TEMP, F.MIRR.LIMCNT.SLEW, F.MIRR.DAC_H.U,
   F.MIRR.DAC_H.L_H, F.MIRR.DAC_V.VP, F.MIRR.DAC_V.VN,
   F.MIRR.H_SET.A_SET, F.MIRR.H_AMP.KP_A, F.MIRR.H_AMP.KI_A,
   F.MIRR.H_PF.PH_SET, F.MIRR.H_PF.KF, F.MIRR.H_TRK.GP_SH,
   F.MIRR.H_TRK.GF_SH, F.MIRR.H_TRK.GA_SH, F.MIRR.H_TRK.GC_SH,
   F.MIRR.H_SRCH.F_START, F.MIRR.H_SRCH.SPAN, F.MIRR.H_SRCH.RATE,
   F.MIRR.H_RAMP.U_SRCH, F.MIRR.H_RAMP.RAMP, F.MIRR.H_RAMP.LOCK_N,
   F.MIRR.H_RAMP.LOCK_PH]
def fldsMIRR1 : List Fld :=
  [F.MIRR.H_MODEL0.AMP, F.MIRR.H_MODEL0.OFFSET, F.MIRR.H_MODEL1.PHASE,
   F.MIRR.H_MODEL1.FREQ, F.MIRR.H_NCO.F_NCO, F.MIRR.H_NCO.PSI,
   F.MIRR.H_RES.F_CAPT, F.MIRR.V_CMD.TARGET, F.MIRR.V_CFG.OWNER,
   F.MIRR.V_CFG.INPOS, F.MIRR.V_CFG.VMAX, F.MIRR.V_CFG.AMAX,
   F.MIRR.V_PID.KP, F.MIRR.V_PID.KD, F.MIRR.V_PID.KI,
   F.MIRR.V_FF.KA, F.MIRR.V_POS.P_CMD, F.MIRR.V_POS.P_MEAS,
   F.MIRR.V_STAT.NOTOWN, F.MIRR.VHV_CFG.NOM, F.MIRR.SENSE.VHV,
   F.MIRR.SENSE.I_H, F.MIRR.SENSE.I_V, F.MIRR.ILIM.I_LIM_H,
   F.MIRR.ILIM.I_LIM_V, F.MIRR.ILIM.K_I, F.MIRR.TLIM.T_LIM,
   F.MIRR.TLIM.K_T, F.MIRR.TLIM.HK_IN, F.MIRR.SLEW.SLEW_H,
   F.MIRR.SLEW.SLEW_V, F.MIRR.FE_CFG.LIM_V, F.MIRR.FE_CFG.LIM_H,
   F.MIRR.FE_CFG.ACT_V, F.MIRR.FE_CFG.ACT_H, F.MIRR.FE_CFG.TMR,
   F.MIRR.FE_STAT.PEAK_H, F.MIRR.FE_STAT.PEAK_V, F.MIRR.TRANSIT_CFG.LEAD,
   F.MIRR.TRANSIT_CFG.GUARD]
def fldsMIRR2 : List Fld :=
  [F.MIRR.TRANSIT_CFG.TDLY, F.MIRR.TRANSIT_STAT.UNREACHED, F.MIRR.TRANSIT_STAT.LATEPOST,
   F.MIRR.SWEEP.COUNT, F.MIRR.SWEEP.DIR, F.MIRR.TRANSIT_OVF.OVF]
def fldsMIRR : List Fld := fldsMIRR0 ++ fldsMIRR1 ++ fldsMIRR2

/- AFE.BR_CFG: spec/06_angle_sensing.md R150 -/
def F.AFE.BR_CFG.SWAP_IVL : Fld := ⟨.lin, 0x1000600, 0x0, 1, 0, 1, 0, 27, 16, .rws, (some .frontEnd), .const 100⟩
def F.AFE.BR_CFG.ACT_V : Fld := ⟨.lin, 0x1000600, 0x0, 1, 0, 1, 0, 13, 13, .rws, (some .frontEnd), .const 0⟩
def F.AFE.BR_CFG.ACT_H : Fld := ⟨.lin, 0x1000600, 0x0, 1, 0, 1, 0, 12, 12, .rws, (some .frontEnd), .const 0⟩
def F.AFE.BR_CFG.GAIN_V : Fld := ⟨.lin, 0x1000600, 0x0, 1, 0, 1, 0, 11, 10, .rwl, none, .const 1⟩
def F.AFE.BR_CFG.GAIN_H : Fld := ⟨.lin, 0x1000600, 0x0, 1, 0, 1, 0, 9, 8, .rwl, none, .const 0⟩
def F.AFE.BR_CFG.PRESET_V : Fld := ⟨.lin, 0x1000600, 0x0, 1, 0, 1, 0, 5, 4, .rws, (some .frontEnd), .const 1⟩
def F.AFE.BR_CFG.PRESET_H : Fld := ⟨.lin, 0x1000600, 0x0, 1, 0, 1, 0, 1, 0, .rws, (some .frontEnd), .const 0⟩
/- AFE.BR_CTRL: spec/06_angle_sensing.md R150 -/
def F.AFE.BR_CTRL.SWAP_REQ : Fld := ⟨.lin, 0x1000601, 0x0, 1, 0, 1, 0, 3, 0, .wo, none, .const 0⟩
/- AFE.BR_STAT: spec/06_angle_sensing.md R150 -/
def F.AFE.BR_STAT.CMT_ERR : Fld := ⟨.lin, 0x1000602, 0x0, 1, 0, 1, 0, 20, 20, .w1c, none, .const 0⟩
def F.AFE.BR_STAT.BRK : Fld := ⟨.lin, 0x1000602, 0x0, 1, 0, 1, 0, 19, 16, .w1c, none, .const 0⟩
def F.AFE.BR_STAT.SUSPECT : Fld := ⟨.lin, 0x1000602, 0x0, 1, 0, 1, 0, 15, 12, .ro, none, .const 0⟩
def F.AFE.BR_STAT.POL : Fld := ⟨.lin, 0x1000602, 0x0, 1, 0, 1, 0, 11, 8, .ro, none, .const 0⟩
def F.AFE.BR_STAT.VALID : Fld := ⟨.lin, 0x1000602, 0x0, 1, 0, 1, 0, 7, 4, .ro, none, .const 0⟩
def F.AFE.BR_STAT.V_NOW : Fld := ⟨.lin, 0x1000602, 0x0, 1, 0, 1, 0, 1, 1, .ro, none, .const 0⟩
def F.AFE.BR_STAT.H_NOW : Fld := ⟨.lin, 0x1000602, 0x0, 1, 0, 1, 0, 0, 0, .ro, none, .const 0⟩
/- AFE.BR_CNT: spec/06_angle_sensing.md R150 -/
def F.AFE.BR_CNT.GLITCH : Fld := ⟨.lin, 0x1000603, 0x0, 1, 0, 1, 0, 47, 32, .rc, none, .const 0⟩
def F.AFE.BR_CNT.DEFER : Fld := ⟨.lin, 0x1000603, 0x0, 1, 0, 1, 0, 31, 16, .rc, none, .const 0⟩
def F.AFE.BR_CNT.SWAPS : Fld := ⟨.lin, 0x1000603, 0x0, 1, 0, 1, 0, 15, 0, .ro, none, .const 0⟩
/- AFE.EXC_CFG: spec/06_angle_sensing.md R150 -/
def F.AFE.EXC_CFG.I_MAX : Fld := ⟨.lin, 0x1000604, 0x0, 1, 0, 1, 0, 31, 16, .rwl, none, .const 400⟩
def F.AFE.EXC_CFG.I_MIN : Fld := ⟨.lin, 0x1000604, 0x0, 1, 0, 1, 0, 15, 0, .rwl, none, .const 100⟩
/- AFE.BR_OUT: spec/06_angle_sensing.md R150 -/
def F.AFE.BR_OUT.POL : Fld := ⟨.lin, 0x1000608, 0x2, 4, 0, 1, 0, 26, 26, .ro, none, .const 0⟩
def F.AFE.BR_OUT.TEST : Fld := ⟨.lin, 0x1000608, 0x2, 4, 0, 1, 0, 25, 25, .ro, none, .const 0⟩
def F.AFE.BR_OUT.VALID : Fld := ⟨.lin, 0x1000608, 0x2, 4, 0, 1, 0, 24, 24, .ro, none, .const 0⟩
def F.AFE.BR_OUT.RAW : Fld := ⟨.lin, 0x1000608, 0x2, 4, 0, 1, 0, 23, 0, .ro, none, .const 0⟩
/- AFE.BR_ANG: spec/06_angle_sensing.md R150 -/
def F.AFE.BR_ANG.ANGLE : Fld := ⟨.lin, 0x1000609, 0x2, 4, 0, 1, 0, 23, 0, .ro, none, .const 0⟩
/- AFE.EXC_I: spec/06_angle_sensing.md R150 -/
def F.AFE.EXC_I.I_MEAN : Fld := ⟨.lin, 0x1000610, 0x1, 4, 0, 1, 0, 15, 0, .ro, none, .const 0⟩
/- AFE.POLY: spec/06_angle_sensing.md R150 -/
def F.AFE.POLY.C : Fld := ⟨.lin, 0x1000620, 0x1, 72, 0, 1, 0, 47, 0, .rws, (some .frontEnd), .const 0⟩
/- AFE.POLY_CFG: spec/06_angle_sensing.md R150 -/
def F.AFE.POLY_CFG.T_IN : Fld := ⟨.lin, 0x1000668, 0x1, 4, 0, 1, 0, 20, 16, .rws, (some .frontEnd), .const 0⟩
def F.AFE.POLY_CFG.T_REF : Fld := ⟨.lin, 0x1000668, 0x1, 4, 0, 1, 0, 15, 0, .rws, (some .frontEnd), .const 2500⟩
/- AFE.HK_CTRL: spec/06_angle_sensing.md R150 -/
def F.AFE.HK_CTRL.SINGLE_IN : Fld := ⟨.lin, 0x1000670, 0x0, 1, 0, 1, 0, 12, 8, .rw, none, .const 0⟩
def F.AFE.HK_CTRL.SINGLE : Fld := ⟨.lin, 0x1000670, 0x0, 1, 0, 1, 0, 1, 1, .wo, none, .const 0⟩
def F.AFE.HK_CTRL.RUN : Fld := ⟨.lin, 0x1000670, 0x0, 1, 0, 1, 0, 0, 0, .rw, none, .const 0⟩
/- AFE.HK_EN: spec/06_angle_sensing.md R150 -/
def F.AFE.HK_EN.EN : Fld := ⟨.lin, 0x1000671, 0x0, 1, 0, 1, 0, 23, 0, .rw, none, .const 0⟩
/- AFE.HK_DATA: spec/06_angle_sensing.md R150 -/
def F.AFE.HK_DATA.INPUT : Fld := ⟨.lin, 0x1000672, 0x0, 1, 0, 1, 0, 34, 30, .ro, none, .const 0⟩
def F.AFE.HK_DATA.NEW : Fld := ⟨.lin, 0x1000672, 0x0, 1, 0, 1, 0, 29, 29, .rc, none, .const 0⟩
def F.AFE.HK_DATA.TEST : Fld := ⟨.lin, 0x1000672, 0x0, 1, 0, 1, 0, 28, 28, .ro, none, .const 0⟩
def F.AFE.HK_DATA.RANGE : Fld := ⟨.lin, 0x1000672, 0x0, 1, 0, 1, 0, 27, 27, .ro, none, .const 0⟩
def F.AFE.HK_DATA.CURVE : Fld := ⟨.lin, 0x1000672, 0x0, 1, 0, 1, 0, 26, 24, .ro, none, .const 0⟩
def F.AFE.HK_DATA.VALUE : Fld := ⟨.lin, 0x1000672, 0x0, 1, 0, 1, 0, 23, 0, .ro, none, .const 0⟩
/- AFE.HK_STAT: spec/06_angle_sensing.md R150 -/
def F.AFE.HK_STAT.OVR_CNT : Fld := ⟨.lin, 0x1000673, 0x0, 1, 0, 1, 0, 47, 32, .rc, none, .const 0⟩
def F.AFE.HK_STAT.PAUSED : Fld := ⟨.lin, 0x1000673, 0x0, 1, 0, 1, 0, 2, 2, .ro, none, .const 0⟩
def F.AFE.HK_STAT.BUSY : Fld := ⟨.lin, 0x1000673, 0x0, 1, 0, 1, 0, 1, 1, .ro, none, .const 0⟩
def F.AFE.HK_STAT.OVR : Fld := ⟨.lin, 0x1000673, 0x0, 1, 0, 1, 0, 0, 0, .w1c, none, .const 0⟩
/- AFE.REF_CFG: spec/06_angle_sensing.md R150 -/
def F.AFE.REF_CFG.SRC : Fld := ⟨.lin, 0x1000674, 0x0, 1, 0, 1, 0, 1, 0, .rwl, none, .const 0⟩
/- AFE.REF_STAT: spec/06_angle_sensing.md R150 -/
def F.AFE.REF_STAT.REF_ERR : Fld := ⟨.lin, 0x1000675, 0x0, 1, 0, 1, 0, 1, 1, .w1c, none, .const 0⟩
def F.AFE.REF_STAT.SETTLED : Fld := ⟨.lin, 0x1000675, 0x0, 1, 0, 1, 0, 0, 0, .ro, none, .const 0⟩
/- AFE.HK_IN: spec/06_angle_sensing.md R150 -/
def F.AFE.HK_IN.SETTLE : Fld := ⟨.lin, 0x1000680, 0x1, 24, 0, 1, 0, 26, 20, .rw, none, .const 3⟩
def F.AFE.HK_IN.CURVE : Fld := ⟨.lin, 0x1000680, 0x1, 24, 0, 1, 0, 18, 16, .rw, none, .const 0⟩
def F.AFE.HK_IN.R_SER : Fld := ⟨.lin, 0x1000680, 0x1, 24, 0, 1, 0, 15, 0, .rw, none, .const 10000⟩
/- AFE.TDAC_CFG: spec/06_angle_sensing.md R150 -/
def F.AFE.TDAC_CFG.EN : Fld := ⟨.lin, 0x10006a0, 0x0, 1, 0, 1, 0, 24, 24, .rw, none, .const 0⟩
def F.AFE.TDAC_CFG.TARGET : Fld := ⟨.lin, 0x10006a0, 0x0, 1, 0, 1, 0, 20, 16, .rw, none, .const 0⟩
def F.AFE.TDAC_CFG.LEVEL : Fld := ⟨.lin, 0x10006a0, 0x0, 1, 0, 1, 0, 11, 0, .rw, none, .const 0⟩
/- AFE.TDAC_STAT: spec/06_angle_sensing.md R150 -/
def F.AFE.TDAC_STAT.ACTIVE : Fld := ⟨.lin, 0x10006a1, 0x0, 1, 0, 1, 0, 0, 0, .ro, none, .const 0⟩
def fldsAFE0 : List Fld :=
  [F.AFE.BR_CFG.SWAP_IVL, F.AFE.BR_CFG.ACT_V, F.AFE.BR_CFG.ACT_H,
   F.AFE.BR_CFG.GAIN_V, F.AFE.BR_CFG.GAIN_H, F.AFE.BR_CFG.PRESET_V,
   F.AFE.BR_CFG.PRESET_H, F.AFE.BR_CTRL.SWAP_REQ, F.AFE.BR_STAT.CMT_ERR,
   F.AFE.BR_STAT.BRK, F.AFE.BR_STAT.SUSPECT, F.AFE.BR_STAT.POL,
   F.AFE.BR_STAT.VALID, F.AFE.BR_STAT.V_NOW, F.AFE.BR_STAT.H_NOW,
   F.AFE.BR_CNT.GLITCH, F.AFE.BR_CNT.DEFER, F.AFE.BR_CNT.SWAPS,
   F.AFE.EXC_CFG.I_MAX, F.AFE.EXC_CFG.I_MIN, F.AFE.BR_OUT.POL,
   F.AFE.BR_OUT.TEST, F.AFE.BR_OUT.VALID, F.AFE.BR_OUT.RAW,
   F.AFE.BR_ANG.ANGLE, F.AFE.EXC_I.I_MEAN, F.AFE.POLY.C,
   F.AFE.POLY_CFG.T_IN, F.AFE.POLY_CFG.T_REF, F.AFE.HK_CTRL.SINGLE_IN,
   F.AFE.HK_CTRL.SINGLE, F.AFE.HK_CTRL.RUN, F.AFE.HK_EN.EN,
   F.AFE.HK_DATA.INPUT, F.AFE.HK_DATA.NEW, F.AFE.HK_DATA.TEST,
   F.AFE.HK_DATA.RANGE, F.AFE.HK_DATA.CURVE, F.AFE.HK_DATA.VALUE,
   F.AFE.HK_STAT.OVR_CNT]
def fldsAFE1 : List Fld :=
  [F.AFE.HK_STAT.PAUSED, F.AFE.HK_STAT.BUSY, F.AFE.HK_STAT.OVR,
   F.AFE.REF_CFG.SRC, F.AFE.REF_STAT.REF_ERR, F.AFE.REF_STAT.SETTLED,
   F.AFE.HK_IN.SETTLE, F.AFE.HK_IN.CURVE, F.AFE.HK_IN.R_SER,
   F.AFE.TDAC_CFG.EN, F.AFE.TDAC_CFG.TARGET, F.AFE.TDAC_CFG.LEVEL,
   F.AFE.TDAC_STAT.ACTIVE]
def fldsAFE : List Fld := fldsAFE0 ++ fldsAFE1

/- SAFE.STAT: spec/14_safety.md R349 -/
def F.SAFE.STAT.LOCKSTEP_OK : Fld := ⟨.lin, 0x1000800, 0x0, 1, 0, 1, 0, 15, 15, .ro, none, .const 0⟩
def F.SAFE.STAT.SELFTEST : Fld := ⟨.lin, 0x1000800, 0x0, 1, 0, 1, 0, 14, 14, .ro, none, .const 0⟩
def F.SAFE.STAT.LOCKED : Fld := ⟨.lin, 0x1000800, 0x0, 1, 0, 1, 0, 13, 13, .ro, none, .const 0⟩
def F.SAFE.STAT.ACTIVE : Fld := ⟨.lin, 0x1000800, 0x0, 1, 0, 1, 0, 12, 12, .ro, none, .const 0⟩
def F.SAFE.STAT.LSR_CMD : Fld := ⟨.lin, 0x1000800, 0x0, 1, 0, 1, 0, 3, 3, .ro, none, .const 0⟩
def F.SAFE.STAT.SF2_RUN : Fld := ⟨.lin, 0x1000800, 0x0, 1, 0, 1, 0, 2, 2, .ro, none, .const 0⟩
def F.SAFE.STAT.SOUT_ON : Fld := ⟨.lin, 0x1000800, 0x0, 1, 0, 1, 0, 1, 0, .ro, none, .const 0⟩
/- SAFE.FLT: spec/14_safety.md R349 -/
def F.SAFE.FLT.RECEIVER : Fld := ⟨.lin, 0x1000801, 0x0, 1, 0, 1, 0, 24, 24, .w1c, none, .const 0⟩
def F.SAFE.FLT.SECOND : Fld := ⟨.lin, 0x1000801, 0x0, 1, 0, 1, 0, 23, 23, .w1c, none, .const 0⟩
def F.SAFE.FLT.DEG_TMO : Fld := ⟨.lin, 0x1000801, 0x0, 1, 0, 1, 0, 22, 22, .w1c, none, .const 0⟩
def F.SAFE.FLT.DOMECHK : Fld := ⟨.lin, 0x1000801, 0x0, 1, 0, 1, 0, 21, 21, .w1c, none, .const 0⟩
def F.SAFE.FLT.LOCKSTEP : Fld := ⟨.lin, 0x1000801, 0x0, 1, 0, 1, 0, 20, 20, .w1c, none, .const 0⟩
def F.SAFE.FLT.FRAME : Fld := ⟨.lin, 0x1000801, 0x0, 1, 0, 1, 0, 19, 19, .w1c, none, .const 0⟩
def F.SAFE.FLT.SOUT : Fld := ⟨.lin, 0x1000801, 0x0, 1, 0, 1, 0, 18, 18, .w1c, none, .const 0⟩
def F.SAFE.FLT.TP : Fld := ⟨.lin, 0x1000801, 0x0, 1, 0, 1, 0, 17, 17, .w1c, none, .const 0⟩
def F.SAFE.FLT.SIN_X : Fld := ⟨.lin, 0x1000801, 0x0, 1, 0, 1, 0, 16, 16, .w1c, none, .const 0⟩
def F.SAFE.FLT.SIN : Fld := ⟨.lin, 0x1000801, 0x0, 1, 0, 1, 0, 15, 15, .w1c, none, .const 0⟩
def F.SAFE.FLT.SUP_DUAL : Fld := ⟨.lin, 0x1000801, 0x0, 1, 0, 1, 0, 14, 14, .w1c, none, .const 0⟩
def F.SAFE.FLT.SUP_BK : Fld := ⟨.lin, 0x1000801, 0x0, 1, 0, 1, 0, 13, 13, .w1c, none, .const 0⟩
def F.SAFE.FLT.PORT : Fld := ⟨.lin, 0x1000801, 0x0, 1, 0, 1, 0, 12, 12, .w1c, none, .const 0⟩
def F.SAFE.FLT.PROC : Fld := ⟨.lin, 0x1000801, 0x0, 1, 0, 1, 0, 11, 11, .w1c, none, .const 0⟩
def F.SAFE.FLT.SEQ : Fld := ⟨.lin, 0x1000801, 0x0, 1, 0, 1, 0, 10, 10, .w1c, none, .const 0⟩
def F.SAFE.FLT.STRIP : Fld := ⟨.lin, 0x1000801, 0x0, 1, 0, 1, 0, 9, 9, .w1c, none, .const 0⟩
def F.SAFE.FLT.BRIDGE : Fld := ⟨.lin, 0x1000801, 0x0, 1, 0, 1, 0, 8, 8, .w1c, none, .const 0⟩
def F.SAFE.FLT.LPLL : Fld := ⟨.lin, 0x1000801, 0x0, 1, 0, 1, 0, 7, 7, .w1c, none, .const 0⟩
def F.SAFE.FLT.SPLL : Fld := ⟨.lin, 0x1000801, 0x0, 1, 0, 1, 0, 6, 6, .w1c, none, .const 0⟩
def F.SAFE.FLT.REF : Fld := ⟨.lin, 0x1000801, 0x0, 1, 0, 1, 0, 5, 5, .w1c, none, .const 0⟩
def F.SAFE.FLT.TPLL : Fld := ⟨.lin, 0x1000801, 0x0, 1, 0, 1, 0, 4, 4, .w1c, none, .const 0⟩
def F.SAFE.FLT.MIRROR : Fld := ⟨.lin, 0x1000801, 0x0, 1, 0, 1, 0, 3, 3, .w1c, none, .const 0⟩
def F.SAFE.FLT.LPF : Fld := ⟨.lin, 0x1000801, 0x0, 1, 0, 1, 0, 2, 2, .w1c, none, .const 0⟩
def F.SAFE.FLT.PULSE : Fld := ⟨.lin, 0x1000801, 0x0, 1, 0, 1, 0, 1, 1, .w1c, none, .const 0⟩
def F.SAFE.FLT.EYE : Fld := ⟨.lin, 0x1000801, 0x0, 1, 0, 1, 0, 0, 0, .w1c, none, .const 0⟩
/- SAFE.DEG_CTRL: spec/14_safety.md R349 -/
def F.SAFE.DEG_CTRL.ACK : Fld := ⟨.lin, 0x1000802, 0x0, 1, 0, 1, 0, 0, 0, .wo, none, .const 0⟩
/- SAFE.DEG_CFG: spec/14_safety.md R349 -/
def F.SAFE.DEG_CFG.TMAX : Fld := ⟨.lin, 0x1000803, 0x0, 1, 0, 1, 0, 6, 0, .rwl, none, .const 20⟩
/- SAFE.DEG_STAT: spec/14_safety.md R349 -/
def F.SAFE.DEG_STAT.ELAPSED : Fld := ⟨.lin, 0x1000804, 0x0, 1, 0, 1, 0, 47, 32, .ro, none, .const 0⟩
def F.SAFE.DEG_STAT.ACKED : Fld := ⟨.lin, 0x1000804, 0x0, 1, 0, 1, 0, 9, 9, .ro, none, .const 0⟩
def F.SAFE.DEG_STAT.PORT_B : Fld := ⟨.lin, 0x1000804, 0x0, 1, 0, 1, 0, 8, 8, .ro, none, .const 0⟩
def F.SAFE.DEG_STAT.PORT_A : Fld := ⟨.lin, 0x1000804, 0x0, 1, 0, 1, 0, 7, 7, .ro, none, .const 0⟩
def F.SAFE.DEG_STAT.BK : Fld := ⟨.lin, 0x1000804, 0x0, 1, 0, 1, 0, 6, 6, .ro, none, .const 0⟩
def F.SAFE.DEG_STAT.AXIS_V : Fld := ⟨.lin, 0x1000804, 0x0, 1, 0, 1, 0, 5, 5, .ro, none, .const 0⟩
def F.SAFE.DEG_STAT.AXIS_H : Fld := ⟨.lin, 0x1000804, 0x0, 1, 0, 1, 0, 4, 4, .ro, none, .const 0⟩
def F.SAFE.DEG_STAT.DROP : Fld := ⟨.lin, 0x1000804, 0x0, 1, 0, 1, 0, 3, 0, .ro, none, .const 0⟩
/- SAFE.ENTRY_STAT: spec/14_safety.md R349 -/
def F.SAFE.ENTRY_STAT.ERR : Fld := ⟨.lin, 0x1000805, 0x0, 1, 0, 1, 0, 3, 0, .ro, none, .const 0⟩
/- SAFE.SF2_CFG: spec/14_safety.md R349 -/
def F.SAFE.SF2_CFG.FRAME_MAX : Fld := ⟨.lin, 0x1000808, 0x0, 1, 0, 1, 0, 47, 32, .rwl, none, .const 500⟩
def F.SAFE.SF2_CFG.N_REL : Fld := ⟨.lin, 0x1000808, 0x0, 1, 0, 1, 0, 23, 20, .rwl, none, .const 2⟩
def F.SAFE.SF2_CFG.N_CONF : Fld := ⟨.lin, 0x1000808, 0x0, 1, 0, 1, 0, 19, 16, .rwl, none, .const 2⟩
def F.SAFE.SF2_CFG.EN : Fld := ⟨.lin, 0x1000808, 0x0, 1, 0, 1, 0, 1, 1, .rwl, none, .const 0⟩
def F.SAFE.SF2_CFG.LOCK : Fld := ⟨.lin, 0x1000808, 0x0, 1, 0, 1, 0, 0, 0, .w1s, none, .const 0⟩
/- SAFE.SF2_STAT: spec/14_safety.md R349 -/
def F.SAFE.SF2_STAT.VERDICTS : Fld := ⟨.lin, 0x1000809, 0x0, 1, 0, 1, 0, 47, 32, .ro, none, .const 0⟩
def F.SAFE.SF2_STAT.INCOMP : Fld := ⟨.lin, 0x1000809, 0x0, 1, 0, 1, 0, 23, 16, .ro, none, .const 0⟩
def F.SAFE.SF2_STAT.OCC : Fld := ⟨.lin, 0x1000809, 0x0, 1, 0, 1, 0, 15, 8, .ro, none, .const 0⟩
def F.SAFE.SF2_STAT.INTR : Fld := ⟨.lin, 0x1000809, 0x0, 1, 0, 1, 0, 7, 0, .ro, none, .const 0⟩
/- SAFE.SF2_CNT: spec/14_safety.md R349 -/
def F.SAFE.SF2_CNT.INCOMPLETE : Fld := ⟨.lin, 0x100080a, 0x0, 1, 0, 1, 0, 47, 32, .rc, none, .const 0⟩
def F.SAFE.SF2_CNT.FTMO : Fld := ⟨.lin, 0x100080a, 0x0, 1, 0, 1, 0, 31, 16, .rc, none, .const 0⟩
/- SAFE.SOUT_STAT: spec/14_safety.md R349 -/
def F.SAFE.SOUT_STAT.FLT : Fld := ⟨.lin, 0x100080c, 0x0, 1, 0, 1, 0, 11, 8, .w1c, none, .const 0⟩
def F.SAFE.SOUT_STAT.GAP_OK : Fld := ⟨.lin, 0x100080c, 0x0, 1, 0, 1, 0, 7, 4, .ro, none, .const 0⟩
def F.SAFE.SOUT_STAT.DEMAND : Fld := ⟨.lin, 0x100080c, 0x0, 1, 0, 1, 0, 3, 2, .ro, none, .const 0⟩
def F.SAFE.SOUT_STAT.ON : Fld := ⟨.lin, 0x100080c, 0x0, 1, 0, 1, 0, 1, 0, .ro, none, .const 0⟩
/- SAFE.SOUT_CNT: spec/14_safety.md R349 -/
def F.SAFE.SOUT_CNT.GAPS : Fld := ⟨.lin, 0x100080d, 0x0, 1, 0, 1, 0, 47, 32, .ro, none, .const 0⟩
def F.SAFE.SOUT_CNT.SKIPPED : Fld := ⟨.lin, 0x100080d, 0x0, 1, 0, 1, 0, 31, 16, .rc, none, .const 0⟩
/- SAFE.SIN_CFG: spec/14_safety.md R349 -/
def F.SAFE.SIN_CFG.DISC_T : Fld := ⟨.lin, 0x1000810, 0x0, 1, 0, 1, 0, 47, 40, .rwl, none, .const 10⟩
def F.SAFE.SIN_CFG.ACT : Fld := ⟨.lin, 0x1000810, 0x0, 1, 0, 4, 8, 2, 2, .rwl, none, .const 1⟩
def F.SAFE.SIN_CFG.FUNC : Fld := ⟨.lin, 0x1000810, 0x0, 1, 0, 4, 8, 1, 0, .rwl, none, .const 0⟩
/- SAFE.SIN_STAT: spec/14_safety.md R349 -/
def F.SAFE.SIN_STAT.B_CL : Fld := ⟨.lin, 0x1000811, 0x0, 1, 0, 1, 0, 19, 16, .ro, none, .const 0⟩
def F.SAFE.SIN_STAT.A_CL : Fld := ⟨.lin, 0x1000811, 0x0, 1, 0, 1, 0, 15, 12, .ro, none, .const 0⟩
def F.SAFE.SIN_STAT.CROSS : Fld := ⟨.lin, 0x1000811, 0x0, 1, 0, 1, 0, 11, 8, .w1c, none, .const 0⟩
def F.SAFE.SIN_STAT.DISC : Fld := ⟨.lin, 0x1000811, 0x0, 1, 0, 1, 0, 7, 4, .w1c, none, .const 0⟩
def F.SAFE.SIN_STAT.CLOSED : Fld := ⟨.lin, 0x1000811, 0x0, 1, 0, 1, 0, 3, 0, .ro, none, .const 0⟩
/- SAFE.TP_STAT: spec/14_safety.md R349 -/
def F.SAFE.TP_STAT.OVC_B : Fld := ⟨.lin, 0x1000812, 0x0, 1, 0, 1, 0, 1, 1, .w1c, none, .const 0⟩
def F.SAFE.TP_STAT.OVC_A : Fld := ⟨.lin, 0x1000812, 0x0, 1, 0, 1, 0, 0, 0, .w1c, none, .const 0⟩
/- SAFE.ZONE_A: spec/14_safety.md R349 -/
def F.SAFE.ZONE_A.C1 : Fld := ⟨.lin, 0x1000820, 0x4, 8, 0, 1, 0, 47, 38, .rwl, none, .const 0⟩
def F.SAFE.ZONE_A.C0 : Fld := ⟨.lin, 0x1000820, 0x4, 8, 0, 1, 0, 37, 28, .rwl, none, .const 0⟩
def F.SAFE.ZONE_A.R1 : Fld := ⟨.lin, 0x1000820, 0x4, 8, 0, 1, 0, 27, 22, .rwl, none, .const 0⟩
def F.SAFE.ZONE_A.R0 : Fld := ⟨.lin, 0x1000820, 0x4, 8, 0, 1, 0, 21, 16, .rwl, none, .const 0⟩
def F.SAFE.ZONE_A.CONF_MIN : Fld := ⟨.lin, 0x1000820, 0x4, 8, 0, 1, 0, 15, 8, .rwl, none, .const 0⟩
def F.SAFE.ZONE_A.EXCL : Fld := ⟨.lin, 0x1000820, 0x4, 8, 0, 1, 0, 7, 2, .rwl, none, .const 0⟩
def F.SAFE.ZONE_A.STV : Fld := ⟨.lin, 0x1000820, 0x4, 8, 0, 1, 0, 1, 1, .rwl, none, .const 0⟩
def F.SAFE.ZONE_A.EN : Fld := ⟨.lin, 0x1000820, 0x4, 8, 0, 1, 0, 0, 0, .rwl, none, .const 0⟩
/- SAFE.ZONE_B: spec/14_safety.md R349 -/
def F.SAFE.ZONE_B.RMAX : Fld := ⟨.lin, 0x1000821, 0x4, 8, 0, 1, 0, 43, 24, .rwl, none, .const 0⟩
def F.SAFE.ZONE_B.RMIN : Fld := ⟨.lin, 0x1000821, 0x4, 8, 0, 1, 0, 19, 0, .rwl, none, .const 0⟩
/- SAFE.ZONE_C: spec/14_safety.md R349 -/
def F.SAFE.ZONE_C.OUT : Fld := ⟨.lin, 0x1000822, 0x4, 8, 0, 1, 0, 9, 8, .rwl, none, .const 0⟩
def F.SAFE.ZONE_C.MIN_SHOTS : Fld := ⟨.lin, 0x1000822, 0x4, 8, 0, 1, 0, 7, 0, .rwl, none, .const 255⟩
/- SAFE.ZONE_STAT: spec/14_safety.md R349 -/
def F.SAFE.ZONE_STAT.OCC_CNT : Fld := ⟨.lin, 0x1000823, 0x4, 8, 0, 1, 0, 47, 32, .rc, none, .const 0⟩
def F.SAFE.ZONE_STAT.INCOMP_CNT : Fld := ⟨.lin, 0x1000823, 0x4, 8, 0, 1, 0, 31, 16, .rc, none, .const 0⟩
def F.SAFE.ZONE_STAT.INTR : Fld := ⟨.lin, 0x1000823, 0x4, 8, 0, 1, 0, 0, 0, .ro, none, .const 0⟩
def fldsSAFE0 : List Fld :=
  [F.SAFE.STAT.LOCKSTEP_OK, F.SAFE.STAT.SELFTEST, F.SAFE.STAT.LOCKED,
   F.SAFE.STAT.ACTIVE, F.SAFE.STAT.LSR_CMD, F.SAFE.STAT.SF2_RUN,
   F.SAFE.STAT.SOUT_ON, F.SAFE.FLT.RECEIVER, F.SAFE.FLT.SECOND,
   F.SAFE.FLT.DEG_TMO, F.SAFE.FLT.DOMECHK, F.SAFE.FLT.LOCKSTEP,
   F.SAFE.FLT.FRAME, F.SAFE.FLT.SOUT, F.SAFE.FLT.TP,
   F.SAFE.FLT.SIN_X, F.SAFE.FLT.SIN, F.SAFE.FLT.SUP_DUAL,
   F.SAFE.FLT.SUP_BK, F.SAFE.FLT.PORT, F.SAFE.FLT.PROC,
   F.SAFE.FLT.SEQ, F.SAFE.FLT.STRIP, F.SAFE.FLT.BRIDGE,
   F.SAFE.FLT.LPLL, F.SAFE.FLT.SPLL, F.SAFE.FLT.REF,
   F.SAFE.FLT.TPLL, F.SAFE.FLT.MIRROR, F.SAFE.FLT.LPF,
   F.SAFE.FLT.PULSE, F.SAFE.FLT.EYE, F.SAFE.DEG_CTRL.ACK,
   F.SAFE.DEG_CFG.TMAX, F.SAFE.DEG_STAT.ELAPSED, F.SAFE.DEG_STAT.ACKED,
   F.SAFE.DEG_STAT.PORT_B, F.SAFE.DEG_STAT.PORT_A, F.SAFE.DEG_STAT.BK,
   F.SAFE.DEG_STAT.AXIS_V]
def fldsSAFE1 : List Fld :=
  [F.SAFE.DEG_STAT.AXIS_H, F.SAFE.DEG_STAT.DROP, F.SAFE.ENTRY_STAT.ERR,
   F.SAFE.SF2_CFG.FRAME_MAX, F.SAFE.SF2_CFG.N_REL, F.SAFE.SF2_CFG.N_CONF,
   F.SAFE.SF2_CFG.EN, F.SAFE.SF2_CFG.LOCK, F.SAFE.SF2_STAT.VERDICTS,
   F.SAFE.SF2_STAT.INCOMP, F.SAFE.SF2_STAT.OCC, F.SAFE.SF2_STAT.INTR,
   F.SAFE.SF2_CNT.INCOMPLETE, F.SAFE.SF2_CNT.FTMO, F.SAFE.SOUT_STAT.FLT,
   F.SAFE.SOUT_STAT.GAP_OK, F.SAFE.SOUT_STAT.DEMAND, F.SAFE.SOUT_STAT.ON,
   F.SAFE.SOUT_CNT.GAPS, F.SAFE.SOUT_CNT.SKIPPED, F.SAFE.SIN_CFG.DISC_T,
   F.SAFE.SIN_CFG.ACT, F.SAFE.SIN_CFG.FUNC, F.SAFE.SIN_STAT.B_CL,
   F.SAFE.SIN_STAT.A_CL, F.SAFE.SIN_STAT.CROSS, F.SAFE.SIN_STAT.DISC,
   F.SAFE.SIN_STAT.CLOSED, F.SAFE.TP_STAT.OVC_B, F.SAFE.TP_STAT.OVC_A,
   F.SAFE.ZONE_A.C1, F.SAFE.ZONE_A.C0, F.SAFE.ZONE_A.R1,
   F.SAFE.ZONE_A.R0, F.SAFE.ZONE_A.CONF_MIN, F.SAFE.ZONE_A.EXCL,
   F.SAFE.ZONE_A.STV, F.SAFE.ZONE_A.EN, F.SAFE.ZONE_B.RMAX,
   F.SAFE.ZONE_B.RMIN]
def fldsSAFE2 : List Fld :=
  [F.SAFE.ZONE_C.OUT, F.SAFE.ZONE_C.MIN_SHOTS, F.SAFE.ZONE_STAT.OCC_CNT,
   F.SAFE.ZONE_STAT.INCOMP_CNT, F.SAFE.ZONE_STAT.INTR]
def fldsSAFE : List Fld := fldsSAFE0 ++ fldsSAFE1 ++ fldsSAFE2

/- LINK.CTRL: spec/15_gloelink.md R386 -/
def F.LINK.CTRL.EV_EN : Fld := ⟨.lin, 0x1000900, 0x40, 3, 0, 1, 0, 47, 40, .rw, none, .first 2 39⟩
def F.LINK.CTRL.RETRAIN : Fld := ⟨.lin, 0x1000900, 0x40, 3, 0, 1, 0, 1, 1, .wo, none, .const 0⟩
def F.LINK.CTRL.EN : Fld := ⟨.lin, 0x1000900, 0x40, 3, 0, 1, 0, 0, 0, .rw, none, .const 1⟩
/- LINK.PHY_CFG: spec/15_gloelink.md R386 -/
def F.LINK.PHY_CFG.DEEMPH : Fld := ⟨.lin, 0x1000901, 0x40, 3, 0, 1, 0, 11, 8, .rw, none, .const 6⟩
def F.LINK.PHY_CFG.SLEW : Fld := ⟨.lin, 0x1000901, 0x40, 3, 0, 1, 0, 5, 4, .rw, none, .const 1⟩
def F.LINK.PHY_CFG.EQ_HOLD : Fld := ⟨.lin, 0x1000901, 0x40, 3, 0, 1, 0, 0, 0, .rw, none, .const 0⟩
/- LINK.STAT: spec/15_gloelink.md R386 -/
def F.LINK.STAT.UPCNT : Fld := ⟨.lin, 0x1000902, 0x40, 3, 0, 1, 0, 47, 32, .ro, none, .const 0⟩
def F.LINK.STAT.DN_CAUSE : Fld := ⟨.lin, 0x1000902, 0x40, 3, 0, 1, 0, 31, 28, .ro, none, .const 0⟩
def F.LINK.STAT.P_ROLE : Fld := ⟨.lin, 0x1000902, 0x40, 3, 0, 1, 0, 25, 24, .ro, none, .const 0⟩
def F.LINK.STAT.P_POS : Fld := ⟨.lin, 0x1000902, 0x40, 3, 0, 1, 0, 23, 22, .ro, none, .const 0⟩
def F.LINK.STAT.RX_INV : Fld := ⟨.lin, 0x1000902, 0x40, 3, 0, 1, 0, 9, 9, .ro, none, .const 0⟩
def F.LINK.STAT.FAULT : Fld := ⟨.lin, 0x1000902, 0x40, 3, 0, 1, 0, 8, 8, .w1c, none, .const 0⟩
def F.LINK.STAT.STATE : Fld := ⟨.lin, 0x1000902, 0x40, 3, 0, 1, 0, 1, 0, .ro, none, .const 0⟩
/- LINK.FLT_CFG: spec/15_gloelink.md R386 -/
def F.LINK.FLT_CFG.SEM_HOLD : Fld := ⟨.lin, 0x1000903, 0x40, 3, 0, 1, 0, 47, 40, .rw, none, .const 100⟩
def F.LINK.FLT_CFG.DOWN_T : Fld := ⟨.lin, 0x1000903, 0x40, 3, 0, 1, 0, 15, 8, .rw, none, .const 10⟩
def F.LINK.FLT_CFG.REQ : Fld := ⟨.lin, 0x1000903, 0x40, 3, 0, 1, 0, 0, 0, .rwl, none, .first 1 1⟩
/- LINK.ERR_CNT0: spec/15_gloelink.md R386 -/
def F.LINK.ERR_CNT0.CRC : Fld := ⟨.lin, 0x1000904, 0x40, 3, 0, 1, 0, 47, 32, .rc, none, .const 0⟩
def F.LINK.ERR_CNT0.BLK : Fld := ⟨.lin, 0x1000904, 0x40, 3, 0, 1, 0, 31, 16, .rc, none, .const 0⟩
def F.LINK.ERR_CNT0.DUP : Fld := ⟨.lin, 0x1000904, 0x40, 3, 0, 1, 0, 15, 0, .rc, none, .const 0⟩
/- LINK.ERR_CNT1: spec/15_gloelink.md R386 -/
def F.LINK.ERR_CNT1.NAK : Fld := ⟨.lin, 0x1000905, 0x40, 3, 0, 1, 0, 47, 32, .rc, none, .const 0⟩
def F.LINK.ERR_CNT1.TMO : Fld := ⟨.lin, 0x1000905, 0x40, 3, 0, 1, 0, 31, 16, .rc, none, .const 0⟩
def F.LINK.ERR_CNT1.REPLAY : Fld := ⟨.lin, 0x1000905, 0x40, 3, 0, 1, 0, 15, 0, .rc, none, .const 0⟩
/- LINK.CREDIT: spec/15_gloelink.md R386 -/
def F.LINK.CREDIT.P_BUF0 : Fld := ⟨.lin, 0x1000906, 0x40, 3, 0, 1, 0, 47, 40, .ro, none, .const 0⟩
def F.LINK.CREDIT.P_BUF1 : Fld := ⟨.lin, 0x1000906, 0x40, 3, 0, 1, 0, 39, 32, .ro, none, .const 0⟩
def F.LINK.CREDIT.AVAIL0 : Fld := ⟨.lin, 0x1000906, 0x40, 3, 0, 1, 0, 31, 24, .ro, none, .const 0⟩
def F.LINK.CREDIT.AVAIL1 : Fld := ⟨.lin, 0x1000906, 0x40, 3, 0, 1, 0, 23, 16, .ro, none, .const 0⟩
def F.LINK.CREDIT.UNACK : Fld := ⟨.lin, 0x1000906, 0x40, 3, 0, 1, 0, 15, 8, .ro, none, .const 0⟩
/- LINK.TRAFFIC: spec/15_gloelink.md R386 -/
def F.LINK.TRAFFIC.TXFR : Fld := ⟨.lin, 0x1000907, 0x40, 3, 0, 1, 0, 47, 24, .ro, none, .const 0⟩
def F.LINK.TRAFFIC.RXFR : Fld := ⟨.lin, 0x1000907, 0x40, 3, 0, 1, 0, 23, 0, .ro, none, .const 0⟩
/- LINK.LOAD: spec/15_gloelink.md R386 -/
def F.LINK.LOAD.LOAD : Fld := ⟨.lin, 0x1000908, 0x40, 3, 0, 1, 0, 13, 0, .ro, none, .const 0⟩
/- LINK.CHAIN: spec/15_gloelink.md R386 -/
def F.LINK.CHAIN.PRESENT : Fld := ⟨.lin, 0x1000909, 0x40, 3, 0, 1, 0, 7, 4, .ro, none, .const 0⟩
def F.LINK.CHAIN.POS : Fld := ⟨.lin, 0x1000909, 0x40, 3, 0, 1, 0, 1, 0, .ro, none, .const 0⟩
def fldsLINK : List Fld :=
  [F.LINK.CTRL.EV_EN, F.LINK.CTRL.RETRAIN, F.LINK.CTRL.EN,
   F.LINK.PHY_CFG.DEEMPH, F.LINK.PHY_CFG.SLEW, F.LINK.PHY_CFG.EQ_HOLD,
   F.LINK.STAT.UPCNT, F.LINK.STAT.DN_CAUSE, F.LINK.STAT.P_ROLE,
   F.LINK.STAT.P_POS, F.LINK.STAT.RX_INV, F.LINK.STAT.FAULT,
   F.LINK.STAT.STATE, F.LINK.FLT_CFG.SEM_HOLD, F.LINK.FLT_CFG.DOWN_T,
   F.LINK.FLT_CFG.REQ, F.LINK.ERR_CNT0.CRC, F.LINK.ERR_CNT0.BLK,
   F.LINK.ERR_CNT0.DUP, F.LINK.ERR_CNT1.NAK, F.LINK.ERR_CNT1.TMO,
   F.LINK.ERR_CNT1.REPLAY, F.LINK.CREDIT.P_BUF0, F.LINK.CREDIT.P_BUF1,
   F.LINK.CREDIT.AVAIL0, F.LINK.CREDIT.AVAIL1, F.LINK.CREDIT.UNACK,
   F.LINK.TRAFFIC.TXFR, F.LINK.TRAFFIC.RXFR, F.LINK.LOAD.LOAD,
   F.LINK.CHAIN.PRESENT, F.LINK.CHAIN.POS]

/- MBX.STAT: spec/15_gloelink.md R387 -/
def F.MBX.STAT.STAMP : Fld := ⟨.lin, 0x1000a00, 0x8, 16, 0, 1, 0, 47, 24, .ro, none, .const 0⟩
def F.MBX.STAT.FULL : Fld := ⟨.lin, 0x1000a00, 0x8, 16, 0, 1, 0, 8, 8, .ro, none, .const 0⟩
def F.MBX.STAT.LEN : Fld := ⟨.lin, 0x1000a00, 0x8, 16, 0, 1, 0, 3, 0, .ro, none, .const 0⟩
/- MBX.AGE: spec/15_gloelink.md R387 -/
def F.MBX.AGE.AGE : Fld := ⟨.lin, 0x1000a01, 0x8, 16, 0, 1, 0, 31, 0, .ro, none, .const 0⟩
/- MBX.CFG: spec/15_gloelink.md R387 -/
def F.MBX.CFG.DB_TGT : Fld := ⟨.lin, 0x1000a02, 0x8, 16, 0, 1, 0, 15, 8, .rw, none, .const 0⟩
def F.MBX.CFG.ACK_TGT : Fld := ⟨.lin, 0x1000a02, 0x8, 16, 0, 1, 0, 7, 0, .rw, none, .const 0⟩
/- MBX.ACK: spec/15_gloelink.md R387 -/
def F.MBX.ACK.ACKC : Fld := ⟨.lin, 0x1000a03, 0x8, 16, 0, 1, 0, 1, 1, .wo, none, .const 0⟩
def F.MBX.ACK.ACK : Fld := ⟨.lin, 0x1000a03, 0x8, 16, 0, 1, 0, 0, 0, .w1s, none, .const 0⟩
/- MBX.CNT: spec/15_gloelink.md R387 -/
def F.MBX.CNT.SEQ : Fld := ⟨.lin, 0x1000a04, 0x8, 16, 0, 1, 0, 47, 32, .ro, none, .const 0⟩
def F.MBX.CNT.PLACED : Fld := ⟨.lin, 0x1000a04, 0x8, 16, 0, 1, 0, 31, 16, .ro, none, .const 0⟩
def F.MBX.CNT.FULL : Fld := ⟨.lin, 0x1000a04, 0x8, 16, 0, 1, 0, 15, 0, .rc, none, .const 0⟩
def fldsMBX : List Fld :=
  [F.MBX.STAT.STAMP, F.MBX.STAT.FULL, F.MBX.STAT.LEN,
   F.MBX.AGE.AGE, F.MBX.CFG.DB_TGT, F.MBX.CFG.ACK_TGT,
   F.MBX.ACK.ACKC, F.MBX.ACK.ACK, F.MBX.CNT.SEQ,
   F.MBX.CNT.PLACED, F.MBX.CNT.FULL]

/- SEM.CLAIM: spec/15_gloelink.md R388 -/
def F.SEM.CLAIM.GRP : Fld := ⟨.lin, 0x1000a80, 0x1, 32, 0, 1, 0, 38, 32, .rw, none, .const 0⟩
def F.SEM.CLAIM.BLK : Fld := ⟨.lin, 0x1000a80, 0x1, 32, 0, 1, 0, 31, 16, .rw, none, .const 0⟩
def F.SEM.CLAIM.HELD : Fld := ⟨.lin, 0x1000a80, 0x1, 32, 0, 1, 0, 8, 8, .ro, none, .const 0⟩
def F.SEM.CLAIM.OWNER : Fld := ⟨.lin, 0x1000a80, 0x1, 32, 0, 1, 0, 7, 0, .ro, none, .const 0⟩
def F.SEM.CLAIM.SETG : Fld := ⟨.lin, 0x1000a80, 0x1, 32, 0, 1, 0, 1, 1, .wo, none, .const 0⟩
def F.SEM.CLAIM.REL : Fld := ⟨.lin, 0x1000a80, 0x1, 32, 0, 1, 0, 0, 0, .wo, none, .const 0⟩
def fldsSEM : List Fld :=
  [F.SEM.CLAIM.GRP, F.SEM.CLAIM.BLK, F.SEM.CLAIM.HELD,
   F.SEM.CLAIM.OWNER, F.SEM.CLAIM.SETG, F.SEM.CLAIM.REL]

/- BGND.SCRUB_CFG: spec/16_background.md R400 -/
def F.BGND.SCRUB_CFG.PASS : Fld := ⟨.lin, 0x1000b00, 0x0, 1, 0, 1, 0, 11, 0, .rw, none, .const 2000⟩
/- BGND.SCRUB_STAT: spec/16_background.md R400 -/
def F.BGND.SCRUB_STAT.PASSES : Fld := ⟨.lin, 0x1000b01, 0x0, 1, 0, 1, 0, 47, 32, .ro, none, .const 0⟩
def F.BGND.SCRUB_STAT.SKIP : Fld := ⟨.lin, 0x1000b01, 0x0, 1, 0, 1, 0, 31, 16, .rc, none, .const 0⟩
/- BGND.SCRUB_CNT: spec/16_background.md R400 -/
def F.BGND.SCRUB_CNT.CTX : Fld := ⟨.lin, 0x1000b02, 0x0, 1, 0, 1, 0, 47, 32, .rc, none, .const 0⟩
def F.BGND.SCRUB_CNT.SS : Fld := ⟨.lin, 0x1000b02, 0x0, 1, 0, 1, 0, 31, 16, .rc, none, .const 0⟩
/- BGND.SCRUB_LOG: spec/16_background.md R400 -/
def F.BGND.SCRUB_LOG.VALID : Fld := ⟨.lin, 0x1000b03, 0x0, 1, 0, 1, 0, 14, 14, .w1c, none, .const 0⟩
def F.BGND.SCRUB_LOG.TILE : Fld := ⟨.lin, 0x1000b03, 0x0, 1, 0, 1, 0, 13, 0, .ro, none, .const 0⟩
/- BGND.CAL_SUM: spec/16_background.md R400 -/
def F.BGND.CAL_SUM.AGE_MAX : Fld := ⟨.lin, 0x1000b04, 0x0, 1, 0, 1, 0, 47, 32, .ro, none, .const 0⟩
def F.BGND.CAL_SUM.RET_CH : Fld := ⟨.lin, 0x1000b04, 0x0, 1, 0, 1, 0, 31, 24, .ro, none, .const 0⟩
def F.BGND.CAL_SUM.STALE : Fld := ⟨.lin, 0x1000b04, 0x0, 1, 0, 1, 0, 23, 0, .ro, none, .const 0⟩
/- BGND.HOT_CFG: spec/16_background.md R400 -/
def F.BGND.HOT_CFG.ABS : Fld := ⟨.lin, 0x1000b05, 0x0, 1, 0, 1, 0, 47, 32, .rw, none, .const 200⟩
def F.BGND.HOT_CFG.MULT : Fld := ⟨.lin, 0x1000b05, 0x0, 1, 0, 1, 0, 31, 24, .rw, none, .const 16⟩
def F.BGND.HOT_CFG.NPASS : Fld := ⟨.lin, 0x1000b05, 0x0, 1, 0, 1, 0, 23, 20, .rw, none, .const 3⟩
def F.BGND.HOT_CFG.EN : Fld := ⟨.lin, 0x1000b05, 0x0, 1, 0, 1, 0, 0, 0, .rwl, none, .const 1⟩
/- BGND.HOT_STAT: spec/16_background.md R400 -/
def F.BGND.HOT_STAT.RETIRED : Fld := ⟨.lin, 0x1000b06, 0x0, 1, 0, 1, 0, 47, 32, .ro, none, .const 0⟩
def F.BGND.HOT_STAT.CAP : Fld := ⟨.lin, 0x1000b06, 0x0, 1, 0, 1, 0, 31, 16, .rc, none, .const 0⟩
def F.BGND.HOT_STAT.PASSES : Fld := ⟨.lin, 0x1000b06, 0x0, 1, 0, 1, 0, 15, 0, .ro, none, .const 0⟩
/- BGND.HOT_STRIP: spec/16_background.md R400 -/
def F.BGND.HOT_STRIP.RET : Fld := ⟨.lin, 0x1000b18, 0x1, 24, 0, 1, 0, 15, 8, .ro, none, .const 0⟩
def F.BGND.HOT_STRIP.CAP : Fld := ⟨.lin, 0x1000b18, 0x1, 24, 0, 1, 0, 7, 0, .rc, none, .const 0⟩
/- BGND.AGE_CFG: spec/16_background.md R400 -/
def F.BGND.AGE_CFG.SEM : Fld := ⟨.lin, 0x1000b07, 0x0, 1, 0, 1, 0, 44, 40, .rw, none, .const 31⟩
def F.BGND.AGE_CFG.W_MAX : Fld := ⟨.lin, 0x1000b07, 0x0, 1, 0, 1, 0, 39, 32, .rw, none, .const 80⟩
def F.BGND.AGE_CFG.W_MIN : Fld := ⟨.lin, 0x1000b07, 0x0, 1, 0, 1, 0, 31, 24, .rw, none, .const 40⟩
def F.BGND.AGE_CFG.DB : Fld := ⟨.lin, 0x1000b07, 0x0, 1, 0, 1, 0, 23, 16, .rw, none, .const 20⟩
def F.BGND.AGE_CFG.IVL : Fld := ⟨.lin, 0x1000b07, 0x0, 1, 0, 1, 0, 15, 4, .rw, none, .const 10⟩
def F.BGND.AGE_CFG.CAPTURE : Fld := ⟨.lin, 0x1000b07, 0x0, 1, 0, 1, 0, 1, 1, .wo, none, .const 0⟩
def F.BGND.AGE_CFG.AUTO : Fld := ⟨.lin, 0x1000b07, 0x0, 1, 0, 1, 0, 0, 0, .rwl, none, .const 0⟩
/- BGND.AGE_STAT: spec/16_background.md R400 -/
def F.BGND.AGE_STAT.E_REF : Fld := ⟨.lin, 0x1000b08, 0x0, 1, 0, 1, 0, 47, 32, .ro, none, .const 0⟩
def F.BGND.AGE_STAT.E_MEAN : Fld := ⟨.lin, 0x1000b08, 0x0, 1, 0, 1, 0, 31, 16, .ro, none, .const 0⟩
def F.BGND.AGE_STAT.LIMIT : Fld := ⟨.lin, 0x1000b08, 0x0, 1, 0, 1, 0, 1, 1, .ro, none, .const 0⟩
def F.BGND.AGE_STAT.NODATA : Fld := ⟨.lin, 0x1000b08, 0x0, 1, 0, 1, 0, 0, 0, .ro, none, .const 0⟩
/- BGND.AGE_CNT: spec/16_background.md R400 -/
def F.BGND.AGE_CNT.UP : Fld := ⟨.lin, 0x1000b09, 0x0, 1, 0, 1, 0, 47, 32, .rc, none, .const 0⟩
def F.BGND.AGE_CNT.DOWN : Fld := ⟨.lin, 0x1000b09, 0x0, 1, 0, 1, 0, 31, 16, .rc, none, .const 0⟩
def F.BGND.AGE_CNT.SEMBUSY : Fld := ⟨.lin, 0x1000b09, 0x0, 1, 0, 1, 0, 15, 0, .rc, none, .const 0⟩
/- BGND.ALM_CFG: spec/16_background.md R400 -/
def F.BGND.ALM_CFG.IVL : Fld := ⟨.lin, 0x1000b0a, 0x0, 1, 0, 1, 0, 7, 0, .rw, none, .const 10⟩
/- BGND.ALM_STAT: spec/16_background.md R400 -/
def F.BGND.ALM_STAT.ASEQ : Fld := ⟨.lin, 0x1000b0b, 0x0, 1, 0, 1, 0, 47, 32, .ro, none, .const 0⟩
def F.BGND.ALM_STAT.UNSENT : Fld := ⟨.lin, 0x1000b0b, 0x0, 1, 0, 1, 0, 31, 16, .rc, none, .const 0⟩
/- BGND.RSET: spec/16_background.md R400 -/
def F.BGND.RSET.LEAST : Fld := ⟨.lin, 0x1000b10, 0x1, 8, 0, 1, 0, 47, 36, .ro, none, .const 0⟩
def F.BGND.RSET.EN : Fld := ⟨.lin, 0x1000b10, 0x1, 8, 0, 1, 0, 15, 15, .rw, none, .const 0⟩
def F.BGND.RSET.BANK : Fld := ⟨.lin, 0x1000b10, 0x1, 8, 0, 1, 0, 13, 12, .rw, none, .const 0⟩
def F.BGND.RSET.MEMBERS : Fld := ⟨.lin, 0x1000b10, 0x1, 8, 0, 1, 0, 11, 0, .rw, none, .const 0⟩
/- BGND.SEGUSE: spec/16_background.md R400 -/
def F.BGND.SEGUSE.LIT : Fld := ⟨.lin, 0x1000b30, 0x1, 48, 0, 1, 0, 47, 0, .rwl, none, .const 0⟩
def fldsBGND0 : List Fld :=
  [F.BGND.SCRUB_CFG.PASS, F.BGND.SCRUB_STAT.PASSES, F.BGND.SCRUB_STAT.SKIP,
   F.BGND.SCRUB_CNT.CTX, F.BGND.SCRUB_CNT.SS, F.BGND.SCRUB_LOG.VALID,
   F.BGND.SCRUB_LOG.TILE, F.BGND.CAL_SUM.AGE_MAX, F.BGND.CAL_SUM.RET_CH,
   F.BGND.CAL_SUM.STALE, F.BGND.HOT_CFG.ABS, F.BGND.HOT_CFG.MULT,
   F.BGND.HOT_CFG.NPASS, F.BGND.HOT_CFG.EN, F.BGND.HOT_STAT.RETIRED,
   F.BGND.HOT_STAT.CAP, F.BGND.HOT_STAT.PASSES, F.BGND.HOT_STRIP.RET,
   F.BGND.HOT_STRIP.CAP, F.BGND.AGE_CFG.SEM, F.BGND.AGE_CFG.W_MAX,
   F.BGND.AGE_CFG.W_MIN, F.BGND.AGE_CFG.DB, F.BGND.AGE_CFG.IVL,
   F.BGND.AGE_CFG.CAPTURE, F.BGND.AGE_CFG.AUTO, F.BGND.AGE_STAT.E_REF,
   F.BGND.AGE_STAT.E_MEAN, F.BGND.AGE_STAT.LIMIT, F.BGND.AGE_STAT.NODATA,
   F.BGND.AGE_CNT.UP, F.BGND.AGE_CNT.DOWN, F.BGND.AGE_CNT.SEMBUSY,
   F.BGND.ALM_CFG.IVL, F.BGND.ALM_STAT.ASEQ, F.BGND.ALM_STAT.UNSENT,
   F.BGND.RSET.LEAST, F.BGND.RSET.EN, F.BGND.RSET.BANK,
   F.BGND.RSET.MEMBERS]
def fldsBGND1 : List Fld :=
  [F.BGND.SEGUSE.LIT]
def fldsBGND : List Fld := fldsBGND0 ++ fldsBGND1

/- CORE.CTRL: spec/10_ivqua_model.md R249 -/
def F.CORE.CTRL.EV_MASK : Fld := ⟨.core, 0x0, 0x0, 12, 0, 1, 0, 47, 40, .rw, none, .const 0⟩
def F.CORE.CTRL.PROG_LOCK : Fld := ⟨.core, 0x0, 0x0, 12, 0, 1, 0, 6, 6, .w1s, none, .const 0⟩
def F.CORE.CTRL.TRAP_EN : Fld := ⟨.core, 0x0, 0x0, 12, 0, 1, 0, 5, 5, .rw, none, .const 1⟩
def F.CORE.CTRL.HOSTEV : Fld := ⟨.core, 0x0, 0x0, 12, 0, 1, 0, 4, 4, .wo, none, .const 0⟩
def F.CORE.CTRL.STOP : Fld := ⟨.core, 0x0, 0x0, 12, 0, 1, 0, 1, 1, .wo, none, .const 0⟩
def F.CORE.CTRL.START : Fld := ⟨.core, 0x0, 0x0, 12, 0, 1, 0, 0, 0, .wo, none, .const 0⟩
/- CORE.STAT: spec/10_ivqua_model.md R249 -/
def F.CORE.STAT.LOAD_ERR : Fld := ⟨.core, 0x1, 0x0, 12, 0, 1, 0, 11, 8, .ro, none, .const 0⟩
def F.CORE.STAT.TRAP_ACTIVE : Fld := ⟨.core, 0x1, 0x0, 12, 0, 1, 0, 4, 4, .ro, none, .const 0⟩
def F.CORE.STAT.STATE : Fld := ⟨.core, 0x1, 0x0, 12, 0, 1, 0, 2, 0, .ro, none, .const 0⟩
/- CORE.PROG: spec/10_ivqua_model.md R249 -/
def F.CORE.PROG.BASE : Fld := ⟨.core, 0x2, 0x0, 12, 0, 1, 0, 13, 0, .rw, none, .const 0⟩
/- CORE.PC: spec/10_ivqua_model.md R249 -/
def F.CORE.PC.PC : Fld := ⟨.core, 0x3, 0x0, 12, 0, 1, 0, 15, 0, .ro, none, .const 0⟩
/- CORE.TRAP: spec/10_ivqua_model.md R249 -/
def F.CORE.TRAP.SEC_CAUSE : Fld := ⟨.core, 0x4, 0x0, 12, 0, 1, 0, 47, 44, .ro, none, .const 0⟩
def F.CORE.TRAP.CAUSE : Fld := ⟨.core, 0x4, 0x0, 12, 0, 1, 0, 43, 40, .ro, none, .const 0⟩
def F.CORE.TRAP.TPC : Fld := ⟨.core, 0x4, 0x0, 12, 0, 1, 0, 15, 0, .ro, none, .const 0⟩
/- CORE.EVT: spec/10_ivqua_model.md R249 -/
def F.CORE.EVT.PENDING : Fld := ⟨.core, 0x5, 0x0, 12, 0, 1, 0, 7, 0, .ro, none, .const 0⟩
/- CORE.STT_WIN: spec/10_ivqua_model.md R249 -/
def F.CORE.STT_WIN.BASE : Fld := ⟨.core, 0x6, 0x0, 12, 0, 1, 0, 45, 32, .rwl, none, .const 0⟩
def F.CORE.STT_WIN.COUNT : Fld := ⟨.core, 0x6, 0x0, 12, 0, 1, 0, 13, 0, .rwl, none, .const 0⟩
def fldsCORE : List Fld :=
  [F.CORE.CTRL.EV_MASK, F.CORE.CTRL.PROG_LOCK, F.CORE.CTRL.TRAP_EN,
   F.CORE.CTRL.HOSTEV, F.CORE.CTRL.STOP, F.CORE.CTRL.START,
   F.CORE.STAT.LOAD_ERR, F.CORE.STAT.TRAP_ACTIVE, F.CORE.STAT.STATE,
   F.CORE.PROG.BASE, F.CORE.PC.PC, F.CORE.TRAP.SEC_CAUSE,
   F.CORE.TRAP.CAUSE, F.CORE.TRAP.TPC, F.CORE.EVT.PENDING,
   F.CORE.STT_WIN.BASE, F.CORE.STT_WIN.COUNT]

/- ALD.CTRL: spec/10_ivqua_model.md R249 -/
def F.ALD.CTRL.WD : Fld := ⟨.lin, 0x1000c00, 0x40, 4, 0, 1, 0, 39, 24, .rw, none, .const 0⟩
/- ALD.STAT: spec/10_ivqua_model.md R249 -/
def F.ALD.STAT.QLEN : Fld := ⟨.lin, 0x1000c01, 0x40, 4, 0, 1, 0, 20, 16, .ro, none, .const 0⟩
def F.ALD.STAT.WD_EXP : Fld := ⟨.lin, 0x1000c01, 0x40, 4, 0, 1, 0, 7, 7, .w1c, none, .const 0⟩
/- ALD.EVT_CNT: spec/10_ivqua_model.md R249 -/
def F.ALD.EVT_CNT.STALE : Fld := ⟨.lin, 0x1000c07, 0x40, 4, 0, 1, 0, 47, 24, .rc, none, .const 0⟩
def F.ALD.EVT_CNT.SKIPPED : Fld := ⟨.lin, 0x1000c07, 0x40, 4, 0, 1, 0, 23, 0, .rc, none, .const 0⟩
/- ALD.BOOK_CNT: spec/10_ivqua_model.md R249 -/
def F.ALD.BOOK_CNT.ACCEPTED : Fld := ⟨.lin, 0x1000c08, 0x40, 4, 0, 1, 0, 47, 24, .ro, none, .const 0⟩
def F.ALD.BOOK_CNT.REFUSED : Fld := ⟨.lin, 0x1000c08, 0x40, 4, 0, 1, 0, 23, 0, .ro, none, .const 0⟩
/- ALD.CYCLES: spec/10_ivqua_model.md R249 -/
def F.ALD.CYCLES.CYCLES : Fld := ⟨.lin, 0x1000c09, 0x40, 4, 0, 1, 0, 47, 0, .ro, none, .const 0⟩
/- ALD.SYNC: spec/10_ivqua_model.md R249 -/
def F.ALD.SYNC.INCOMPLETE : Fld := ⟨.lin, 0x1000c0a, 0x40, 4, 0, 1, 0, 47, 32, .rc, none, .const 0⟩
def F.ALD.SYNC.WAITING : Fld := ⟨.lin, 0x1000c0a, 0x40, 4, 0, 1, 0, 4, 4, .ro, none, .const 0⟩
def F.ALD.SYNC.MASK : Fld := ⟨.lin, 0x1000c0a, 0x40, 4, 0, 1, 0, 3, 0, .ro, none, .const 0⟩
/- ALD.WIN: spec/10_ivqua_model.md R249 -/
def F.ALD.WIN.L_CNT : Fld := ⟨.lin, 0x1000c0b, 0x40, 4, 0, 1, 0, 12, 0, .ro, none, .const 2560⟩
/- ALD.GREG: spec/10_ivqua_model.md R249 -/
def F.ALD.GREG.G : Fld := ⟨.lin, 0x1000c10, 0x40, 4, 1, 16, 0, 47, 0, .ro, none, .const 0⟩
/- ALD.EPH_LOAD: spec/10_ivqua_model.md R249 -/
def F.ALD.EPH_LOAD.GO : Fld := ⟨.lin, 0x1000c20, 0x0, 1, 0, 1, 0, 16, 16, .wo, none, .const 0⟩
def F.ALD.EPH_LOAD.TILE : Fld := ⟨.lin, 0x1000c20, 0x0, 1, 0, 1, 0, 13, 0, .rw, none, .const 0⟩
/- ALD.EPH_STAT: spec/10_ivqua_model.md R249 -/
def F.ALD.EPH_STAT.FAIL_COL : Fld := ⟨.lin, 0x1000c21, 0x0, 1, 0, 1, 0, 47, 38, .ro, none, .const 0⟩
def F.ALD.EPH_STAT.ERR : Fld := ⟨.lin, 0x1000c21, 0x0, 1, 0, 1, 0, 35, 32, .ro, none, .const 0⟩
def F.ALD.EPH_STAT.ACTIVE_TILE : Fld := ⟨.lin, 0x1000c21, 0x0, 1, 0, 1, 0, 29, 16, .ro, none, .const 0⟩
def F.ALD.EPH_STAT.INFORCE : Fld := ⟨.lin, 0x1000c21, 0x0, 1, 0, 1, 0, 4, 4, .ro, none, .const 0⟩
def F.ALD.EPH_STAT.CMT_ERR : Fld := ⟨.lin, 0x1000c21, 0x0, 1, 0, 1, 0, 3, 3, .w1c, none, .const 0⟩
def F.ALD.EPH_STAT.READY : Fld := ⟨.lin, 0x1000c21, 0x0, 1, 0, 1, 0, 1, 1, .ro, none, .const 0⟩
def F.ALD.EPH_STAT.BUSY : Fld := ⟨.lin, 0x1000c21, 0x0, 1, 0, 1, 0, 0, 0, .ro, none, .const 0⟩
/- ALD.EPH_CTRL: spec/10_ivqua_model.md R249 -/
def F.ALD.EPH_CTRL.SWAP : Fld := ⟨.lin, 0x1000c22, 0x0, 1, 0, 1, 0, 0, 0, .rws, (some .firing), .const 0⟩
def fldsALD : List Fld :=
  [F.ALD.CTRL.WD, F.ALD.STAT.QLEN, F.ALD.STAT.WD_EXP,
   F.ALD.EVT_CNT.STALE, F.ALD.EVT_CNT.SKIPPED, F.ALD.BOOK_CNT.ACCEPTED,
   F.ALD.BOOK_CNT.REFUSED, F.ALD.CYCLES.CYCLES, F.ALD.SYNC.INCOMPLETE,
   F.ALD.SYNC.WAITING, F.ALD.SYNC.MASK, F.ALD.WIN.L_CNT,
   F.ALD.GREG.G, F.ALD.EPH_LOAD.GO, F.ALD.EPH_LOAD.TILE,
   F.ALD.EPH_STAT.FAIL_COL, F.ALD.EPH_STAT.ERR, F.ALD.EPH_STAT.ACTIVE_TILE,
   F.ALD.EPH_STAT.INFORCE, F.ALD.EPH_STAT.CMT_ERR, F.ALD.EPH_STAT.READY,
   F.ALD.EPH_STAT.BUSY, F.ALD.EPH_CTRL.SWAP]

/- RTL.CTRL: spec/10_ivqua_model.md R250 -/
def F.RTL.CTRL.FAILOVER : Fld := ⟨.lin, 0x1000d00, 0x20, 8, 0, 1, 0, 7, 7, .rw, none, .const 1⟩
/- RTL.STAT: spec/10_ivqua_model.md R250 -/
def F.RTL.STAT.CELLS : Fld := ⟨.lin, 0x1000d01, 0x20, 8, 0, 1, 0, 47, 24, .ro, none, .const 0⟩
def F.RTL.STAT.ABANDON : Fld := ⟨.lin, 0x1000d01, 0x20, 8, 0, 1, 0, 23, 16, .rc, none, .const 0⟩
def F.RTL.STAT.CUR : Fld := ⟨.lin, 0x1000d01, 0x20, 8, 0, 1, 0, 5, 5, .ro, none, .const 0⟩
/- RTL.SVC: spec/10_ivqua_model.md R250 -/
def F.RTL.SVC.EFF : Fld := ⟨.lin, 0x1000d07, 0x20, 8, 0, 1, 0, 47, 24, .ro, none, .svc⟩
def F.RTL.SVC.SET : Fld := ⟨.lin, 0x1000d07, 0x20, 8, 0, 1, 0, 23, 0, .rw, none, .svc⟩
/- RTL.GREG: spec/10_ivqua_model.md R250 -/
def F.RTL.GREG.G : Fld := ⟨.lin, 0x1000d08, 0x20, 8, 1, 16, 0, 47, 0, .ro, none, .const 0⟩
def fldsRTL : List Fld :=
  [F.RTL.CTRL.FAILOVER, F.RTL.STAT.CELLS, F.RTL.STAT.ABANDON,
   F.RTL.STAT.CUR, F.RTL.SVC.EFF, F.RTL.SVC.SET,
   F.RTL.GREG.G]

/- BANK.RING_CFG: spec/09_rejection_points.md R222 -/
def F.BANK.RING_CFG.BASE : Fld := ⟨.lin, 0x1001000, 0x40, 4, 0, 1, 0, 45, 32, .rwl, none, .lin 14336 512⟩
def F.BANK.RING_CFG.NTILE : Fld := ⟨.lin, 0x1001000, 0x40, 4, 0, 1, 0, 29, 16, .rwl, none, .const 512⟩
def F.BANK.RING_CFG.STALL : Fld := ⟨.lin, 0x1001000, 0x40, 4, 0, 1, 0, 15, 8, .rwl, none, .const 2⟩
def F.BANK.RING_CFG.ROUTE : Fld := ⟨.lin, 0x1001000, 0x40, 4, 0, 1, 0, 1, 0, .rws, (some .rejection), .const 1⟩
/- BANK.RING_STAT: spec/09_rejection_points.md R222 -/
def F.BANK.RING_STAT.FILL : Fld := ⟨.lin, 0x1001001, 0x40, 4, 0, 1, 0, 47, 24, .ro, none, .const 0⟩
def F.BANK.RING_STAT.STALLED : Fld := ⟨.lin, 0x1001001, 0x40, 4, 0, 1, 0, 1, 1, .ro, none, .const 0⟩
def F.BANK.RING_STAT.DISC : Fld := ⟨.lin, 0x1001001, 0x40, 4, 0, 1, 0, 0, 0, .ro, none, .const 0⟩
/- BANK.RING_PTR: spec/09_rejection_points.md R222 -/
def F.BANK.RING_PTR.WR : Fld := ⟨.lin, 0x1001002, 0x40, 4, 0, 1, 0, 47, 24, .ro, none, .const 0⟩
def F.BANK.RING_PTR.RD : Fld := ⟨.lin, 0x1001002, 0x40, 4, 0, 1, 0, 23, 0, .ro, none, .const 0⟩
/- BANK.OUT_CNT0: spec/09_rejection_points.md R222 -/
def F.BANK.OUT_CNT0.RECS : Fld := ⟨.lin, 0x1001003, 0x40, 4, 0, 1, 0, 47, 24, .ro, none, .const 0⟩
def F.BANK.OUT_CNT0.HDRS : Fld := ⟨.lin, 0x1001003, 0x40, 4, 0, 1, 0, 23, 0, .ro, none, .const 0⟩
/- BANK.OUT_CNT1: spec/09_rejection_points.md R222 -/
def F.BANK.OUT_CNT1.LATE : Fld := ⟨.lin, 0x1001004, 0x40, 4, 0, 1, 0, 47, 32, .rc, none, .const 0⟩
def F.BANK.OUT_CNT1.DISCARD : Fld := ⟨.lin, 0x1001004, 0x40, 4, 0, 1, 0, 31, 16, .rc, none, .const 0⟩
def F.BANK.OUT_CNT1.STATUS : Fld := ⟨.lin, 0x1001004, 0x40, 4, 0, 1, 0, 15, 0, .rc, none, .const 0⟩
/- BANK.OUT_CNT2: spec/09_rejection_points.md R222 -/
def F.BANK.OUT_CNT2.REBASE : Fld := ⟨.lin, 0x1001005, 0x40, 4, 0, 1, 0, 47, 32, .rc, none, .const 0⟩
def F.BANK.OUT_CNT2.WAITS : Fld := ⟨.lin, 0x1001005, 0x40, 4, 0, 1, 0, 31, 16, .rc, none, .const 0⟩
/- BANK.OCC_CFG0: spec/09_rejection_points.md R222 -/
def F.BANK.OCC_CFG0.SNR_MIN : Fld := ⟨.lin, 0x1001008, 0x40, 4, 0, 1, 0, 47, 40, .rws, (some .rejection), .const 48⟩
def F.BANK.OCC_CFG0.DET_MIN : Fld := ⟨.lin, 0x1001008, 0x40, 4, 0, 1, 0, 39, 32, .rws, (some .rejection), .const 3⟩
def F.BANK.OCC_CFG0.HW : Fld := ⟨.lin, 0x1001008, 0x40, 4, 0, 1, 0, 31, 24, .rws, (some .rejection), .const 8⟩
def F.BANK.OCC_CFG0.CONF_LOW : Fld := ⟨.lin, 0x1001008, 0x40, 4, 0, 1, 0, 23, 16, .rws, (some .rejection), .const 64⟩
def F.BANK.OCC_CFG0.MATCH : Fld := ⟨.lin, 0x1001008, 0x40, 4, 0, 1, 0, 15, 0, .rws, (some .rejection), .const 300⟩
/- BANK.OCC_CFG1: spec/09_rejection_points.md R222 -/
def F.BANK.OCC_CFG1.R_RAIN : Fld := ⟨.lin, 0x1001009, 0x40, 4, 0, 1, 0, 47, 32, .rws, (some .rejection), .const 6000⟩
def F.BANK.OCC_CFG1.P_RAIN : Fld := ⟨.lin, 0x1001009, 0x40, 4, 0, 1, 0, 31, 24, .rws, (some .rejection), .const 2⟩
def F.BANK.OCC_CFG1.I_RAIN : Fld := ⟨.lin, 0x1001009, 0x40, 4, 0, 1, 0, 23, 12, .rws, (some .rejection), .const 64⟩
def F.BANK.OCC_CFG1.RS_HI : Fld := ⟨.lin, 0x1001009, 0x40, 4, 0, 1, 0, 11, 4, .rws, (some .rejection), .const 128⟩
/- BANK.OCC_CFG2: spec/09_rejection_points.md R222 -/
def F.BANK.OCC_CFG2.IF_HI : Fld := ⟨.lin, 0x100100a, 0x40, 4, 0, 1, 0, 47, 40, .rws, (some .rejection), .const 64⟩
def F.BANK.OCC_CFG2.P_IF : Fld := ⟨.lin, 0x100100a, 0x40, 4, 0, 1, 0, 39, 32, .rws, (some .rejection), .const 3⟩
def F.BANK.OCC_CFG2.SUN_AMB : Fld := ⟨.lin, 0x100100a, 0x40, 4, 0, 1, 0, 31, 20, .rws, (some .rejection), .const 160⟩
def F.BANK.OCC_CFG2.SUN_SNR : Fld := ⟨.lin, 0x100100a, 0x40, 4, 0, 1, 0, 19, 12, .rws, (some .rejection), .const 80⟩
/- BANK.WC_CFG: spec/09_rejection_points.md R222 -/
def F.BANK.WC_CFG.WC_IVL : Fld := ⟨.lin, 0x1001010, 0x40, 4, 0, 1, 0, 47, 40, .rws, (some .rejection), .const 100⟩
def F.BANK.WC_CFG.WC_SET : Fld := ⟨.lin, 0x1001010, 0x40, 4, 0, 1, 0, 39, 24, .rws, (some .rejection), .const 512⟩
def F.BANK.WC_CFG.WC_CLR : Fld := ⟨.lin, 0x1001010, 0x40, 4, 0, 1, 0, 23, 8, .rws, (some .rejection), .const 256⟩
/- BANK.WC_STAT: spec/09_rejection_points.md R222 -/
def F.BANK.WC_STAT.FLAG : Fld := ⟨.lin, 0x1001011, 0x40, 4, 0, 1, 0, 11, 0, .ro, none, .const 0⟩
/- BANK.WC_LVL: spec/09_rejection_points.md R222 -/
def F.BANK.WC_LVL.PARTS : Fld := ⟨.lin, 0x1001012, 0x40, 4, 1, 12, 0, 47, 32, .ro, none, .const 0⟩
def F.BANK.WC_LVL.EVENTS : Fld := ⟨.lin, 0x1001012, 0x40, 4, 1, 12, 0, 31, 16, .ro, none, .const 0⟩
def F.BANK.WC_LVL.LEVEL : Fld := ⟨.lin, 0x1001012, 0x40, 4, 1, 12, 0, 15, 0, .ro, none, .const 0⟩
def fldsBANK : List Fld :=
  [F.BANK.RING_CFG.BASE, F.BANK.RING_CFG.NTILE, F.BANK.RING_CFG.STALL,
   F.BANK.RING_CFG.ROUTE, F.BANK.RING_STAT.FILL, F.BANK.RING_STAT.STALLED,
   F.BANK.RING_STAT.DISC, F.BANK.RING_PTR.WR, F.BANK.RING_PTR.RD,
   F.BANK.OUT_CNT0.RECS, F.BANK.OUT_CNT0.HDRS, F.BANK.OUT_CNT1.LATE,
   F.BANK.OUT_CNT1.DISCARD, F.BANK.OUT_CNT1.STATUS, F.BANK.OUT_CNT2.REBASE,
   F.BANK.OUT_CNT2.WAITS, F.BANK.OCC_CFG0.SNR_MIN, F.BANK.OCC_CFG0.DET_MIN,
   F.BANK.OCC_CFG0.HW, F.BANK.OCC_CFG0.CONF_LOW, F.BANK.OCC_CFG0.MATCH,
   F.BANK.OCC_CFG1.R_RAIN, F.BANK.OCC_CFG1.P_RAIN, F.BANK.OCC_CFG1.I_RAIN,
   F.BANK.OCC_CFG1.RS_HI, F.BANK.OCC_CFG2.IF_HI, F.BANK.OCC_CFG2.P_IF,
   F.BANK.OCC_CFG2.SUN_AMB, F.BANK.OCC_CFG2.SUN_SNR, F.BANK.WC_CFG.WC_IVL,
   F.BANK.WC_CFG.WC_SET, F.BANK.WC_CFG.WC_CLR, F.BANK.WC_STAT.FLAG,
   F.BANK.WC_LVL.PARTS, F.BANK.WC_LVL.EVENTS, F.BANK.WC_LVL.LEVEL]

/- STRIP.RX_STAT: spec/07_receiver_tdc.md R172 -/
def F.STRIP.RX_STAT.RET_CH : Fld := ⟨.lin, 0x1002000, 0x40, 24, 0, 1, 0, 21, 16, .ro, none, .const 0⟩
def F.STRIP.RX_STAT.FAULT : Fld := ⟨.lin, 0x1002000, 0x40, 24, 0, 1, 0, 7, 7, .w1c, none, .const 0⟩
def F.STRIP.RX_STAT.STALE : Fld := ⟨.lin, 0x1002000, 0x40, 24, 0, 1, 0, 6, 6, .w1c, none, .const 0⟩
def F.STRIP.RX_STAT.BIAS_ERR : Fld := ⟨.lin, 0x1002000, 0x40, 24, 0, 1, 0, 5, 5, .w1c, none, .const 0⟩
def F.STRIP.RX_STAT.POWERED : Fld := ⟨.lin, 0x1002000, 0x40, 24, 0, 1, 0, 3, 3, .ro, none, .const 0⟩
def F.STRIP.RX_STAT.CAL_VALID : Fld := ⟨.lin, 0x1002000, 0x40, 24, 0, 1, 0, 2, 2, .ro, none, .const 0⟩
def F.STRIP.RX_STAT.BIAS_OK : Fld := ⟨.lin, 0x1002000, 0x40, 24, 0, 1, 0, 1, 1, .ro, none, .const 0⟩
def F.STRIP.RX_STAT.READY : Fld := ⟨.lin, 0x1002000, 0x40, 24, 0, 1, 0, 0, 0, .ro, none, .const 0⟩
/- STRIP.BIAS_CFG: spec/07_receiver_tdc.md R172 -/
def F.STRIP.BIAS_CFG.TRACK : Fld := ⟨.lin, 0x1002001, 0x40, 24, 0, 1, 0, 16, 16, .rwl, none, .const 1⟩
def F.STRIP.BIAS_CFG.VEX : Fld := ⟨.lin, 0x1002001, 0x40, 24, 0, 1, 0, 12, 0, .rwl, none, .const 3000⟩
/- STRIP.BIAS_STAT: spec/07_receiver_tdc.md R172 -/
def F.STRIP.BIAS_STAT.VBD : Fld := ⟨.lin, 0x1002002, 0x40, 24, 0, 1, 0, 47, 32, .ro, none, .const 0⟩
def F.STRIP.BIAS_STAT.VA : Fld := ⟨.lin, 0x1002002, 0x40, 24, 0, 1, 0, 31, 16, .ro, none, .const 0⟩
def F.STRIP.BIAS_STAT.VEX_M : Fld := ⟨.lin, 0x1002002, 0x40, 24, 0, 1, 0, 15, 0, .ro, none, .const 0⟩
/- STRIP.START_TRIM0: spec/07_receiver_tdc.md R172 -/
def F.STRIP.START_TRIM0.PH : Fld := ⟨.lin, 0x1002003, 0x40, 24, 0, 8, 6, 5, 0, .ro, none, .const 0⟩
/- STRIP.START_TRIM1: spec/07_receiver_tdc.md R172 -/
def F.STRIP.START_TRIM1.PH : Fld := ⟨.lin, 0x1002004, 0x40, 24, 0, 8, 6, 5, 0, .ro, none, .const 0⟩
/- STRIP.COINC_CFG: spec/07_receiver_tdc.md R172 -/
def F.STRIP.COINC_CFG.T3 : Fld := ⟨.lin, 0x1002005, 0x40, 24, 0, 1, 0, 47, 36, .rws, (some .window), .const 160⟩
def F.STRIP.COINC_CFG.T2 : Fld := ⟨.lin, 0x1002005, 0x40, 24, 0, 1, 0, 35, 24, .rws, (some .window), .const 64⟩
def F.STRIP.COINC_CFG.T1 : Fld := ⟨.lin, 0x1002005, 0x40, 24, 0, 1, 0, 23, 12, .rws, (some .window), .const 16⟩
def F.STRIP.COINC_CFG.W : Fld := ⟨.lin, 0x1002005, 0x40, 24, 0, 1, 0, 10, 8, .rws, (some .window), .const 1⟩
def F.STRIP.COINC_CFG.M_MAX : Fld := ⟨.lin, 0x1002005, 0x40, 24, 0, 1, 0, 6, 4, .rws, (some .window), .const 4⟩
def F.STRIP.COINC_CFG.M_BASE : Fld := ⟨.lin, 0x1002005, 0x40, 24, 0, 1, 0, 2, 0, .rws, (some .window), .const 1⟩
/- STRIP.HO_CFG: spec/07_receiver_tdc.md R172 -/
def F.STRIP.HO_CFG.HO_MODE : Fld := ⟨.lin, 0x1002006, 0x40, 24, 0, 1, 0, 12, 12, .rws, (some .window), .const 0⟩
def F.STRIP.HO_CFG.HO_EVT : Fld := ⟨.lin, 0x1002006, 0x40, 24, 0, 1, 0, 11, 8, .rws, (some .window), .const 1⟩
def F.STRIP.HO_CFG.HO_TIME : Fld := ⟨.lin, 0x1002006, 0x40, 24, 0, 1, 0, 4, 0, .rws, (some .window), .const 0⟩
/- STRIP.PLACE: spec/07_receiver_tdc.md R172 -/
def F.STRIP.PLACE.KV : Fld := ⟨.lin, 0x1002007, 0x40, 24, 0, 1, 0, 47, 32, .rwl, none, .const 0⟩
def F.STRIP.PLACE.V_R1 : Fld := ⟨.lin, 0x1002007, 0x40, 24, 0, 1, 0, 26, 16, .rwl, none, .const 0⟩
def F.STRIP.PLACE.V_R0 : Fld := ⟨.lin, 0x1002007, 0x40, 24, 0, 1, 0, 10, 0, .rwl, none, .const 0⟩
/- STRIP.BAND_CAL: spec/07_receiver_tdc.md R172 -/
def F.STRIP.BAND_CAL.DU : Fld := ⟨.lin, 0x1002008, 0x40, 24, 1, 4, 0, 39, 32, .rwl, none, .const 0⟩
def F.STRIP.BAND_CAL.BOFFS : Fld := ⟨.lin, 0x1002008, 0x40, 24, 1, 4, 0, 15, 0, .rwl, none, .const 0⟩
/- STRIP.RX_CNT0: spec/07_receiver_tdc.md R172 -/
def F.STRIP.RX_CNT0.PRE : Fld := ⟨.lin, 0x100200c, 0x40, 24, 0, 1, 0, 47, 36, .rc, none, .const 0⟩
def F.STRIP.RX_CNT0.COINC : Fld := ⟨.lin, 0x100200c, 0x40, 24, 0, 1, 0, 35, 24, .rc, none, .const 0⟩
def F.STRIP.RX_CNT0.SHORT : Fld := ⟨.lin, 0x100200c, 0x40, 24, 0, 1, 0, 23, 12, .rc, none, .const 0⟩
def F.STRIP.RX_CNT0.DROP : Fld := ⟨.lin, 0x100200c, 0x40, 24, 0, 1, 0, 11, 0, .rc, none, .const 0⟩
/- STRIP.RX_CNT1: spec/07_receiver_tdc.md R172 -/
def F.STRIP.RX_CNT1.STOPS : Fld := ⟨.lin, 0x100200d, 0x40, 24, 0, 1, 0, 47, 24, .rc, none, .const 0⟩
def F.STRIP.RX_CNT1.BLIND : Fld := ⟨.lin, 0x100200d, 0x40, 24, 0, 1, 0, 23, 0, .rc, none, .const 0⟩
/- STRIP.CAL_STAT: spec/07_receiver_tdc.md R172 -/
def F.STRIP.CAL_STAT.TESTS : Fld := ⟨.lin, 0x100200e, 0x40, 24, 0, 1, 0, 47, 32, .ro, none, .const 0⟩
def F.STRIP.CAL_STAT.AGE : Fld := ⟨.lin, 0x100200e, 0x40, 24, 0, 1, 0, 15, 0, .ro, none, .const 0⟩
/- STRIP.CELL_CFG: spec/08_cell_contexts.md R197 -/
def F.STRIP.CELL_CFG.TILT_X : Fld := ⟨.lin, 0x1002010, 0x40, 24, 0, 1, 0, 10, 10, .rws, (some .cell), .const 1⟩
def F.STRIP.CELL_CFG.FSKIP : Fld := ⟨.lin, 0x1002010, 0x40, 24, 0, 1, 0, 9, 9, .rws, (some .cell), .const 1⟩
def F.STRIP.CELL_CFG.ZSKIP : Fld := ⟨.lin, 0x1002010, 0x40, 24, 0, 1, 0, 8, 8, .rws, (some .cell), .const 0⟩
def F.STRIP.CELL_CFG.K : Fld := ⟨.lin, 0x1002010, 0x40, 24, 0, 1, 0, 6, 0, .rws, (some .cell), .const 48⟩
/- STRIP.GATE_CFG: spec/08_cell_contexts.md R197 -/
def F.STRIP.GATE_CFG.MARGIN : Fld := ⟨.lin, 0x1002011, 0x40, 24, 0, 1, 0, 47, 40, .rws, (some .cell), .const 13⟩
def F.STRIP.GATE_CFG.EN : Fld := ⟨.lin, 0x1002011, 0x40, 24, 0, 1, 0, 36, 36, .rws, (some .cell), .const 1⟩
def F.STRIP.GATE_CFG.E3 : Fld := ⟨.lin, 0x1002011, 0x40, 24, 0, 1, 0, 35, 24, .rws, (some .cell), .const 1601⟩
def F.STRIP.GATE_CFG.E2 : Fld := ⟨.lin, 0x1002011, 0x40, 24, 0, 1, 0, 23, 12, .rws, (some .cell), .const 400⟩
def F.STRIP.GATE_CFG.E1 : Fld := ⟨.lin, 0x1002011, 0x40, 24, 0, 1, 0, 11, 0, .rws, (some .cell), .const 107⟩
/- STRIP.CTX_STAT: spec/08_cell_contexts.md R197 -/
def F.STRIP.CTX_STAT.FRAME : Fld := ⟨.lin, 0x1002012, 0x40, 24, 0, 1, 0, 47, 32, .ro, none, .const 0⟩
def F.STRIP.CTX_STAT.PEND : Fld := ⟨.lin, 0x1002012, 0x40, 24, 0, 1, 0, 27, 16, .ro, none, .const 0⟩
def F.STRIP.CTX_STAT.QOVF : Fld := ⟨.lin, 0x1002012, 0x40, 24, 0, 1, 0, 8, 8, .w1c, none, .const 0⟩
def F.STRIP.CTX_STAT.QLEN : Fld := ⟨.lin, 0x1002012, 0x40, 24, 0, 1, 0, 6, 0, .ro, none, .const 0⟩
/- STRIP.VISIT_STAT: spec/08_cell_contexts.md R197 -/
def F.STRIP.VISIT_STAT.OPEN : Fld := ⟨.lin, 0x1002013, 0x40, 24, 0, 1, 0, 47, 44, .ro, none, .const 0⟩
def F.STRIP.VISIT_STAT.COL : Fld := ⟨.lin, 0x1002013, 0x40, 24, 0, 4, 10, 9, 0, .ro, none, .const 0⟩
/- STRIP.CTX_CNT0: spec/08_cell_contexts.md R197 -/
def F.STRIP.CTX_CNT0.CRC : Fld := ⟨.lin, 0x1002014, 0x40, 24, 0, 1, 0, 47, 32, .rc, none, .const 0⟩
def F.STRIP.CTX_CNT0.TAG : Fld := ⟨.lin, 0x1002014, 0x40, 24, 0, 1, 0, 31, 16, .rc, none, .const 0⟩
def F.STRIP.CTX_CNT0.BAD_DLV : Fld := ⟨.lin, 0x1002014, 0x40, 24, 0, 1, 0, 15, 0, .rc, none, .const 0⟩
/- STRIP.CTX_CNT1: spec/08_cell_contexts.md R197 -/
def F.STRIP.CTX_CNT1.CLOSED : Fld := ⟨.lin, 0x1002015, 0x40, 24, 0, 1, 0, 47, 32, .ro, none, .const 0⟩
def F.STRIP.CTX_CNT1.STARVED : Fld := ⟨.lin, 0x1002015, 0x40, 24, 0, 1, 0, 31, 16, .rc, none, .const 0⟩
def F.STRIP.CTX_CNT1.LATE : Fld := ⟨.lin, 0x1002015, 0x40, 24, 0, 1, 0, 15, 0, .rc, none, .const 0⟩
/- STRIP.CTX_CNT2: spec/08_cell_contexts.md R197 -/
def F.STRIP.CTX_CNT2.HELDLOST : Fld := ⟨.lin, 0x1002016, 0x40, 24, 0, 1, 0, 47, 32, .rc, none, .const 0⟩
def F.STRIP.CTX_CNT2.TILT : Fld := ⟨.lin, 0x1002016, 0x40, 24, 0, 1, 0, 31, 16, .rc, none, .const 0⟩
def F.STRIP.CTX_CNT2.VREF : Fld := ⟨.lin, 0x1002016, 0x40, 24, 0, 1, 0, 15, 0, .rc, none, .const 0⟩
/- STRIP.CTX_CNT3: spec/08_cell_contexts.md R197 -/
def F.STRIP.CTX_CNT3.VEMPTY : Fld := ⟨.lin, 0x1002017, 0x40, 24, 0, 1, 0, 47, 32, .rc, none, .const 0⟩
def F.STRIP.CTX_CNT3.SAT : Fld := ⟨.lin, 0x1002017, 0x40, 24, 0, 1, 0, 31, 16, .rc, none, .const 0⟩
def F.STRIP.CTX_CNT3.MISBAND : Fld := ⟨.lin, 0x1002017, 0x40, 24, 0, 1, 0, 15, 0, .rc, none, .const 0⟩
/- STRIP.CQ_HEAD: spec/08_cell_contexts.md R197 -/
def F.STRIP.CQ_HEAD.ENTRY : Fld := ⟨.lin, 0x1002018, 0x40, 24, 0, 1, 0, 47, 0, .ro, none, .const 0⟩
def fldsSTRIP0 : List Fld :=
  [F.STRIP.RX_STAT.RET_CH, F.STRIP.RX_STAT.FAULT, F.STRIP.RX_STAT.STALE,
   F.STRIP.RX_STAT.BIAS_ERR, F.STRIP.RX_STAT.POWERED, F.STRIP.RX_STAT.CAL_VALID,
   F.STRIP.RX_STAT.BIAS_OK, F.STRIP.RX_STAT.READY, F.STRIP.BIAS_CFG.TRACK,
   F.STRIP.BIAS_CFG.VEX, F.STRIP.BIAS_STAT.VBD, F.STRIP.BIAS_STAT.VA,
   F.STRIP.BIAS_STAT.VEX_M, F.STRIP.START_TRIM0.PH, F.STRIP.START_TRIM1.PH,
   F.STRIP.COINC_CFG.T3, F.STRIP.COINC_CFG.T2, F.STRIP.COINC_CFG.T1,
   F.STRIP.COINC_CFG.W, F.STRIP.COINC_CFG.M_MAX, F.STRIP.COINC_CFG.M_BASE,
   F.STRIP.HO_CFG.HO_MODE, F.STRIP.HO_CFG.HO_EVT, F.STRIP.HO_CFG.HO_TIME,
   F.STRIP.PLACE.KV, F.STRIP.PLACE.V_R1, F.STRIP.PLACE.V_R0,
   F.STRIP.BAND_CAL.DU, F.STRIP.BAND_CAL.BOFFS, F.STRIP.RX_CNT0.PRE,
   F.STRIP.RX_CNT0.COINC, F.STRIP.RX_CNT0.SHORT, F.STRIP.RX_CNT0.DROP,
   F.STRIP.RX_CNT1.STOPS, F.STRIP.RX_CNT1.BLIND, F.STRIP.CAL_STAT.TESTS,
   F.STRIP.CAL_STAT.AGE, F.STRIP.CELL_CFG.TILT_X, F.STRIP.CELL_CFG.FSKIP,
   F.STRIP.CELL_CFG.ZSKIP]
def fldsSTRIP1 : List Fld :=
  [F.STRIP.CELL_CFG.K, F.STRIP.GATE_CFG.MARGIN, F.STRIP.GATE_CFG.EN,
   F.STRIP.GATE_CFG.E3, F.STRIP.GATE_CFG.E2, F.STRIP.GATE_CFG.E1,
   F.STRIP.CTX_STAT.FRAME, F.STRIP.CTX_STAT.PEND, F.STRIP.CTX_STAT.QOVF,
   F.STRIP.CTX_STAT.QLEN, F.STRIP.VISIT_STAT.OPEN, F.STRIP.VISIT_STAT.COL,
   F.STRIP.CTX_CNT0.CRC, F.STRIP.CTX_CNT0.TAG, F.STRIP.CTX_CNT0.BAD_DLV,
   F.STRIP.CTX_CNT1.CLOSED, F.STRIP.CTX_CNT1.STARVED, F.STRIP.CTX_CNT1.LATE,
   F.STRIP.CTX_CNT2.HELDLOST, F.STRIP.CTX_CNT2.TILT, F.STRIP.CTX_CNT2.VREF,
   F.STRIP.CTX_CNT3.VEMPTY, F.STRIP.CTX_CNT3.SAT, F.STRIP.CTX_CNT3.MISBAND,
   F.STRIP.CQ_HEAD.ENTRY]
def fldsSTRIP : List Fld := fldsSTRIP0 ++ fldsSTRIP1

/- CHAN.PH0: spec/07_receiver_tdc.md R173 -/
def F.CHAN.PH0.PH : Fld := ⟨.lin, 0x1010000, 0x4, 768, 0, 8, 6, 5, 0, .ro, none, .const 0⟩
/- CHAN.PH1: spec/07_receiver_tdc.md R173 -/
def F.CHAN.PH1.PH : Fld := ⟨.lin, 0x1010001, 0x4, 768, 0, 8, 6, 5, 0, .ro, none, .const 0⟩
/- CHAN.CAL: spec/07_receiver_tdc.md R173 -/
def F.CHAN.CAL.RETIRED : Fld := ⟨.lin, 0x1010002, 0x4, 768, 0, 1, 0, 18, 18, .ro, none, .const 0⟩
def F.CHAN.CAL.VALID : Fld := ⟨.lin, 0x1010002, 0x4, 768, 0, 1, 0, 17, 17, .ro, none, .const 0⟩
def F.CHAN.CAL.OFFS : Fld := ⟨.lin, 0x1010002, 0x4, 768, 0, 1, 0, 15, 0, .ro, none, .const 0⟩
/- CHAN.CNT: spec/07_receiver_tdc.md R173 -/
def F.CHAN.CNT.STOPS : Fld := ⟨.lin, 0x1010003, 0x4, 768, 0, 1, 0, 47, 24, .rc, none, .const 0⟩
def F.CHAN.CNT.BLIND : Fld := ⟨.lin, 0x1010003, 0x4, 768, 0, 1, 0, 23, 0, .rc, none, .const 0⟩
def fldsCHAN : List Fld :=
  [F.CHAN.PH0.PH, F.CHAN.PH1.PH, F.CHAN.CAL.RETIRED,
   F.CHAN.CAL.VALID, F.CHAN.CAL.OFFS, F.CHAN.CNT.STOPS,
   F.CHAN.CNT.BLIND]

end Sys2Proof.Machine
end

