-- ==== Sys2Proof/Machine/State.lean ====
section
/-!
DEFINITION. The state of the device as plain data: the registers, the memories, and what each unit holds behind them. Every
instant is a raw TPLL instant (`Inst`), so that a step or a slew of the time word moves all held instants at once (R48).
-/
namespace Sys2Proof.Machine


/-- The eight modes with the codes of R292. -/
inductive Mode | boot | idle | armed | scan | degraded | safe | holdover | frozen
  deriving DecidableEq, Repr

/-- The faults a block reports to the Dome: the rows of the fault table of R333. -/
inductive Report
  | eye | pulse | lpf (b : Nat) | follow (x : Axis) | tpll | ref | spll | lpll
  | bridge (n : Nat) | strip (d : Nat) | receiver | seq (b : Nat) | proc | port (p : Nat)
  | supBk (r : Nat) | supDual (r : Nat) | sin (k : Nat) | sinX (k : Nat) | tp | sout | frame | lockstep | domeChk
  deriving DecidableEq, Repr

/-! ## Time base -/

/-- The time base behind the TIME registers (spec/02_time_and_clocks.md). -/
structure Clk where
  /-- PLLs whose band search and lock is running: TPLL, SPLL, LPLL (R32). -/
  acqT : Bool := true
  acqS : Bool := true
  acqL : Bool := true
  /-- The time word has started at the first TPLL lock (R46). -/
  timeRun : Bool := false
  /-- Time-word ticks less raw ticks: what steps, slews and renumbering change (R48). -/
  off : Int := 0
  /-- REFCLK is absent (R30). -/
  refAbsent : Bool := false
  /-- A divider reset is due at this instant (R38). -/
  divDue : Option Inst := none
  /-- The spread's current segment ends here (R41). -/
  sscDue : Inst := 0
  /-- A disable lets the period run to its end (R43). -/
  sscEnding : Bool := false
  /-- A PPS edge awaiting its 100 ns qualification (R49). -/
  ppsPend : Option Inst := none
  /-- The last accepted edge (R50). -/
  ppsLast : Option Inst := none
  /-- Slew adjustments left, their interval in ticks, whether each drops a tick, and the next one's instant (R53). -/
  slewLeft : Nat := 0
  slewIvl : Nat := 0
  slewDrop : Bool := false
  slewNext : Inst := 0
  /-- The FMU gate's start instant while it runs, and the last prescaled edge or arming (R57, R59). -/
  fmuGate : Option Inst := none
  fmuLast : Inst := 0
  /-- What the spread and divider resets have held the core clock back up to the running segment's start, in 10^−6 of 50 ps
  (R39, R40, R44). -/
  sscLag : Int := 0
  /-- The tick of each 25 whose phase-0 edge follows a REFCLK edge by the fixed delay (R36; log entry 123). -/
  refRes : Nat := 0
  deriving DecidableEq, Repr

/-! ## Firing -/

/-- A part: one bank's part of a shot, from its accepted booking until it leaves flight (R22, R69). -/
structure Part where
  /-- The model's number of the part, its bank and its column. -/
  pid : Nat := 0
  bank : Nat := 0
  col : Nat := 0
  /-- Original dithered fire instant. -/
  tfire : Inst := 0
  /-- The booked 12-bit segment mask, and the mask of its frame once sent (R64). -/
  mask : Nat := 0
  fmask : Nat := 0
  /-- Listening window in 0.8 ns units, and the Ephemeris base column U_c. -/
  lcnt : Nat := 0
  pxb : Nat := 0
  /-- It has been judged, last in this raw tick, and which deferral counters have counted it (R69). -/
  judged : Bool := false
  /-- The raw tick it was last judged in. -/
  jtick : Int := 0
  /-- The deferral counters of steps 4, 5 and 6 of R69 that have counted it. -/
  cLane : Bool := false
  cFlight : Bool := false
  cGov : Bool := false
  /-- The cost fixed at its first judgement (R70). -/
  cost : Option Nat := none
  /-- The end of its SEGMASK frame, once started. -/
  frameEnd : Option Inst := none
  /-- The FIRE edge at the ball once fired. -/
  fired : Option Inst := none
  /-- Its start, and whether it is forced (R85, R86). -/
  tstart : Option Inst := none
  forced : Bool := false
  /-- Its listening window has closed (R158). -/
  closed : Bool := false
  deriving DecidableEq, Repr

/-- One charge on a segment: instant, segment, amount in 2^−8 of 10 pJ (R77, R78). -/
structure Charge where
  /-- Instant, absolute segment, amount. -/
  at_ : Inst
  seg : Nat
  amt : Nat
  deriving DecidableEq, Repr

/-- The firing block behind the FIRE registers (spec/03_firing.md). -/
structure Fire where
  /-- Parts accepted and not yet out of flight, in order of T_fire then bank. -/
  parts : List Part := []
  /-- Number of the next part accepted. -/
  nextPid : Nat := 0
  /-- The part whose frame is on the lane, and when the frame ends (R65). -/
  lane : Option (Nat × Inst) := none
  /-- The last frame sent on SEGMASK (R64). -/
  frame : Nat := 0
  /-- The step of R69 that holds the head of the queue: 4, 5 or 6 (R71). -/
  hold : Nat := 4
  /-- Frame SEQ of each bank. -/
  seq : Tab Nat := []
  /-- The budget in 1/20,000 of 0.1 nC, and the instant it was brought up to (R70). -/
  budget : Nat := 0
  budgetAt : Inst := 0
  /-- Rise and fall of the pulse under way or due on each FIRE line (R62). -/
  pulses : Tab (Inst × Inst) := []
  /-- Level of the LSR_EN ball (R67). -/
  lsrEn : Bool := false
  /-- Every FIRE output is blocked (R78, R91, R330). -/
  blocked : Bool := false
  /-- The dither LFSR and whether DITH_CFG was written since the last Firing copy (R68). -/
  lfsr : Nat := 1
  dithWritten : Bool := false
  /-- Banks due to wake, with their instants (R74). -/
  wake : Tab Inst := []
  /-- Calibrations of FIREb running, with their starts (R63). -/
  trim : Tab Inst := []
  /-- Banks that take up a calibration when they wake. -/
  trimOnWake : List Nat := []
  /-- The HOLDOVER power cap is in force, and the raw tick in which it last began (R76, R80). -/
  cap : Bool := false
  capAt : Nat := 0
  /-- Charges of the last 5 µs; complete 1 ms buckets of each segment, newest first; current buckets; bucket end (R78). -/
  charges : List Charge := []
  buckets : Tab (List Nat) := []
  bucket : Tab Nat := []
  bucketEnd : Inst := 20000000
  deriving DecidableEq, Repr

/-! ## Pulse monitor -/

/-- A start group: the parts whose FIRE edges left in one tick (R85). -/
structure Group where
  /-- FIRE edge, parts and banks (R85). -/
  tf : Inst := 0
  pids : List Nat := []
  banks : List Nat := []
  /-- Earliest and latest start, relative to the edge, and the nominal one (R85, R86). -/
  tmin : Inst := 0
  tout : Inst := 0
  nom : Inst := 0
  deriving DecidableEq, Repr

/-- A pulse awaiting its energy or its mask verdict: its edge and what it served (R89, R91). -/
structure Pulse where
  /-- The comparator edge, and the banks of its start group. -/
  te : Inst := 0
  banks : List Nat := []
  /-- Segments lit by the edges it served, as absolute segment numbers. -/
  segs : List Nat := []
  /-- When the energy is formed or the mask window is judged (R89, R91). -/
  due : Inst := 0
  /-- Of a mask window: the table and INHIBIT in force at its edge (R90). -/
  table : List (Nat × Nat) := []
  inh : Bool := false
  deriving DecidableEq, Repr

/-- A capture trigger in progress (R93). -/
structure Trig where
  /-- Sample of the trigger; conditions resolved, as bits, and the lowest of them (R93). -/
  sample : Int := 0
  cond : Nat := 0
  owner : Nat := 0
  /-- A fall of TRIG_ANY_N is among them, and the banks of the start group (R93, R100). -/
  remote : Bool := false
  banks : Nat := 0
  /-- A mask violation froze the record: its pulse, the sample that broke it, and whether above UPPER (R91, R96). -/
  frozen : Bool := false
  tviol : Option Inst := none
  vsamp : Nat := 0
  above : Bool := false
  /-- Resolved by this unit, so that it pulls TRIG_ANY_N. -/
  local_ : Bool := true
  deriving DecidableEq, Repr

/-- The averager's interval (R98): configuration in force, begin, end, and what it has taken. -/
structure Avg where
  /-- Base sample, banks and log2 of the count in force. -/
  base : Nat := 0
  banks : Nat := 0
  k : Nat := 0
  /-- Begin and end of the interval. -/
  begin_ : Inst := 0
  end_ : Inst := 0
  /-- Waveforms taken, their sums by sample, the sum of their energies, and the first pulse. -/
  n : Nat := 0
  sums : List Nat := []
  sumE : Nat := 0
  first : Inst := 0
  /-- It runs, and its tile has been written. -/
  running : Bool := false
  written : Bool := false
  deriving DecidableEq, Repr

/-- The pulse monitor behind the MON registers (spec/04_pulse_monitor.md). -/
structure Mon where
  /-- Comparator: armed, last edge, crossings ignored in the hold-off (R83, R84). -/
  armed : Bool := true
  edge : Inst := 0
  ho : Nat := 0
  /-- Start groups whose start is still open (R85). -/
  groups : List Group := []
  /-- The last 256 edge delays of each bank (R88). -/
  delays : Tab (List Nat) := []
  /-- Pulses that await their energy (R89). -/
  energy : List Pulse := []
  /-- Mask windows that await their verdict (R91). -/
  masks : List Pulse := []
  /-- The mask table in force, LOWER and UPPER of 64 samples, its EN and INHIBIT, a load in progress, and whether MASK_CFG was
  written since the last Firing copy (R90). -/
  table : List (Nat × Nat) := []
  maskEn : Bool := false
  maskInh : Bool := false
  load : Option Inst := none
  maskWritten : Bool := false
  /-- Capture: tick of arming, PRE at arming, the trigger, and end of the re-arm hold-off (R92 to R96). -/
  armTick : Int := 0
  pre : Nat := 0
  /-- The trigger of the record under way (R93). -/
  trig : Option Trig := none
  /-- Tick of the record's last post-trigger sample. -/
  lastPost : Int := 0
  /-- TRIG_ANY_N is pulled low until, and ignored until (R100). -/
  anyEnd : Option Inst := none
  anyIgnore : Inst := 0
  /-- Another unit pulls TRIG_ANY_N until (R100); another unit has driven ARM_BUS (R99). -/
  otherEnd : Inst := 0
  busSeen : Bool := false
  /-- The raw ticks of the last UNFREEZE and of the last mask violation (R102). -/
  unfrzAt : Option Nat := none
  violAt : Option Nat := none
  /-- The averager, and an interval that has ended and whose tile awaits the energies of its last pulses (R98). -/
  avg : Avg := {}
  avgPrev : Option Avg := none
  /-- Sum of n × mean energy and of n over the tiles written in the running ageing interval (R396). -/
  ageSum : Nat := 0
  ageN : Nat := 0
  deriving DecidableEq, Repr

/-! ## Mirror -/

/-- The phase model: θ in 2^−32 turn, f in µHz, A and C in angle LSB, at its publication instant (R108). -/
structure Model where
  /-- Phase, frequency, amplitude, centre and publication instant. -/
  th : Int := 0
  f : Int := 0
  a : Int := 0
  c : Int := 0
  tp : Inst := 0
  deriving DecidableEq, Repr

/-- What a period computes for its end (R104). -/
structure MirrRes where
  /-- The phase model it publishes. -/
  model : Model := {}
  /-- NCO frequency (R111). -/
  fnco : Int := 0
  /-- Drive levels H, V positive and V negative (R117 to R119). -/
  lH : Nat := 0
  lVP : Nat := 0
  lVN : Nat := 0
  /-- The term that wins each drive level (R117 to R119). -/
  winHP : Nat := 0
  winVP : Nat := 0
  winVN : Nat := 0
  /-- Current, temperature and slew limits that act. -/
  cur : Bool := false
  temp : Bool := false
  slew : Bool := false
  /-- Drive amplitude as a code, and the bias of the H pair that goes with it. -/
  u : Nat := 0
  bias : Nat := 0
  deriving DecidableEq, Repr

/-- A sweep whose columns Transit has not all posted: its half-turn number h (DIR is h modulo 2, its centre lies at h / 2
turns), SWEEP.COUNT, and the columns already computed (R122 to R124). -/
structure TSweep where
  /-- Half-turn number, SWEEP.COUNT and columns computed. -/
  half : Int := 0
  count : Nat := 0
  idx : Nat := 0
  deriving DecidableEq, Repr

/-- The mirror engine and Transit behind the MIRR registers (spec/05_mirror_control.md). -/
structure Mirr where
  /-- Loops run, and their first results have reached the drives; a search starts at the next boundary. -/
  running : Bool := false
  driven : Bool := false
  restart : Bool := false
  /-- Begin of the control period (R104), the phase model in force, and the results of the running period. -/
  tn : Inst := 0
  model : Model := {}
  res : Option MirrRes := none
  /-- NCO frequency in force (R111). -/
  fnco : Int := 0
  /-- NCO phase in 10^−11 turn at t_n. -/
  phi : Int := 0
  /-- The resonance search runs; it has captured; periods since the capture; periods in lock (R112, R113). -/
  searching : Bool := false
  captured : Bool := false
  capPeriods : Nat := 0
  lockCnt : Nat := 0
  /-- The following-error check of H is active (R120). -/
  feHAct : Bool := false
  /-- U_int in 2^−24 code; A_cmd in LSB; levels applied. -/
  uInt : Int := 0
  aCmd : Int := 0
  /-- Drive levels applied: H, V positive, V negative; the bias of the H pair. -/
  lH : Nat := 0
  lVP : Nat := 0
  lVN : Nat := 0
  bias : Nat := 0
  /-- Vertical: target, target named by VPOS for the next boundary, p_cmd and speed in 2^−8 LSB, I, e_prev. -/
  target : Int := 0
  vpos : Option Int := none
  pCmd : Int := 0
  speed : Int := 0
  iV : Int := 0
  ePrev : Int := 0
  /-- The measured vertical position of the period. -/
  pMeas : Int := 0
  /-- Mirror temperature latched from HK_IN (R140). -/
  temp : Int := 0
  /-- Valid H outputs since the last boundary: input instant and angle; the latest valid V angle (R105). -/
  hs : List (Inst × Int) := []
  vLast : Int := 0
  /-- Consecutive periods over and within each limit, and whether a fault is active (R120, R121). -/
  overH : Nat := 0
  overV : Nat := 0
  inH : Nat := 0
  inV : Nat := 0
  feH : Bool := false
  feV : Bool := false
  /-- What the periods that have ended have reached: LOCK_N in lock, TMR over and TMR within a limit. -/
  lockDone : Bool := false
  overDoneH : Bool := false
  overDoneV : Bool := false
  inDoneH : Bool := false
  inDoneV : Bool := false
  /-- Half-turn number of the running sweep, sweeps with columns to post, and the last T_col. -/
  half : Int := 0
  sweeps : List TSweep := []
  lastT : Inst := 0
  deriving DecidableEq, Repr

/-! ## Bridge front end -/

/-- One bridge (spec/06_angle_sensing.md). -/
structure Bridge where
  /-- Demodulated samples, newest first, and how many of them the filter has had since it last restarted (R132); raw samples of the
  current and the last two half-periods without blanked ones. -/
  hist : List Int := []
  fed : Nat := 0
  /-- Raw samples of the running half-period and of the last two, blanked ones left out (R146). -/
  half : List Int := []
  half1 : List Int := []
  half2 : List Int := []
  /-- Samples taken since entry to IDLE. -/
  k : Nat := 0
  /-- Outputs still invalid (R132, R133, R144). -/
  settle : Nat := 0
  /-- The bridge's last output kept a due swap waiting (R133). -/
  blk : Bool := false
  /-- A swap is due, and its deferral has been counted (R133). -/
  swapDue : Bool := false
  deferCnt : Bool := false
  /-- Whether the last two half-periods were flagged (R146, R148). -/
  flag1 : Bool := false
  flag2 : Bool := false
  /-- Next scheduled swap. -/
  swapNext : Option Inst := none
  deriving DecidableEq, Repr

/-- A housekeeping conversion in progress, with the values it started with (R138). -/
structure HkConv where
  /-- Input, settle time, curve and series resistor; start; whether it is a SINGLE one (R138). -/
  input : Nat
  settle : Nat
  curve : Nat
  rser : Nat
  start : Inst
  single : Bool
  deriving DecidableEq, Repr

/-- The front end behind the AFE registers. -/
structure Afe where
  /-- The front end runs (R128). -/
  running : Bool := false
  /-- The four bridges. -/
  bridges : Tab Bridge := []
  /-- Axes that have no active bridge: the one shown broke while its partner was broken, bit 0 for H and 1 for V (R147, R148). -/
  none_ : Nat := 0
  /-- By axis, the last commit of an ACT that made a bridge active: its raw tick, that bridge, the one shown before, and whether the
  axis had no active bridge then (R149). -/
  actAt : Tab (Nat × Nat × Nat × Bool) := []
  /-- The raw tick in which a result last overwrote an unread one, and OVR before it (R139). -/
  ovrAt : Option (Nat × Bool) := none
  /-- Start of the excitation, and half-periods ended since. -/
  excStart : Inst := 0
  halves : Nat := 0
  /-- The conversion in progress, and a SINGLE input that waits (R138). -/
  conv : Option HkConv := none
  single : Option Nat := none
  /-- Input the sequencer converted last, discarded or not (R143). -/
  last : Option Nat := none
  /-- Latest result of each input that has been converted with a curve 1 to 6 (R135, R140). -/
  temps : Tab Int := []
  /-- Latest VALUE of each input, whatever its curve (R140); 0 before the first (log entry 21). -/
  vals : Tab Int := []
  /-- Start of the reference's settling, and conversions held after REF_ERR (R143). -/
  refStart : Inst := 0
  refHeld : Bool := false
  /-- A conversion may start at an edge of the 1 MHz clock from this instant on (R138). -/
  hkFree : Inst := 0
  deriving DecidableEq, Repr

/-! ## Strips: receiver and contexts -/

/-- Classes of a part for a cell (R185): still open until the start is known, or judged. -/
inductive PClass | held | tilt | dark | lit
  deriving DecidableEq, Repr

/-- A slot of a strip holding a part in flight (R156 to R160). Lists run over macro-pixel index 4ρ + k. -/
structure Slot where
  /-- The part, its bank and its column. -/
  pid : Nat := 0
  bank : Nat := 0
  col : Nat := 0
  /-- Top-left SPAD of each macro-pixel, number of enabled SPADs and threshold. -/
  uv : List (Nat × Nat) := []
  n : List Nat := []
  m : List Nat := []
  /-- Band-lost marks, bit 4ρ + k. -/
  lost : Nat := 0
  /-- Window and hold-off in force at the FIRE edge, W in 50 ps. -/
  w : Nat := 0
  /-- The hold-off in force at the FIRE edge (R162). -/
  hoMode : Bool := false
  hoEvt : Nat := 0
  hoTime : Nat := 0
  /-- CELL_CFG.FSKIP at the FIRE edge, and the class of the part for each of the two rows (R185). -/
  fskip : Bool := false
  cls0 : PClass := .lit
  cls1 : PClass := .lit
  /-- Bias domains whose SPADs are gated off for this part, with the instant: clear at its FIRE edge or cleared since (R159). -/
  gates : Tab Inst := []
  /-- Stops and blind counts delivered for each row. -/
  stops0 : Nat := 0
  stops1 : Nat := 0
  blind0 : Nat := 0
  blind1 : Nat := 0
  deriving DecidableEq, Repr

/-- A channel of a slot that holds a part (R162, R163). An event's key is its time in ps × 32,768 plus its SPAD's number. -/
structure Chan where
  /-- It may take an event; its last stop (R162). -/
  armed : Bool := false
  stop : Inst := 0
  /-- The event of that stop, and the earliest event it may still use, as event keys. -/
  key : Nat := 0
  from_ : Nat := 0
  /-- Its latest stop has been classed early. -/
  early : Bool := false
  deriving DecidableEq, Repr

/-- A stop awaiting its conversion (R161). -/
structure Conv where
  /-- The part, local channel, stop and blind coincidences after it. -/
  pid : Nat
  j : Nat
  stop : Inst
  blind : Nat
  deriving DecidableEq, Repr

/-- A detection in the queue (R164): class 0 pre-start, 1 coincident, 2 short, 3 return. -/
structure Det where
  /-- The part, row of the strip, band and class. -/
  pid : Nat
  rho : Nat
  band : Nat
  cls : Nat
  /-- τ in 50 ps or what stands for it, whether its start is forced, and band-lost marks. -/
  tau : Int
  forced : Bool
  lost : Nat
  /-- Column of its visit, whether its part is a lit shot for its cell, and its part's L_cnt. -/
  col : Nat
  lit : Bool
  lcnt : Nat
  deriving DecidableEq, Repr

/-- A detection whose conversion has completed in this tick, with its part's original T_fire and its channel (R164). -/
structure Arr where
  tfire : Inst
  j : Nat
  det : Det
  deriving DecidableEq, Repr

/-- A cell in a visit's accumulators: the tile's words as read, with what the visit added (R186). -/
structure CellAcc where
  /-- The tile's words as the visit has changed them. -/
  words : List Word := []
  /-- HELD was set at the read; the accumulation began afresh; a word has changed. -/
  held : Bool := false
  afresh : Bool := false
  changed : Bool := false
  deriving DecidableEq, Repr

/-- An open visit (R186 to R188). -/
structure Visit where
  /-- Column, its T_col, the instant it was opened (R186). -/
  col : Nat := 0
  tcol : Inst := 0
  opened : Inst := 0
  /-- Its tiles have been read, and in which tick; a part has been booked for it; the parts it counts (R186, R187). -/
  read : Bool := false
  readAt : Nat := 0
  booked : Bool := false
  parts : List Nat := []
  /-- The latest VISIT that joined it: its tick, and T_col of its event (R278). -/
  join : Option (Nat × Inst) := none
  /-- The cells of its two rows. -/
  c0 : CellAcc := {}
  c1 : CellAcc := {}
  deriving DecidableEq, Repr

/-- An entry of a close queue with the instant it entered and the frame its close belongs to. -/
structure CqE where
  /-- The queue's entry (R191), the instant it entered, and the frame its close belongs to (R338). -/
  entry : Word
  at_ : Inst
  frame : Nat
  deriving DecidableEq, Repr

/-- New calibration values of a sampler waiting for its slot's release, its tests' moves made (R166). -/
structure CalPend where
  /-- Phase trims and offset. -/
  trims : List Int
  offs : Int
  deriving DecidableEq, Repr

/-- One strip (spec/07_receiver_tdc.md, spec/08_cell_contexts.md). -/
structure Strip where
  /-- The slots in use, the channels that hold a part, stops that await conversion, the detection queue (R156 to R164). -/
  slots : Tab Slot := []
  chans : Tab Chan := []
  convs : List Conv := []
  dets : List Det := []
  /-- Detections that enter the queue at the end of this tick; entries binning has taken in the tick named (R164). -/
  arr : List Arr := []
  binAt : Nat := 0
  binN : Nat := 0
  /-- Power-up instant and powered ticks before it. -/
  powAt : Option Inst := none
  powSum : Nat := 0
  /-- BIAS_OK: begin of the present powered span in which it is clear, powered time it was clear before that, whether it has set
  since power-up, and its last change or power-up (R153). -/
  clearAt : Inst := 0
  clearSum : Nat := 0
  okSeen : Bool := false
  biasAt : Inst := 0
  /-- V_A to apply; first V_A applied (R152). -/
  vaNext : Option Nat := none
  vaFirst : Bool := false
  /-- Calibration: pending values by sampler (32 is the start sampler), samplers tested since power-up, powered time of
  each sampler's last test in ticks. -/
  calPend : Tab CalPend := []
  /-- Samplers tested since power-up, and the powered time of each one's last test in ticks (R166). -/
  fresh : List Nat := []
  testAt : Tab Nat := []
  /-- Free time for calibration, by slot and, at 4, of the start sampler: what has passed before the present free span, that span's
  begin, and by sampler the free time at its last test's end (R166, R392). -/
  freeSum : Tab Nat := []
  freeFrom : Tab Inst := []
  testFrom : Tab Nat := []
  /-- Open visits (R186). -/
  visits : Tab Visit := []
  /-- Visits that have ended and await their write-back. -/
  ending : List Visit := []
  /-- L_cnt of the first counted part of each running accumulation, by tile (R181). -/
  lfirst : Tab Nat := []
  /-- Tiles pending close, with the K they are judged against and the frame they belong to (R194). -/
  pend : Tab (Nat × Nat) := []
  /-- Tick of the latest frame boundary, the K in force at it before its Cell commit, and the frame it ended (R196). -/
  bndAt : Option Nat := none
  bndK : Nat := 0
  bndFrame : Nat := 0
  /-- Instant of the last close of each cell whose CPOP has not come (R202). -/
  clAt : Tab Inst := []
  /-- Tiles of the overflow set, the close queue, and tiles closed this frame (R193, R194). -/
  ovf : List Nat := []
  cq : List CqE := []
  closed : List Nat := []
  /-- SPADs of its domain retired until reset, numbered 256 v + u (R394). -/
  retired : List Nat := []
  deriving DecidableEq, Repr

/-- The window-contamination monitor's counts of the running interval, by row, and each bank's interval begin (R210). -/
structure Wc where
  /-- Events and parts counted, by row, and the begin of each bank's interval. -/
  ev : Tab Nat := []
  parts : Tab Nat := []
  begin_ : Tab Inst := []
  deriving DecidableEq, Repr

/-! ## Modes, supplies, reset, boot, freeze -/

/-- One rail (R312 to R316). -/
structure Rail where
  /-- Main and backup input in window; the rail is on backup. -/
  mOk : Bool := true
  bOk : Bool := true
  onBk : Bool := false
  /-- Since when the main input has been in window, and the backup in or out of window (always-on time). -/
  mSince : Nat := 0
  bSince : Nat := 0
  /-- The last tick in which it changed its input (always-on time), and whether it ran on backup when that tick began (R424). -/
  was : Option (Nat × Bool) := none
  deriving DecidableEq, Repr

/-- Where the boot stands (R302 to R309). -/
inductive Boot | clearing | qspi | hostWait | hostCheck | done
  deriving DecidableEq, Repr

/-- Modes, supplies, reset, boot and freeze (spec/13_modes_startup.md). -/
structure Dev where
  /-- The mode (R292). -/
  mode : Mode := .boot
  /-- The four rails (R312). -/
  rails : Tab Rail := []
  /-- In FROZEN, the rails as they stood at the freeze, which SUP_STAT still shows (R424). -/
  frzRails : Option (Tab Rail) := none
  /-- Power-on reset in force; RESET_N low since (always-on time); a reset holds the device. -/
  por : Bool := false
  pin : Option Nat := none
  inReset : Bool := false
  /-- Where the boot stands (R302). -/
  boot : Boot := .clearing
  /-- Source of the freeze that is in force or was last accepted: 1 pin, 2 link, 3 capture. -/
  frzSrc : Nat := 0
  /-- A freeze has occurred that AON_STAT does not show yet (R322). -/
  frzDone : Bool := false
  /-- Always-on copy of MIRR.PARK (R321). -/
  parkH : Nat := 0
  parkV : Nat := 0
  /-- Time on backup before the present stay, and the present stay's start (always-on time). -/
  bkAcc : Nat := 0
  bkAt : Nat := 0
  /-- A supply input has changed in this tick: what follows is settled at its end (R315, R316). -/
  supChg : Bool := false
  /-- The port that started the host load under way: 1 A, 2 B. -/
  bootPort : Nat := 0
  /-- Commits of cores waiting, by group (R283), and a CLOSE request (R194). -/
  cmtBy : Tab (List Nat) := []
  /-- Raw tick in which each pending commit was made (R284). -/
  cmtAt : Tab Nat := []
  /-- By group, commits that have found a commit of an earlier tick pending: the raw tick of the last of them, and the cores whose
  CMTs of that tick they are (R284). -/
  cmtLate : Tab (Nat × List Nat) := []
  /-- A CLOSE waits for the frame boundary (R194). -/
  close : Bool := false
  /-- Tick in which that CLOSE was executed (R266), and tick of the last accepted RWL write (R408). -/
  closeAt : Nat := 0
  rwlAt : Option Nat := none
  deriving DecidableEq, Repr

/-! ## Dome -/

/-- A zone's counts (R339). -/
structure Zone where
  /-- Frames in a row that count towards occupied and towards clear. -/
  occ : Nat := 0
  clr : Nat := 0
  deriving DecidableEq, Repr

/-- A contact channel (R346). -/
structure Contact where
  /-- The contact is open; test pulses failed in a row. -/
  open_ : Bool := true
  fails : Nat := 0
  deriving DecidableEq, Repr

/-- The Dome (spec/14_safety.md). -/
structure Dome where
  /-- Reports not yet taken up, each with the raw tick in which it was made (R348). -/
  reports : List (Report × Nat) := []
  /-- Entry to DEGRADED. -/
  degAt : Inst := 0
  /-- Periodic checks that fail: bits 0 to 4 in the order of R335. -/
  failing : Nat := 0
  /-- Frames counted at boundaries, last boundary or entry, first frame that counts towards release (R338 to R340). -/
  frame : Nat := 0
  lastB : Inst := 0
  fromFrame : Nat := 0
  /-- Zone verdicts as bits, with their instants (R340). -/
  verdicts : List (Nat × Inst) := []
  /-- The counts of each zone (R339). -/
  zones : Tab Zone := []
  /-- Zones with a qualifying record, by frame: (zone, frame). -/
  hits : List (Nat × Nat) := []
  /-- Closes whose CUPD has not completed: (tile, frame). -/
  closes : List (Nat × Nat) := []
  /-- Levels driven on SOUT0A, 0B, 1A, 1B. -/
  levels : Nat := 0
  /-- Next half-period boundary in units of 10 µs, next test-gap slot in units of 25 ms, next gap of TPA (even) or TPB (odd) in
  units of 5 ms to be checked, all of the Dome's cycle since reset (R342, R343, R345). -/
  halfN : Nat := 0
  slotN : Nat := 0
  tpN : Nat := 0
  /-- The SOUT channel in its test gap, the gap's end, whether it toggled at its start, and whether a sample read high (R343). -/
  gap : Option Nat := none
  gapEnd : Inst := 0
  gapOn : Bool := false
  gapHigh : Bool := false
  /-- Channels that read high while off, and mismatches in a row of each (R344). -/
  offHigh : Nat := 0
  mism : Tab Nat := []
  /-- Contact channels 2k + (0 for A, 1 for B), and since when a pair disagrees. -/
  sin : Tab Contact := []
  disc : Tab Inst := []
  /-- Last completed CUPD on any core (R335). -/
  lastCupd : Inst := 0
  /-- LSR_EN command, and since when the conditions of R334 hold. -/
  cmd : Bool := false
  deriving DecidableEq, Repr

/-! ## Cores -/

/-- A column event of Transit (R125), with the column's Ephemeris word 1 at its posting. -/
structure ColEv where
  /-- Column, direction, sweep count, T_col, depth, word 1. -/
  col : Nat
  dir : Bool
  sweep : Nat
  tcol : Inst
  d : Nat
  word1 : Word
  /-- Tick of its posting (R278). -/
  at_ : Nat := 0
  deriving DecidableEq, Repr

/-- What a core waits for (R233 to R238, R271, R277). -/
inductive Wait
  | none
  | time (t : Inst)
  | event (mask d : Nat)
  | column (d : Nat)
  | sync (mask : Nat)
  | cell (d : Nat)
  | ring
  deriving DecidableEq, Repr

/-- A write under way from a WRS, or a commit that waits for the writes before it (R241, R261). -/
inductive CoreOp
  | wrs (addr : Nat) (v : Word)
  | cmt (g : Nat)
  deriving DecidableEq, Repr

/-- A Reticle core's current cell (R200): its entry as delivered, its point time and its EMIT records. -/
structure Cell where
  /-- The entry, T_pt, and the records EMIT has added. -/
  entry : Word := 0
  tpt : Inst := 0
  emits : List (Word × Word) := []
  deriving DecidableEq, Repr

/-- A core: Alidade 0 to 3, then Reticle 4 to 11 (R224). -/
structure Core where
  /-- G1 to G15; V0 to V7; tile buffers, TB0 from 0 and TB1 from 64. -/
  g : Tab Word := []
  v : Tab Word := []
  tb : Tab Word := []
  /-- The flags Z, N, C and V. -/
  zf : Bool := false
  nf : Bool := false
  cf : Bool := false
  vf : Bool := false
  /-- Program counter: an instruction's place in the image. -/
  pc : Nat := 0
  /-- Return addresses, newest first, each with whether trap entry pushed it. -/
  stack : List (Nat × Bool) := []
  /-- Transit queue, oldest first; current event and whether it has been booked (R236). -/
  queue : List ColEv := []
  cur : Option ColEv := .none
  booked : Bool := false
  /-- Window register. -/
  win : Nat := 2560
  /-- The current cell (R200). -/
  cell : Option Cell := .none
  /-- Service set in use, and the sets taken over from other Reticle cores (R239, R240). -/
  svc : Option Nat := .none
  adopted : Tab Nat := []
  /-- Sticky events (R232). -/
  ev : Nat := 0
  /-- What the core waits for. -/
  wait : Wait := .none
  /-- Writes and commits under way, in issue order. -/
  ops : List CoreOp := []
  /-- Cached tiles with their contents, most recently used first (R231). -/
  cache : List (Nat × List Word) := []
  /-- The image that runs: header tile, code tiles, trap vector. -/
  base : Nat := 0
  ntile : Nat := 0
  vec : Nat := 0
  /-- Instant of the last START, if any, how far the core clock was held back then (R44), and the instant of the last WAITA or
  arming of the watchdog (R243). -/
  start : Option Inst := .none
  startLag : Int := 0
  wd : Inst := 0
  /-- The watchdog has expired since the last WAITA (R243). -/
  wdExp : Bool := false
  /-- A booking on its way to the fire scheduler: offset in 50 ps and booked mask (R237, R265). -/
  book : Option (Int × Nat) := .none
  /-- A STOP waits for the instruction under way (R245, R278). -/
  stopReq : Bool := false
  deriving DecidableEq, Repr

/-! ## Output rings -/

/-- A group on its way into a ring: records with TOFF, COLUMN and ROW still open, cell, and the core that waits (R207). -/
structure OutGrp where
  /-- Records, tile, whether starved, shots. -/
  recs : List (Word × Word) := []
  tile : Nat := 0
  starved : Bool := false
  shots : Nat := 0
  /-- Frame its close belongs to (R338). -/
  frame : Nat := 0
  /-- Its T_pt, and the core that waits for it. -/
  tpt : Inst := 0
  core : Option Nat := none
  deriving DecidableEq, Repr

/-- An occupied slot that begins an item: its number since the ring was set up, header or point, and entry instant. -/
structure Slot2 where
  /-- Number, header or not, entry instant. -/
  pos : Nat
  hdr : Bool
  at_ : Inst
  deriving DecidableEq, Repr

/-- One bank's stream (R203 to R209). -/
structure Ring where
  /-- Base H: an instant, once a header has entered. -/
  base : Option Inst := none
  /-- Header causes that wait for the next record, as KINDs, and the H formed so far. -/
  causes : List Nat := []
  hNext : Option Inst := none
  /-- Since the previous header: closes, starved closes, discards, time steps, skips, DISC and STEPPED. -/
  closed : Nat := 0
  starved : Nat := 0
  discard : Nat := 0
  step : Int := 0
  skipped : Nat := 0
  disc : Bool := false
  stepped : Bool := false
  /-- A rebase header must precede the next group; the ring has been set up anew and nothing has entered it (R206, R209). -/
  rebase : Bool := false
  moved : Bool := false
  /-- Groups on their way in (R207). -/
  groups : List OutGrp := []
  /-- Slots written and freed since the ring was set up. -/
  head : Nat := 0
  tail : Nat := 0
  /-- Occupied slots that begin an item. -/
  slots : List Slot2 := []
  /-- For each host port that carries the stream: slots put into frames, and slots acknowledged. -/
  sent : Tab Nat := []
  acked : Tab Nat := []
  /-- When a slot was last freed, and since when something waits for room. -/
  lastFree : Inst := 0
  waitAt : Option Inst := none
  deriving DecidableEq, Repr

/-- Frames and sweeps as the output unit counts them (R204). -/
structure OutSt where
  /-- The four streams. -/
  rings : Tab Ring := []
  /-- Sweeps of the current frame and of the previous one; a frame has completed since entry to SCAN. -/
  sweeps : Nat := 0
  prev : Nat := 0
  whole : Bool := false
  deriving DecidableEq, Repr

/-! ## Gloelink -/

/-- A sequenced frame: class, words, and for a POINT or HDR frame its bank and the slot after its last. -/
structure TxF where
  /-- Class and words. -/
  cls : Nat := 0
  words : List Word := []
  /-- Bank and the slot after its last. -/
  ring : Option (Nat × Nat) := none
  /-- Its sequence number; of an answer to a request, the number of that answer, else 0 (R366). -/
  seq : Nat := 0
  ans : Nat := 0
  deriving DecidableEq, Repr

/-- A port (spec/15_gloelink.md). -/
structure Port where
  /-- Block lock, good TRAIN frames in a row, whether one has been received, the partner's last ROLE and POS. -/
  lock : Bool := false
  good : Nat := 0
  trained : Bool := false
  role : Nat := 0
  pos : Nat := 0
  /-- Next sequence number to send, and the one expected. -/
  txSeq : Nat := 0
  rxSeq : Nat := 0
  /-- Frames sent and not acknowledged, oldest first; frames queued by class. -/
  unacked : List TxF := []
  q0 : List TxF := []
  q1 : List TxF := []
  /-- Frames of each class sent at first transmission; the partner's FREED; this side's FREED. -/
  sent0 : Nat := 0
  sent1 : Nat := 0
  pFreed0 : Nat := 0
  pFreed1 : Nat := 0
  freed0 : Nat := 0
  freed1 : Nat := 0
  /-- Since when the oldest frame has waited, and timeouts in a row (R360). -/
  oldAt : Inst := 0
  tmo : Nat := 0
  /-- A NAK is owed; one is allowed (R360). -/
  nakOwed : Bool := false
  nakOk : Bool := true
  /-- Out of UP since. -/
  downAt : Inst := 0
  /-- Request frames that wait for the end of the store's clear (R308). -/
  rxq : List (List Word) := []
  /-- Sequenced frames sent in the last ms, with their blocks (R383). -/
  log : List (Inst × Nat) := []
  /-- The last class 1 frame came from port C (R371). -/
  lastC : Bool := false
  /-- Last FLOW sent. -/
  flowAt : Inst := 0
  /-- A frame has been accepted since the bring-up, so that ACK is valid (R353). -/
  av : Bool := false
  /-- The run of blocks that the transmit lane sent last; none while it idles (R354, R362). -/
  tx : LineRun := ⟨0, []⟩
  /-- Number of the last answer to a request (R366); the last instant in which unacknowledged frames were resent (R385). -/
  ansN : Nat := 0
  replayAt : Option Inst := none
  /-- Instants of invalid sync headers within the last 64 blocks (R350). -/
  badAt : List Inst := []
  /-- SLEW, DEEMPH and equaliser settings in force since the last bring-up (R352). -/
  slew : Nat := 0
  deemph : Nat := 0
  eq : Nat := 0
  /-- Bring-ups and runs of blocks so far: they number the free values of the lane (the model's own fields). -/
  trainN : Nat := 0
  txN : Nat := 0
  deriving DecidableEq, Repr

/-- A mailbox's message and its placement instant (R377). -/
structure Mbx where
  /-- The message and its placement instant. -/
  msg : List Word := []
  at_ : Inst := 0
  /-- A DOORBELL and an ACK notice that wait for the target port to come UP (R380). -/
  dbDue : Bool := false
  ackDue : Bool := false
  deriving DecidableEq, Repr

/-- A semaphore: owner code, ports marked as waiting (R372, R373). -/
structure Sem where
  /-- Owner code, 0 for none, and the accessors that wait. -/
  owner : Nat := 0
  wait : List Nat := []
  deriving DecidableEq, Repr

/-- Links, mailboxes, semaphores and the chain. -/
structure Net where
  /-- Ports A, B and C. -/
  ports : Tab Port := []
  /-- The sixteen mailboxes (R377). -/
  mbx : Tab Mbx := []
  /-- The thirty-two semaphores (R372). -/
  sems : Tab Sem := []
  /-- PRESENT value last received on port C, and last sent up port A (R370). -/
  below : Nat := 0
  sentPresent : Nat := 0
  /-- MEM_RD requests forwarded down the chain and not yet answered: ORIG, HOP, RID. -/
  fwd : List (Nat × Nat × Nat) := []
  deriving DecidableEq, Repr

/-! ## Background -/

/-- Background activity (spec/16_background.md). -/
structure Bg where
  /-- Start of the scrub pass, and shared-store tiles checked in it. -/
  scrubAt : Inst := 0
  scrubK : Nat := 0
  /-- Context tiles to retry: tile, instant, retries made (R390). -/
  retry : List (Nat × Inst × Nat) := []
  /-- The last 16 breakdown measurements of each strip, newest first (R393). -/
  vbd : Tab (List Nat) := []
  /-- The instant of each strip's last measurement. -/
  vbdAt : Tab Inst := []
  /-- Hot-SPAD test of each strip: group, windows counted, sums of the 64 counts, sweep of the last window. -/
  hotGrp : Tab Nat := []
  hotWin : Tab Nat := []
  hotSum : Tab (List Nat) := []
  hotSweep : Tab Nat := []
  /-- By bank, when a part last left flight, and SWEEP.COUNT then (R394). -/
  flightEnd : Tab (Inst × Nat) := []
  /-- Passes in a row in which a SPAD was hot, by strip × 1024 + SPAD; SPADs to retire at the next sweep boundary. -/
  hotRun : Tab Nat := []
  /-- SPADs to retire at the next sweep boundary (R394). -/
  hotDue : Tab (List Nat) := []
  /-- Start of the ageing interval; CAPTURE asked for this interval's end and for the next one's. -/
  ageAt : Inst := 0
  capNow : Bool := false
  capNext : Bool := false
  /-- A width step awaits its Firing copy: 1 up, 2 down (R396). -/
  ageStep : Nat := 0
  /-- Almanac: next record instant, and the totals at the last record (R397, R398). -/
  almAt : Option Inst := none
  /-- Totals at the last record: fired, skipped, points, discarded, and tile failures of either memory (R398). -/
  fired : Nat := 0
  skipped : Nat := 0
  points : Nat := 0
  discarded : Nat := 0
  ctxFail : Nat := 0
  ssFail : Nat := 0
  deriving DecidableEq, Repr

/-- The test access port (R323, R324): the instruction, the data register as last captured, and the boundary cells. -/
structure Tap where
  /-- Instruction, IDCODE from Test-Logic-Reset on; what Capture-IR loaded before the instruction; data register, boundary cells,
  EXTEST in force. -/
  ir : Nat := 0x02
  irCap : Nat := 0x01
  dr : Nat := 0
  cells : Nat := 0
  extest : Bool := false
  deriving DecidableEq, Repr


/-! ## The whole state -/

/-- Fuses, written once by the factory: blank at State.reset (log entry 3). -/
structure Fuses where
  /-- Dither seed, revision, serial number, debug disabled. -/
  seed : Nat := 0
  rev : Nat := 0
  serial : Nat := 0
  disabled : Bool := false
  /-- SHA-256 of the boot key; none while blank (R304). -/
  keyHash : Option Nat := none
  deriving DecidableEq, Repr

/-- What the accessor of the last register or memory access received: the error code of R367, 0 for none, the address it
names and the word read. -/
structure Reply where
  /-- Code, address, value. -/
  code : Nat := 0
  addr : Nat := 0
  value : Word := 0
  deriving DecidableEq, Repr

/-- The state of the device. -/
structure State where
  /-- Commands waiting, first in, first out. -/
  pending : List Instr := []
  /-- The fuses. -/
  fuses : Fuses := {}
  /-- Always-on time in 0.1 ns, 8 to a tick (R318). -/
  aon : Nat := 0
  /-- Raw TPLL ticks. -/
  raw : Nat := 0
  /-- Free values taken so far (the model's own field). -/
  free : Nat := 0
  /-- Held and staged register fields, and the in-force copies of staged ones, by field key (R282). -/
  regs : Tab Nat := []
  force : Tab Nat := []
  /-- By field key, what a field that a write or read clears held before hardware changed it in this tick, and what hardware has
  set or counted in it since (R8; the model's own field, log entry 121). -/
  hot : Tab (Nat × Nat) := []
  /-- Context memory and shared store by word address (R401). -/
  mem : Tab Word := []
  /-- Per-accessor latches of NOW_EPOCH, H_MODEL1 and BR_ANGn (R405). -/
  latch : Tab Word := []
  /-- What the last register or memory access received (the model's own field). -/
  reply : Option Reply := none
  /-- Time base. -/
  clk : Clk := {}
  /-- Firing. -/
  fire : Fire := {}
  /-- Pulse monitor. -/
  mon : Mon := {}
  /-- Mirror engine and Transit. -/
  mirr : Mirr := {}
  /-- Bridge front end and housekeeping. -/
  afe : Afe := {}
  /-- The 24 strips: receiver and cell contexts. -/
  strips : Tab Strip := []
  /-- SPAD events of the parts in flight, as rising event keys (R154, R158). -/
  spads : List Nat := []
  /-- Window-contamination monitor. -/
  wc : Wc := {}
  /-- Modes, supplies, reset, boot, freeze. -/
  dev : Dev := {}
  /-- Dome. -/
  dome : Dome := {}
  /-- The twelve cores. -/
  cores : Tab Core := []
  /-- Column stores: words 0 and 1 of column c at keys 2c and 2c + 1, in force and standby (R246 to R248). -/
  eph : Tab Word := []
  ephStd : Tab Word := []
  /-- Output rings. -/
  out : OutSt := {}
  /-- Links, mailboxes, semaphores. -/
  net : Net := {}
  /-- Background activity. -/
  bg : Bg := {}
  /-- Test access port. -/
  tap : Tap := {}
  /-- The table in verification or standby: source tile, column reached (R247, R248). -/
  ephTile : Nat := 0
  deriving DecidableEq, Repr

/-- Why the device stops. No command of the table stops it: see NOTES.md, Stops. -/
inductive Fault
  /-- Raised by no meaning: the spec gives every command an effect. Safe. -/
  | neverRaised
  deriving DecidableEq, Repr

/-- Why a command is refused by the model. -/
inductive Refusal
  /-- The model has no meaning for the command. Raised by `exec` only. Safe: the model stops. -/
  | notModelled (mnemonic : String)
  deriving DecidableEq, Repr

/-- What a meaning answers. -/
abbrev Out := Host.Outcome State Fault Refusal

/-- The device at the end of reset, in BOOT (R302, R319). -/
def State.reset : State := {}

end Sys2Proof.Machine
end

