-- ==== Sys2Proof/Machine/Ops.lean ====
section
/-!
DEFINITION. The named operations over the state: fields of registers, counters, the time word, memory and tiles, free
values, reports to the Dome, events of cores, and the copy of a commit group.
-/
namespace Sys2Proof.Machine

/-! ## Fields of registers (R7, R282) -/

/-- Reset value of instance i of a field; a fuse-driven field takes the fuse (R319). -/
def Fld.resetVal (fz : Fuses) (F : Fld) (i : Nat) : Nat :=
  match F.rst with
  | .const n => n
  | .fuse 0 => fz.seed
  | .fuse 1 => fz.rev
  | .fuse 2 => fz.serial
  | .fuse _ => if fz.disabled then 1 else 0
  | .lin a d => a + d * i
  | .svc => 7 <<< (3 * i)
  | .first n v => if i < n then v else 0

/-- The held value of a field; of an RWS field, the staged copy. -/
def State.fld (s : State) (F : Fld) (i : Nat := 0) (j : Nat := 0) : Nat :=
  Tab.get (fun _ => F.resetVal s.fuses i) s.regs (F.key i j)

/-- The value the device acts on: of an RWS field, the in-force copy (R282). -/
def State.act (s : State) (F : Fld) (i : Nat := 0) (j : Nat := 0) : Nat :=
  Tab.get (fun _ => F.resetVal s.fuses i) s.force (F.key i j)

/-- A one-bit field as a truth value. -/
def State.flag (s : State) (F : Fld) (i : Nat := 0) (j : Nat := 0) : Bool := s.fld F i j != 0

/-- A one-bit staged field in force. -/
def State.actFlag (s : State) (F : Fld) (i : Nat := 0) (j : Nat := 0) : Bool := s.act F i j != 0

/-- Set the held value of a field. -/
def State.setFld (s : State) (F : Fld) (v : Nat) (i : Nat := 0) (j : Nat := 0) : State :=
  { s with regs := Tab.set (fun _ => F.resetVal s.fuses i) s.regs (F.key i j) (v % F.span) }

/-- Set the in-force copy of a staged field. -/
def State.setForce (s : State) (F : Fld) (v : Nat) (i : Nat := 0) (j : Nat := 0) : State :=
  { s with force := Tab.set (fun _ => F.resetVal s.fuses i) s.force (F.key i j) (v % F.span) }

/-- Hardware changes a write-1-to-clear or read-clear field in this tick: `hot` remembers what the field held before the first
such change and what has been set or counted since, so that a clear of the same tick loses none of it (R8, log entry 121). -/
def State.mark (s : State) (F : Fld) (f : Nat → Nat) (i : Nat := 0) (j : Nat := 0) : State :=
  let p := match Tab.find? s.hot (F.key i j) with
    | some p => p
    | none => (s.fld F i j, 0)
  { s with hot := Tab.put s.hot (F.key i j) (p.1, f p.2) }

/-- What hardware has set or counted in a field in this tick. -/
def State.since (s : State) (F : Fld) (i : Nat := 0) (j : Nat := 0) : Nat :=
  match Tab.find? s.hot (F.key i j) with
  | some p => p.2
  | none => 0

/-- Set or clear a one-bit field. -/
def State.setBit (s : State) (F : Fld) (b : Bool) (i : Nat := 0) (j : Nat := 0) : State :=
  (if F.acc = .w1c ∧ b = true then s.mark F (fun _ => 1) i j else s).setFld F (if b then 1 else 0) i j

/-- Set bit k of a field that holds a map. -/
def State.orBit (s : State) (F : Fld) (k : Nat) (i : Nat := 0) : State :=
  (if F.acc = .w1c then s.mark F (· ||| (1 <<< k)) i else s).setFld F (s.fld F i ||| (1 <<< k)) i

/-- Clear bit k of a field that holds a map. -/
def State.clrBit (s : State) (F : Fld) (k : Nat) (i : Nat := 0) : State :=
  s.setFld F (if (s.fld F i).testBit k then s.fld F i - (1 <<< k) else s.fld F i) i

/-- Bit k of a field that holds a map. -/
def State.bit (s : State) (F : Fld) (k : Nat) (i : Nat := 0) : Bool := (s.fld F i).testBit k

/-- Count n events: a read-clear counter saturates, any other wraps (R81, R103, R127, R150, R172, R197, R327; for PPS_CNT and the
counters of other blocks whose chapters do not say so, log entry 122). -/
def State.cnt (s : State) (F : Fld) (n : Nat := 1) (i : Nat := 0) (j : Nat := 0) : State :=
  if F.acc = .rc then
    (s.mark F (fun m => min (m + n) (F.span - 1)) i j).setFld F (min (s.fld F i j + n) (F.span - 1)) i j
  else s.setFld F (s.fld F i j + n) i j

/-- Take back one event counted in this tick in a read-clear counter. -/
def State.uncnt (s : State) (F : Fld) (i : Nat := 0) : State := (s.mark F (fun m => m - 1) i).setFld F (s.fld F i - 1) i

/-- Hardware changes a field that software can lock: `hot` remembers what it held before (R408). -/
def State.hwFld (s : State) (F : Fld) (v : Nat) (i : Nat := 0) (j : Nat := 0) : State := (s.mark F (fun _ => 1) i j).setFld F v i j

/-- What a field held before hardware changed it in this tick; none where it has not. -/
def State.hwHeld (s : State) (F : Fld) (i j : Nat) : Option Nat := (Tab.find? s.hot (F.key i j)).map Prod.fst

/-- A read-clear field that keeps the greatest value shown to it takes another (R8, R120). -/
def State.peak (s : State) (F : Fld) (v : Nat) : State := (s.mark F (fun m => max m v)).setFld F (max (s.fld F) v)

/-- Count n in a field that saturates though software can write it. -/
def State.cntSat (s : State) (F : Fld) (n : Nat) (i : Nat := 0) : State :=
  s.setFld F (min (s.fld F i + n) (F.span - 1)) i

/-- A signed field: two's complement over n bits. -/
def signed (n : Nat) (v : Nat) : Int := if v < 2 ^ (n - 1) then (v : Int) else (v : Int) - 2 ^ n

/-- A field read as a signed number. -/
def State.fldS (s : State) (F : Fld) (i : Nat := 0) (j : Nat := 0) : Int := signed (F.hi + 1 - F.lo) (s.fld F i j)

/-- A staged field in force read as a signed number. -/
def State.actS (s : State) (F : Fld) (i : Nat := 0) (j : Nat := 0) : Int := signed (F.hi + 1 - F.lo) (s.act F i j)

/-- Two's complement of a number over n bits. -/
def unsigned (n : Nat) (v : Int) : Nat := (v % 2 ^ n).toNat

/-- Set a field to a signed number. -/
def State.setFldS (s : State) (F : Fld) (v : Int) (i : Nat := 0) (j : Nat := 0) : State :=
  s.setFld F (unsigned (F.hi + 1 - F.lo) v) i j

/-- Confine a number to a range. -/
def clampI (lo hi v : Int) : Int := if v < lo then lo else if hi < v then hi else v

/-- Confine a natural number to a range. -/
def clampN (lo hi v : Nat) : Nat := if v < lo then lo else if hi < v then hi else v

/-! ## Free values -/

/-- Take the next free value of a site. -/
def State.takeFree (s : State) (x : FreeSite) : Nat × State := (Config.free x s.free, { s with free := s.free + 1 })

/-- A free value within ±b. -/
def State.takeErr (s : State) (x : FreeSite) (b : Nat) : Int × State :=
  ((((s.takeFree x).1 % (2 * b + 1) : Nat) : Int) - b, (s.takeFree x).2)

/-! ## Time (R35, R45, R48) -/

/-- The present instant. -/
def State.now (s : State) : Inst := 16 * (s.raw : Int)

/-- Ticks in a second. -/
def secTicks : Int := 1250000000

/-- Whole ticks of an instant, on the raw timeline. -/
def tickOf (i : Inst) : Int := i / 16

/-- The phase of an instant. -/
def phaseOf (i : Inst) : Nat := (i % 16).toNat

/-- The time word of a count of ticks: SEC modulo 131,072 and TICK. -/
def timeWord (t : Int) : Word := BitVec.ofInt 48 (t / secTicks % 131072 * 2147483648 + t % secTicks)

/-- The time word counted in ticks from its start. -/
def State.ticks (s : State) : Int := if s.clk.timeRun then (s.raw : Int) + s.clk.off else 0

/-- The time word of an instant. -/
def State.wordAt (s : State) (i : Inst) : Word := timeWord (tickOf i + s.clk.off)

/-- The time word now. -/
def State.timeNow (s : State) : Word := timeWord s.ticks

/-- The epoch count, modulo 2^32. -/
def State.epoch (s : State) : Nat := (s.ticks / secTicks % 4294967296).toNat

/-- Ticks named by a time word, in the span of 131,072 s centred on the present (R257). -/
def State.ticksOf (s : State) (w : Word) : Int :=
  let t := (w.toNat / 2147483648 : Int) * secTicks + (w.toNat % 2147483648 : Int)
  let p := 131072 * secTicks
  s.ticks + ((t - s.ticks + p / 2) % p - p / 2)

/-- The instant of phase 0 of the tick a time word names. -/
def State.instOf (s : State) (w : Word) : Inst := 16 * (s.ticksOf w - s.clk.off)

/-- An instant has been reached. -/
def State.due (s : State) (i : Inst) : Bool := decide (i ≤ s.now)

/-- An instant that is held, if any, has been reached. -/
def State.dueOpt (s : State) (o : Option Inst) : Bool :=
  match o with
  | some i => s.due i
  | none => false

/-- Units of 50 ps in a microsecond and a millisecond. -/
def us : Int := 20000
def ms : Int := 20000000

/-! ## Spread spectrum and the core clock (R39 to R41, R44) -/

/-- The spread at the start of segment n, in ppm: the END_PPM of the segment before, 0 for segment 0 (R41). -/
def State.sscFrom (s : State) (n : Nat) : Nat := if n = 0 then 0 else s.fld F.TIME.SSC_SEG.END_PPM (n - 1)

/-- Length of the running segment, and how much of it has passed at an instant (R41). -/
def State.sscLen (s : State) : Int := 400 * (s.fld F.TIME.SSC_SEG.LEN (s.fld F.TIME.SSC_STAT.CUR_SEG) : Int)
def State.sscTau (s : State) (t : Inst) : Int := clampI 0 s.sscLen (t - (s.clk.sscDue - s.sscLen))

/-- By how much s rises over the running segment, in ppm. -/
def State.sscRise (s : State) : Int :=
  (s.fld F.TIME.SSC_SEG.END_PPM (s.fld F.TIME.SSC_STAT.CUR_SEG) : Int) - s.sscFrom (s.fld F.TIME.SSC_STAT.CUR_SEG)

/-- The spread s(t) in ppm: across a segment it ramps linearly to the segment's END_PPM (R41). -/
def State.spread (s : State) (t : Inst) : Rat :=
  if s.flag F.TIME.SSC_STAT.ACTIVE then
    (s.sscFrom (s.fld F.TIME.SSC_STAT.CUR_SEG) : Rat) + (s.sscRise * s.sscTau t : Int) / (s.sscLen : Rat)
  else 0

/-- SPLL's output frequency in Hz, and the rotator's step rate per second (R40); the core clock (R37). -/
def State.spllHz (s : State) (t : Inst) : Rat := 4000000000 * (1 - s.spread t / 1000000)
def State.rotatorRate (s : State) (t : Inst) : Rat := 64 * 4000000000 * (s.spread t / 1000000)
def State.coreHz (s : State) (t : Inst) : Rat := s.spllHz t / 4

/-- How far the core clock has been held back at an instant, in 10^−6 of 50 ps: the integral of s(t), in ppm, over time, rounded
down (R40, R44). -/
def State.lagAt (s : State) (t : Inst) : Int :=
  if s.flag F.TIME.SSC_STAT.ACTIVE then
    s.clk.sscLag + s.sscFrom (s.fld F.TIME.SSC_STAT.CUR_SEG) * s.sscTau t +
      s.sscRise * s.sscTau t * s.sscTau t / (2 * s.sscLen)
  else s.clk.sscLag

/-- Core clock cycles from one instant to a later one, given how far the clock was held back at each (R44). -/
def coreCycles (t0 t1 lag0 lag1 : Int) : Nat := (((t1 - t0) * 1000000 - (lag1 - lag0)) / 20000000).toNat

/-! ## Tiles and their check (R175) -/

/-- One bit into the CRC-32 with polynomial 0x04C1_1DB7, not reflected. -/
def crcBit (c : Nat) (b : Bool) : Nat :=
  if (c.testBit 31) != b then Nat.xor (c * 2 % 4294967296) 0x04C11DB7 else c * 2 % 4294967296

/-- The low n bits of v into the CRC, most significant first. -/
def crcBits : Nat → Nat → Nat → Nat
  | 0, _, c => c
  | n + 1, v, c => crcBits n v (crcBit c (v.testBit n))

/-- The CRC over words and then a tag of 16 bits. -/
def tileCrc (ws : List Word) (tag : Nat) : Nat :=
  Nat.xor (crcBits 16 tag (ws.foldl (fun c w => crcBits 48 w.toNat c) 0xFFFFFFFF)) 0xFFFFFFFF

/-- Word 47 for a tile's words 0 to 46 and its tag. -/
def tileWord47 (ws : List Word) (tag : Nat) : Word := BitVec.ofNat 48 (tag * 4294967296 + tileCrc ws tag)

/-- Context tiles and shared-store tiles. -/
def ctxTiles : Nat := 49152
def ssTiles : Nat := 16384
/-- First word of the shared store (R401). -/
def ssBase : Nat := 0x800000

/-- The tag expected at a word address, and the first word of its tile (R175). -/
def tagAt (a : Nat) : Nat := if a < ssBase then a / 48 else ctxTiles + (a - ssBase) / 48
def tileBase (tag : Nat) : Nat := if tag < ctxTiles then 48 * tag else ssBase + 48 * (tag - ctxTiles)

/-- Word w of a tile, 0 to 46, as reset leaves it: word 36 of a context tile has FRESH (R177), all else is 0 (R308). -/
def tileReset (tag w : Nat) : Word := if w = 36 ∧ tag < ctxTiles then 0x2000 else 0

/-- What an unlisted word of memory reads as: its reset contents, tag and CRC included (R177, R308). -/
def memReset (a : Nat) : Word :=
  let tag := tagAt a
  let w := a - tileBase tag
  if w = 47 then tileWord47 ((List.range 47).map (tileReset tag)) tag else tileReset tag w

/-- Read and write one word of memory. -/
def State.rdMem (s : State) (a : Nat) : Word := Tab.get memReset s.mem a
def State.wrMem (s : State) (a : Nat) (v : Word) : State := { s with mem := Tab.set memReset s.mem a v }

/-- The 48 words of a tile. -/
def State.rdTile (s : State) (tag : Nat) : List Word := (List.range 48).map (fun w => s.rdMem (tileBase tag + w))

/-- Whether a tile's word 47 holds the tag expected. -/
def tagOk (ws : List Word) (tag : Nat) : Bool := (ws.getD 47 0).toNat / 4294967296 == tag

/-- Whether a tile passes its check (R175). -/
def tileOk (ws : List Word) (tag : Nat) : Bool := ws.getD 47 0 == tileWord47 (ws.take 47) tag

/-- Write words from an address. -/
def State.wrWords (s : State) (a : Nat) : List Word → State
  | [] => s
  | w :: t => (s.wrMem a w).wrWords (a + 1) t

/-- Write words 0 to 46 of a tile and its word 47 (R175). -/
def State.wrTile (s : State) (tag : Nat) (ws : List Word) : State :=
  s.wrWords (tileBase tag) (ws.take 47 ++ [tileWord47 (ws.take 47) tag])

/-- Rewrite word 47 of a tile from its words 0 to 46. -/
def State.reCrc (s : State) (tag : Nat) : State :=
  s.wrMem (tileBase tag + 47) (tileWord47 ((s.rdTile tag).take 47) tag)

/-- Bits [hi:lo] of a word. -/
def bits (w : Word) (hi lo : Nat) : Nat := w.toNat / 2 ^ lo % 2 ^ (hi + 1 - lo)

/-- A truth value as a bit. -/
def n1 (b : Bool) : Nat := if b then 1 else 0

/-- A word with bits [hi:lo] replaced. -/
def setBits (w : Word) (hi lo v : Nat) : Word :=
  BitVec.ofNat 48 (w.toNat - bits w hi lo * 2 ^ lo + v % 2 ^ (hi + 1 - lo) * 2 ^ lo)

/-- The list with element i replaced. -/
def setAt {α : Type} (l : List α) (i : Nat) (v : α) : List α := l.set i v

/-! ## Units by number -/

def State.strip (s : State) (d : Nat) : Strip := Tab.get (fun _ => {}) s.strips d
def State.setStrip (s : State) (d : Nat) (x : Strip) : State := { s with strips := Tab.put s.strips d x }
def State.core (s : State) (c : Nat) : Core := Tab.get (fun _ => {}) s.cores c
def State.setCore (s : State) (c : Nat) (x : Core) : State := { s with cores := Tab.put s.cores c x }
def State.bridge (s : State) (n : Nat) : Bridge := Tab.get (fun _ => {}) s.afe.bridges n
def State.setBridge (s : State) (n : Nat) (x : Bridge) : State :=
  { s with afe := { s.afe with bridges := Tab.put s.afe.bridges n x } }
def State.rail (s : State) (n : Nat) : Rail := Tab.get (fun _ => {}) s.dev.rails n
def State.setRail (s : State) (n : Nat) (x : Rail) : State :=
  { s with dev := { s.dev with rails := Tab.put s.dev.rails n x } }
/-- Change what the background activity holds. -/
def State.updBg (s : State) (f : Bg → Bg) : State := { s with bg := f s.bg }
/-- Words 0 and 1 of column c in force. -/
def State.ephWord (s : State) (c w : Nat) : Word := Tab.get (fun _ => 0) s.eph (2 * c + w)

/-! ## Modes -/

/-- The modes in which frames run: SCAN, DEGRADED and HOLDOVER. -/
def State.scanning (s : State) : Bool :=
  s.dev.mode = .scan || s.dev.mode = .degraded || s.dev.mode = .holdover

/-- The device is clocked: no reset holds it and it is not FROZEN. -/
def State.live (s : State) : Bool := !s.dev.inReset && s.dev.mode != .frozen

/-- A bank is dropped: DEGRADED with its bit of DEG_STAT.DROP (R28, R331). -/
def State.dropped (s : State) (b : Nat) : Bool := s.dev.mode = .degraded && s.bit F.SAFE.DEG_STAT.DROP b

/-- A strip reports ready (R169). -/
def State.stripReady (s : State) (d : Nat) : Bool :=
  s.flag F.STRIP.RX_STAT.POWERED d && s.flag F.STRIP.RX_STAT.BIAS_OK d &&
  s.flag F.STRIP.RX_STAT.CAL_VALID d && !s.flag F.STRIP.RX_STAT.FAULT d

/-- A bank is ready: all six of its strips are (R74). -/
def State.bankReady (s : State) (b : Nat) : Bool := (List.range 6).all (fun k => s.stripReady (6 * b + k))

/-- A bank is awake. -/
def State.awake (s : State) (b : Nat) : Bool := s.bit F.FIRE.STAT.AWAKE b

/-! ## Settings that act as a limit -/

/-- The end of the start wait in ticks: TOUT, of which values below 4 act as 4 (R103). -/
def State.startTout (s : State) : Nat := max 4 (s.act F.MON.START_CFG.TOUT)

/-- The FIRE pulse width in 50 ps: values below 20 act as 20 (R81). -/
def State.pulseWidth (s : State) : Nat := max 20 (s.act F.FIRE.PULSE_CFG.WIDTH)

/-- A segment's share weight: 0 acts as 1 (R81). -/
def State.eyeWeight (s : State) (n : Nat) : Nat := max 1 (s.fld F.FIRE.EYE_WGT.W n)

/-! ## Accesses -/

/-- Error codes of ERR frames (R367). -/
inductive Err | unalloc | rwl | guard | refused | mbxFull | tile | format | hop | semOwn
  deriving DecidableEq, Repr

def Err.code : Err → Nat
  | .unalloc => 1 | .rwl => 2 | .guard => 3 | .refused => 4 | .mbxFull => 5
  | .tile => 6 | .format => 7 | .hop => 8 | .semOwn => 9

/-- What a write to a register does: the state after, and the refusal if there is one (R10). -/
abbrev WRes := State × Option Err

/-- Tell the accessor what became of its access. -/
def State.answer (_s : State) (addr : Nat) (r : WRes) : State :=
  match r.2 with
  | none => { r.1 with reply := some { code := 0, addr := addr, value := 0 } }
  | some e => { r.1 with reply := some { code := e.code, addr := addr, value := 0 } }

/-- Tell the accessor the word it has read. -/
def State.answerRead (s : State) (addr : Nat) (v : Word) : State :=
  { s with reply := some { code := 0, addr := addr, value := v } }

/-- A number for an accessor; also its number as a semaphore owner is derived from it. -/
def accNum : Accessor → Nat
  | .portA => 0 | .portB => 1 | .meridian => 2 | .dome => 3 | .core c => 4 + c.val

/-- A latch of an accessor (R405): kind 0 NOW_EPOCH, 1 H_MODEL1, 2 + n BR_ANGn. -/
def latchKey (a : Accessor) (k : Nat) : Nat := 8 * accNum a + k
def State.latched (s : State) (a : Accessor) (k : Nat) : Word := Tab.get (fun _ => 0) s.latch (latchKey a k)
def State.setLatch (s : State) (a : Accessor) (k : Nat) (v : Word) : State :=
  { s with latch := Tab.set (fun _ => 0) s.latch (latchKey a k) v }

/-! ## Reports to the Dome (R329, R333) -/

/-- The faults whose LSR_EN removal has a stated time of 20 µs or less and runs on a hardware path (R329, R333). -/
def Report.hardware : Report → Bool
  | .eye | .pulse | .lpf _ | .tpll | .ref | .spll | .lockstep => true
  | _ => false

/-- The firing block with LSR_EN low: a pulse already on its line completes its width, and one still to rise is held back (R62,
R67, log entry 126). -/
def Fire.drop (x : Fire) (now : Inst) : Fire :=
  { x with lsrEn := false, pulses := x.pulses.filter (fun p => decide (p.2.1 ≤ now)) }

/-- Drive LSR_EN low at the ball. -/
def State.dropLsr (s : State) : State :=
  { s with fire := s.fire.drop s.now, dome := { s.dome with cmd := false } }

/-- Report a fault: the Dome takes it up in DOME_FAULT_REACTION; a hardware path removes LSR_EN at once. -/
def State.report (s : State) (r : Report) : State :=
  let s := { s with dome := { s.dome with reports := s.dome.reports ++ [(r, s.raw)] } }
  if r.hardware then s.dropLsr else s

/-! ## Events of cores (R232) -/

/-- The sticky events of a core (R232). -/
inductive Ev | sweep | frame | sig | commit | host | mode
  deriving DecidableEq, Repr

def Ev.bit : Ev → Nat
  | .sweep => 1 | .frame => 2 | .sig => 3 | .commit => 5 | .host => 6 | .mode => 7

/-- Set an event of a core. -/
def State.coreEvent (s : State) (c : Nat) (e : Ev) : State :=
  s.setCore c { s.core c with ev := (s.core c).ev ||| (1 <<< e.bit) }

/-- Set an event of every core numbered in a list. -/
def State.coreEvents (s : State) (l : List Nat) (e : Ev) : State := forEach l s (fun s c => s.coreEvent c e)

/-! ## Commit groups (R282 to R287) -/

/-- Groups by number (R241). -/
def grpOf : Nat → Grp
  | 0 => .firing | 1 => .window | 2 => .cell | 3 => .rejection | 4 => .mirror | 5 => .frontEnd | _ => .time
def Grp.num : Grp → Nat
  | .firing => 0 | .window => 1 | .cell => 2 | .rejection => 3 | .mirror => 4 | .frontEnd => 5 | .time => 6

/-- The blocks that hold staged fields of a group (R287). -/
def Grp.flds (g : Grp) : List Fld :=
  ((match g with
    | .firing => fldsFIRE ++ fldsMON ++ fldsMIRR ++ fldsALD
    | .window => fldsSTRIP
    | .cell => fldsSTRIP
    | .rejection => fldsBANK
    | .mirror => fldsMIRR
    | .frontEnd => fldsAFE
    | .time => fldsTIME).filter (fun F => decide (F.grp = some g)))

/-- A write of a staged field: `hot` remembers what the copy of this tick takes, since the write acts after it (R284, log
entry 134). -/
def State.stage (s : State) (F : Fld) (v : Nat) (i : Nat := 0) (j : Nat := 0) : State := (s.mark F (fun n => n) i j).setFld F v i j

/-- The staged copy of a field as a copy of this tick takes it: without the writes of the tick (R284). -/
def State.staged (s : State) (F : Fld) (i : Nat := 0) (j : Nat := 0) : Nat :=
  match Tab.find? s.hot (F.key i j) with
  | some p => p.1
  | none => s.fld F i j

/-- Copy one field of every instance into force. -/
def State.copyFld (s : State) (F : Fld) : State :=
  forEach (List.range F.n1) s (fun s i =>
    forEach (List.range F.n2) s (fun s j => s.setForce F (s.staged F i j) i j))

/-- A commit of the group is pending. -/
def State.pend (s : State) (g : Grp) : Bool := s.bit F.DEV.CMT_STAT.PEND g.num

/-- The cores of commits of a group made in this tick that have found an earlier one pending; none where there are none. -/
def State.lateCommits (s : State) (g : Grp) : Option (List Nat) :=
  match Tab.find? s.dev.cmtLate g.num with
  | some p => if p.1 = s.raw then some p.2 else none
  | none => none

/-- A commit that has arrived in the tick of its group's boundary waits for the next one: it has not merged with the one the boundary
serves (R284). -/
def State.keepLate (s : State) (g : Grp) (late : Option (List Nat)) : State :=
  match late with
  | none => s
  | some cores =>
    let s := (s.setFld F.DEV.CMT_CNT.MERGED (s.fld F.DEV.CMT_CNT.MERGED - 1)).orBit F.DEV.CMT_STAT.PEND g.num
    { s with dev := { s.dev with cmtAt := Tab.put s.dev.cmtAt g.num s.raw, cmtLate := Tab.del s.dev.cmtLate g.num
                                 cmtBy := Tab.put s.dev.cmtBy g.num cores } }

/-- The cores whose CMTs a copy serves: those of commits made in its tick wait (R284). -/
def State.served (s : State) (g : Grp) : List Nat :=
  let l := Tab.get (fun _ => []) s.dev.cmtBy g.num
  l.take (l.length - ((s.lateCommits g).getD []).length)

/-- The copy of a pending commit at its boundary: the whole staged copy, PEND, DONE, COMMITS and the COMMIT events of the
cores it serves (R284). -/
def State.copyGroup (s : State) (g : Grp) : State :=
  let late := s.lateCommits g
  let served := s.served g
  let s := g.flds.foldl State.copyFld s
  let s := (s.clrBit F.DEV.CMT_STAT.PEND g.num).orBit F.DEV.CMT_STAT.DONE g.num
  let s := s.cnt F.DEV.CMT_CNT.COMMITS
  let s := s.coreEvents served .commit
  ({ s with dev := { s.dev with cmtBy := Tab.del s.dev.cmtBy g.num } }).keepLate g late

/-- A pending commit that the group's boundary in this tick serves: it was made in an earlier tick (R284). -/
def State.ripe (s : State) (g : Grp) : Bool :=
  s.pend g && decide (Tab.get (fun _ => 0) s.dev.cmtAt g.num < s.raw)

/-- A commit of a group is made; one that finds the group pending merges with it (R283). -/
def State.makeCommit (s : State) (g : Grp) : State :=
  if s.pend g then
    let s := s.cnt F.DEV.CMT_CNT.MERGED
    if s.ripe g then { s with dev := { s.dev with cmtLate := Tab.put s.dev.cmtLate g.num (s.raw, (s.lateCommits g).getD []) } } else s
  else
    let s := s.orBit F.DEV.CMT_STAT.PEND g.num
    { s with dev := { s.dev with cmtAt := Tab.put s.dev.cmtAt g.num s.raw } }

end Sys2Proof.Machine
end

