-- ==== Sys2Proof/Machine/Lane.lean ====
section
/-!
DEFINITION. The lanes of Gloelink: 64b/66b blocks with their sync headers, the self-synchronising scrambler, block tags, and
frames as blocks with their CRC (spec/15_gloelink.md R350, R353, R354). The order of a block's bits on the line is that of IEEE
802.3 clause 49, bit 0 first (log entry 137).
-/
namespace Sys2Proof.Machine

/-- The 64 payload bits of a block: tag in [63:48], word in [47:0]. -/
abbrev Payload := BitVec 64

/-! ## The scrambler 1 + x^39 + x^58 (R350) -/

/-- What the last 58 line bits, the latest in bit 0, contribute to the next one. -/
def scrTap (r : Nat) : Bool := r.testBit 38 != r.testBit 57
/-- The line bits with one more. -/
def scrShift (r : Nat) (c : Bool) : Nat := (2 * r + n1 c) % 2 ^ 58

/-- The low n bits of a payload, scrambled, and the line bits after them. -/
def scrBits : Nat → Nat → Nat → Nat × Nat
  | 0, _, r => (0, r)
  | n + 1, v, r =>
    let c := v.testBit 0 != scrTap r
    let y := scrBits n (v / 2) (scrShift r c)
    (2 * y.1 + n1 c, y.2)

/-- The low n line bits of a payload, descrambled, and the line bits after them. -/
def descrBits : Nat → Nat → Nat → Nat × Nat
  | 0, _, r => (0, r)
  | n + 1, v, r =>
    let y := descrBits n (v / 2) (scrShift r (v.testBit 0))
    (2 * y.1 + n1 (v.testBit 0 != scrTap r), y.2)

/-- Payloads as blocks on the line, each with sync header 0b01. -/
def lineBlocks : Nat → List Payload → List (BitVec 66)
  | _, [] => []
  | r, p :: ps => BitVec.ofNat 66 (2 ^ 64 + (scrBits 64 p.toNat r).1) :: lineBlocks (scrBits 64 p.toNat r).2 ps

/-- Blocks from the line: whether each has the sync header 0b01, and its payload. -/
def linePayloads : Nat → List (BitVec 66) → List (Bool × Payload)
  | _, [] => []
  | r, b :: bs =>
    (b.toNat / 2 ^ 64 == 1, BitVec.ofNat 64 (descrBits 64 (b.toNat % 2 ^ 64) r).1) ::
      linePayloads (descrBits 64 (b.toNat % 2 ^ 64) r).2 bs

/-- Blocks of a run as received, an inverted receive pair corrected. -/
def runReceived (rx : LineRun) (inverted : Bool) : List (Bool × Payload) :=
  if inverted then linePayloads (~~~rx.before).toNat (rx.blocks.map (~~~·)) else linePayloads rx.before.toNat rx.blocks

/-- The sync headers of a run. -/
def runHeaders (rx : LineRun) : List Nat := rx.blocks.map (fun b => b.toNat / 2 ^ 64)

/-- 64 consecutive valid sync headers end the run: some answer, whether on an inverted pair. -/
def runLock (rx : LineRun) : Option Bool :=
  let h := (runHeaders rx).drop (rx.blocks.length - 64)
  if h.length < 64 then none
  else if h.all (· == 1) then some false
  else if h.all (· == 2) then some true
  else none

/-- Invalid sync headers in the last 64 blocks of a run. -/
def runBad (rx : LineRun) (inverted : Bool) : Nat :=
  ((runReceived rx inverted).drop (rx.blocks.length - 64)).countP (fun b => !b.1)

/-! ## Block tags (R353) -/

/-- Bits [hi:lo] of a payload. -/
def pBits (p : Payload) (hi lo : Nat) : Nat := p.toNat / 2 ^ lo % 2 ^ (hi + 1 - lo)
def blkKind (p : Payload) : Nat := pBits p 63 62
def blkAv (p : Payload) : Bool := p.getLsbD 61
def blkAck (p : Payload) : Nat := pBits p 60 54
def blkNak (p : Payload) : Bool := p.getLsbD 53
def blkWord (p : Payload) : Word := p.setWidth 48

/-- A payload from KIND, the rest of a tag, and a word. -/
def blkMake (kind tag : Nat) (w : Word) : Payload := BitVec.ofNat 64 ((kind * 2 ^ 14 + tag) * 2 ^ 48 + w.toNat)

/-- AV, ACK and NAK of a tag. -/
def tagMake (av : Bool) (ack : Nat) (nak : Bool) : Nat := n1 av * 2 ^ 13 + ack % 128 * 2 ^ 6 + n1 nak * 2 ^ 5

/-- A valid idle block. -/
def idleOk (p : Payload) : Bool :=
  blkKind p == 0 && pBits p 52 48 == 0 && pBits p 47 16 == 0 && pBits p 15 0 == 65535 - pBits p 63 48

/-! ## Frames (R354) -/

/-- CRC-32 over the payloads of header and body blocks. -/
def frameCrc (ps : List Payload) : Nat := Nat.xor (ps.foldl (fun c p => crcBits 64 p.toNat c) 0xFFFFFFFF) 0xFFFFFFFF

/-- A frame as blocks, with one tag in header and body blocks. -/
def frameBlocks (tag : Nat) (f : List Word) : List Payload :=
  let ps := match f with
    | [] => []
    | h :: t => blkMake 1 tag h :: t.map (blkMake 2 tag)
  ps ++ [blkMake 3 0 (BitVec.ofNat 48 (frameCrc ps))]

/-- The blocks of a run begin with a header, go on with its LEN body blocks, and end with a trailer; every one is valid. -/
def frameShape (bs : List (Bool × Payload)) : Bool :=
  match bs with
  | [] => false
  | h :: t =>
    bs.all (fun b => b.1 && pBits b.2 52 48 == 0) && blkKind h.2 == 1 && t.length == bits (blkWord h.2) 29 24 + 1 &&
    t.dropLast.all (fun b => blkKind b.2 == 2) && t.getLast?.any (fun b => pBits b.2 63 32 == 3 * 2 ^ 30)

/-- The trailer's CRC is that of the blocks before it. -/
def frameCrcOk (bs : List (Bool × Payload)) : Bool :=
  bs.getLast?.any (fun b => pBits b.2 31 0 == frameCrc (bs.dropLast.map Prod.snd))

/-- Blocks whose AV, ACK and NAK are acted on: a valid idle block, or header and body blocks of a frame whose CRC passes. -/
def heard (bs : List (Bool × Payload)) : List Payload :=
  match bs with
  | [b] => if b.1 && idleOk b.2 then [b.2] else []
  | _ => if frameShape bs && frameCrcOk bs then bs.dropLast.map Prod.snd else []

/-- Blocks of a run that are invalid: a sync header other than 0b01, or an idle block in no idle form. -/
def badBlocks (bs : List (Bool × Payload)) : Nat := bs.countP (fun b => !b.1 || (blkKind b.2 == 0 && !idleOk b.2))

end Sys2Proof.Machine
end

