-- ==== Sys2Proof/Machine/Status.lean ====
section
/-!
DEFINITION. What the device shows of itself: words of registers put together from their fields, mode codes and status
(spec/13_modes_startup.md R292, R298, R299), and the accessor codes of spec/15_gloelink.md R372.
-/
namespace Sys2Proof.Machine

/-! ## Words of registers -/

/-- The instances and elements of a field that lie at an address. -/
def Fld.hits (F : Fld) (addr : Nat) : List (Nat × Nat) :=
  match F.lay with
  | .core => ((List.range F.n1).filter (fun i => coreBase i + F.base == addr)).map (fun i => (i, 0))
  | .lin =>
    (List.range F.n2).filterMap (fun j =>
      let a := F.base + F.s2 * j
      if addr < a then none
      else if F.s1 = 0 then (if addr = a then some (0, j) else none)
      else if (addr - a) % F.s1 = 0 ∧ (addr - a) / F.s1 < F.n1 then some ((addr - a) / F.s1, j) else none)

/-- The word of the held values of those fields of a list that lie at an address. -/
def State.heldAt (s : State) (l : List Fld) (addr : Nat) : Nat :=
  l.foldl (fun w F => (F.hits addr).foldl (fun w p => w + s.fld F p.1 p.2 * 2 ^ F.low p.2) w) 0

/-- The word at an address with fields other than those of a list as held, and those of the list as given. -/
def State.wordWith (s : State) (l : List Fld) (addr : Nat) (shown : List (Fld × Nat)) : Word :=
  BitVec.ofNat 48 (shown.foldl (fun w p => w + p.2 % p.1.span * 2 ^ p.1.lo)
    (s.heldAt (l.filter (fun F => !(shown.map Prod.fst).contains F)) addr))

/-! ## Modes -/

/-- The codes of R292. -/
def Mode.code : Mode → Nat
  | .boot => 0 | .idle => 1 | .armed => 2 | .scan => 3 | .degraded => 4 | .safe => 5 | .holdover => 6 | .frozen => 7

/-- Any rail runs on its backup (R316). -/
def State.onBackup (s : State) : Bool := (List.range 4).any (fun k => (s.rail k).onBk)

/-- MODE_STAT.LATCHED (R299). -/
def State.latchedFault (s : State) : Bool :=
  s.flag F.SAFE.FLT.BRIDGE || s.flag F.SAFE.FLT.STRIP || s.flag F.SAFE.FLT.SUP_BK || s.flag F.SAFE.FLT.PORT

/-- A bank carries a latched strip fault. -/
def State.bankFaulted (s : State) (b : Nat) : Bool :=
  s.flag F.SAFE.FLT.STRIP && (List.range 6).any (fun k => s.flag F.STRIP.RX_STAT.FAULT (6 * b + k))

/-- MODE_STAT.ARMED_OK (R298). -/
def State.armedOk (s : State) : Bool :=
  s.flag F.MIRR.STAT.H_LOCKED && s.flag F.MIRR.STAT.V_INPOS &&
  (List.range 4).all (fun b => !s.bit F.FIRE.CTRL.BANK_EN b || (s.bankReady b && s.bit F.FIRE.STAT.TRIMMED b) ||
    s.bankFaulted b)

/-- DEV.MODE_STAT. -/
def State.modeStat (s : State) : Word :=
  s.wordWith fldsDEV 0x1000001
    [ (F.DEV.MODE_STAT.LATCHED, if s.latchedFault then 1 else 0), (F.DEV.MODE_STAT.ON_BACKUP, if s.onBackup then 1 else 0),
      (F.DEV.MODE_STAT.ARMED_OK, if s.armedOk then 1 else 0), (F.DEV.MODE_STAT.MODE, s.dev.mode.code) ]

/-- Milliseconds since entry to DEGRADED, saturating; 0 outside DEGRADED (R349, log entry 31). -/
def State.degElapsed (s : State) : Nat :=
  if s.dev.mode = .degraded then min 65535 ((s.now - s.dome.degAt) / ms).toNat else 0

/-- SAFE.FLT and SAFE.DEG_STAT. -/
def State.fltWord (s : State) : Word := BitVec.ofNat 48 (s.heldAt fldsSAFE 0x1000801)
def State.degStat (s : State) : Word := s.wordWith fldsSAFE 0x1000804 [(F.SAFE.DEG_STAT.ELAPSED, s.degElapsed)]

/-- LINKp.STAT. -/
def State.linkStat (s : State) (p : Nat) : Word := BitVec.ofNat 48 (s.heldAt fldsLINK (0x1000902 + 0x40 * p))

/-! ## Accessor codes (R372) -/

/-- The code of an accessor. -/
def accCode : Accessor → Nat
  | .portA => 1 | .portB => 2 | .meridian => 4 | .dome => 5
  | .core c => if c.val < 4 then 0x10 + c.val else 0x14 + c.val

/-- The code of a core. -/
def coreCode (c : Nat) : Nat := if c < 4 then 0x10 + c else 0x14 + c

end Sys2Proof.Machine
end

