-- ==== Sys2Proof/Machine/Ring.lean ====
section
/-!
DEFINITION. The output rings: slots, header causes, header and group entry, freeing and discarding, and the zone checker's
copy of every group (spec/09_rejection_points.md R199 to R209, spec/14_safety.md R337).
-/
namespace Sys2Proof.Machine

def State.ring (s : State) (b : Nat) : Ring := Tab.get (fun _ => {}) s.out.rings b
def State.setRing (s : State) (b : Nat) (x : Ring) : State :=
  { s with out := { s.out with rings := Tab.put s.out.rings b x } }

/-- Slots of a bank's ring (R206). -/
def State.ringSize (s : State) (b : Nat) : Nat := 23 * s.fld F.BANK.RING_CFG.NTILE b

/-- Slots occupied. -/
def Ring.fill (x : Ring) : Nat := x.slots.foldl (fun a i => a + if i.hdr then 4 else 1) 0

/-- Slots that can still be written. -/
def State.ringRoom (s : State) (b : Nat) : Nat := s.ringSize b - ((s.ring b).head - (s.ring b).tail)

/-- State code of a port that is UP (R362). -/
def State.linkUp (s : State) (p : Nat) : Bool := s.fld F.LINK.STAT.STATE p == 3

/-- This device's chain position (R369). -/
def State.chainPos (s : State) : Nat := s.fld F.LINK.CHAIN.POS 2

/-- The port through which frames for host port o leave: in a chained device its port A (R371). -/
def State.portOf (s : State) (o : Nat) : Nat := if s.chainPos = 0 then o else 0

/-- Host ports that a bank's stream is routed to (R208). -/
def State.routed (s : State) (b : Nat) : List Nat :=
  [0, 1].filter (fun o => (s.act F.BANK.RING_CFG.ROUTE b).testBit o)

/-! ## Freeing (R208, R209) -/

/-- Slots acknowledged on every port that carries the stream; with none, every slot written. -/
def State.ringAcked (s : State) (b : Nat) : Nat :=
  let x := s.ring b
  let ps := (s.routed b).filter (fun o => s.linkUp (s.portOf o) && (Tab.find? x.acked o).isSome)
  ps.foldl (fun a o => min a (Tab.get (fun _ => 0) x.acked o)) x.head

/-- Free the slots that no port holds; discard mode ends where an acknowledgement brings FILL below half the ring (R209). -/
def State.ringFree (s : State) (b : Nat) (ack : Bool) : State :=
  let x := s.ring b
  let t := max x.tail (s.ringAcked b)
  if t = x.tail then s
  else
    let s := s.setRing b { x with tail := t, slots := x.slots.filter (fun i => decide (t ≤ i.pos)), lastFree := s.now }
    if ack && decide (2 * (s.ring b).fill < s.ringSize b) then s.setBit F.BANK.RING_STAT.DISC false b else s

/-- A host port no longer carries the streams: it holds no slot (R208, R364). -/
def State.ringLeave (s : State) (o b : Nat) : State :=
  (s.setRing b { s.ring b with sent := Tab.del (s.ring b).sent o, acked := Tab.del (s.ring b).acked o }).ringFree b false

/-- Point records are discarded: they count, and a rebase header with DISC follows (R209). -/
def State.ringDiscarded (s : State) (b n : Nat) : State :=
  let x := s.ring b
  ((s.setRing b { x with discard := x.discard + n, disc := true, rebase := true }).cnt F.BANK.OUT_CNT1.DISCARD n b).updBg
    (fun y => { y with discarded := y.discarded + n })

/-- Free the oldest items until n slots can be written (R209, discard mode). -/
def State.ringMakeRoom : Nat → State → Nat → Nat → State
  | 0, s, _, _ => s
  | k + 1, s, b, n =>
    if n ≤ s.ringRoom b then s
    else
      let x := s.ring b
      match x.slots with
      | [] => s
      | i :: t =>
        let next := match t with
          | [] => x.head
          | j :: _ => j.pos
        let up (l : Tab Nat) : Tab Nat := l.map (fun p => (p.1, max p.2 next))
        let s := s.setRing b { x with slots := t, tail := next, sent := up x.sent, acked := up x.acked, lastFree := s.now }
        let s := if i.hdr then s.ringDiscarded b 0 else s.ringDiscarded b 1
        State.ringMakeRoom k s b n

/-! ## Writing slots (R206) -/

/-- Write one slot: its two words, LAP and header marks in word 46, and word 47. -/
def State.writeSlot (s : State) (b : Nat) (r : Word × Word) (hdr : Bool) : State :=
  let x := s.ring b
  let n := s.ringSize b
  let q := x.head % n
  let tag := ctxTiles + s.fld F.BANK.RING_CFG.BASE b + q / 23
  let a := tileBase tag
  let k := q % 23
  let w := setBits (s.rdMem (a + 46)) 47 23 (x.head / n * 2)
  let s := ((s.wrMem (a + 2 * k) r.1).wrMem (a + 2 * k + 1) r.2).wrMem (a + 46) (setBits w k k (if hdr then 1 else 0))
  (s.reCrc tag).setRing b { x with head := x.head + 1 }

/-- An item enters: its slots, of which only the first may begin a header. -/
def State.writeItem (s : State) (b : Nat) (l : List (Word × Word)) (hdr : Bool) : State :=
  let x := s.ring b
  let s := s.setRing b { x with slots := x.slots ++ [{ pos := x.head, hdr := hdr, at_ := s.now }] }
  (l.foldl (fun (p : State × Bool) r => (p.1.writeSlot b r p.2, false)) (s, hdr)).1

/-! ## Headers (R203, R204) -/

def bankNums : List Nat := [0, 1, 2, 3]

/-- The 250,000-tick lead. -/
def hdrLead : Inst := 16 * 250000

/-- A cause of KIND k arises, with its new base if it has one; a KIND 3 cause leaves the instant H as it is, since held
instants move with the time word (R48). -/
def State.headerCause (s : State) (b k : Nat) (h : Option Inst) : State :=
  let x := s.ring b
  s.setRing b { x with causes := x.causes ++ [k], hNext := h.orElse (fun _ => x.hNext) }

/-- A time step of n ticks, or a renumbering (n = 0), on every stream: KIND 3, STEPPED, and the sum of steps. -/
def State.headerStep (s : State) (n : Int) : State :=
  forEach bankNums s (fun s b =>
    let s := s.headerCause b 3 none
    let x := s.ring b
    s.setRing b { x with stepped := true, step := x.step + n })

/-- Word of a header from four fields is assembled by addition of shifted values. -/
def State.headerWords (s : State) (b kind : Nat) (h : Inst) : List Word :=
  let x := s.ring b
  let t := tickOf h + s.clk.off
  let flag (c : Bool) (k : Nat) : Nat := if c then 2 ^ k else 0
  let w (n : Nat) : Word := BitVec.ofNat 48 n
  [ w (kind * 2 ^ 44 + b * 2 ^ 42 + s.fld F.STRIP.CTX_STAT.FRAME (6 * b) * 2 ^ 24 + s.fld F.BANK.OUT_CNT0.RECS b),
    timeWord t,
    w ((t / secTicks % 4294967296).toNat * 2 ^ 16 + flag x.disc 3 + flag (s.flag F.TIME.STAT.SUSPECT) 2 +
      flag x.stepped 1 + flag (s.flag F.TIME.PPS_STAT.PRESENT) 0),
    w (s.fld F.MIRR.H_MODEL0.AMP * 2 ^ 24 + s.fld F.MIRR.V_POS.P_MEAS),
    w (s.fld F.MIRR.H_MODEL1.FREQ * 2 ^ 16 + s.fld F.MIRR.SWEEP.COUNT % 65536),
    w (min x.closed 65535 * 2 ^ 32 + min x.starved 65535 * 2 ^ 16 + min x.discard 65535),
    w (unsigned 24 (clampI (-8388608) 8388607 x.step) * 2 ^ 24 + min x.skipped 16777215),
    w (s.dev.mode.code * 2 ^ 40 + s.act F.STRIP.CELL_CFG.K (6 * b) * 2 ^ 32 + s.fld F.BANK.WC_STAT.FLAG b) ]

/-- Words two by two. -/
def pairs : List Word → List (Word × Word)
  | a :: b :: t => (a, b) :: pairs t
  | _ => []

/-- Routed ports that are UP and do not carry the stream yet take it from the header about to enter (R208). -/
def State.ringJoin (s : State) (b : Nat) : State :=
  forEach ((s.routed b).filter (fun o => s.linkUp (s.portOf o) && (Tab.find? (s.ring b).acked o).isNone)) s (fun s o =>
    let x := s.ring b
    s.setRing b { x with sent := Tab.put x.sent o x.head, acked := Tab.put x.acked o x.head })

/-- A header enters with base h: its four slots, its counts, and a fresh start of what headers count (R203). -/
def State.enterHeader (s : State) (b kind : Nat) (h : Inst) : State :=
  let s := (s.ringJoin b).writeItem b (pairs (s.headerWords b kind h)) true
  let s := s.cnt F.BANK.OUT_CNT0.HDRS 1 b
  let s := if kind = 2 then s.cnt F.BANK.OUT_CNT2.REBASE 1 b else s
  let x := s.ring b
  (s.setRing b { x with base := some h, causes := [], hNext := none, closed := 0, starved := 0, discard := 0, step := 0
                        skipped := 0, disc := false, stepped := false, rebase := false, moved := false
                        waitAt := if x.groups.isEmpty then none else x.waitAt }).ringFree b false

/-- The rebase header that a ring set up anew begins with, before the header of a boundary: that header's causes stay for it
(R206). -/
def State.enterFirst (s : State) (b : Nat) (h : Inst) : State :=
  let x := s.ring b
  let s := s.enterHeader b 2 h
  s.setRing b { s.ring b with causes := x.causes, hNext := x.hNext, stepped := x.causes.contains 3 }

/-- T_pt lies before h, or 2^24 ticks or more after it (R204). -/
def offBase (pt h : Inst) : Bool := decide (tickOf pt < tickOf h ∨ tickOf h + 16777216 ≤ tickOf pt)

/-! ## Zone checker (R337) -/

/-- Whether a record's row and column lie in a zone. -/
def State.inZone (s : State) (z col row : Nat) : Bool :=
  s.flag F.SAFE.ZONE_A.EN z &&
  decide (s.fld F.SAFE.ZONE_A.C0 z ≤ col ∧ col ≤ s.fld F.SAFE.ZONE_A.C1 z ∧
    s.fld F.SAFE.ZONE_A.R0 z ≤ row ∧ row ≤ s.fld F.SAFE.ZONE_A.R1 z)

/-- A record qualifies for a zone: a point record by its fields, a status record by STARVED and SHOTS with STV = 0. -/
def State.zoneHit (s : State) (z shots : Nat) (r : Word × Word) : Bool :=
  let col := bits r.1 15 6
  let row := bits r.1 5 0
  s.inZone z col row &&
  if bits r.2 23 22 = 3 then
    !s.flag F.SAFE.ZONE_A.STV z && r.2.getLsbD 16 && decide (shots < s.fld F.SAFE.ZONE_C.MIN_SHOTS z)
  else
    decide (s.fld F.SAFE.ZONE_B.RMIN z ≤ bits r.1 47 28 ∧ bits r.1 47 28 ≤ s.fld F.SAFE.ZONE_B.RMAX z) &&
    decide (s.fld F.SAFE.ZONE_A.CONF_MIN z ≤ bits r.2 15 8) &&
    bits r.2 21 16 &&& s.fld F.SAFE.ZONE_A.EXCL z == 0

/-- The zone checker's copy of a group as it enters. -/
def State.zoneCheck (s : State) (g : OutGrp) (recs : List (Word × Word)) : State :=
  let zs := (List.range 8).filter (fun z => recs.any (s.zoneHit z g.shots))
  let new := (zs.map (fun z => (z, g.frame))).filter (fun p => !s.dome.hits.contains p)
  { s with dome := { s.dome with hits := s.dome.hits ++ new } }

/-! ## Window-contamination monitor (R210) -/

/-- One row of the window-contamination monitor at its interval end (R210). -/
def State.wcRow (s : State) (b i : Nat) : State :=
  let ev := Tab.get (fun _ => 0) s.wc.ev (12 * b + i)
  let parts := Tab.get (fun _ => 0) s.wc.parts (12 * b + i)
  let s := (s.setFld F.BANK.WC_LVL.EVENTS (min 65535 ev) b i).setFld F.BANK.WC_LVL.PARTS (min 65535 parts) b i
  let s := { s with wc := { s.wc with ev := Tab.del s.wc.ev (12 * b + i), parts := Tab.del s.wc.parts (12 * b + i) } }
  if parts = 0 then s
  else
    let l := min 65535 (256 * ev / parts)
    let s := s.setFld F.BANK.WC_LVL.LEVEL l b i
    if s.act F.BANK.WC_CFG.WC_SET b ≤ l then s.orBit F.BANK.WC_STAT.FLAG i b
    else if l < s.act F.BANK.WC_CFG.WC_CLR b then s.clrBit F.BANK.WC_STAT.FLAG i b
    else s

/-- The interval of a bank's monitor ends if it is due. -/
def State.wcEnd (s : State) (b : Nat) : State :=
  let t : Inst := Tab.get (fun _ => 0) s.wc.begin_ b
  if s.due (t + (max 1 (s.act F.BANK.WC_CFG.WC_IVL b) : Nat) * ms) then
    let s := forEach (List.range 12) s (fun s i => s.wcRow b i)
    { s with wc := { s.wc with begin_ := Tab.put s.wc.begin_ b s.now } }
  else s

/-! ## Groups (R200, R205, R207) -/

/-- The output unit completes one record of a group whose base is h. -/
def State.fillRec (s : State) (b : Nat) (g : OutGrp) (h : Inst) (late : Bool) (r : Word × Word) : Word × Word :=
  let col := g.tile % 2048 / 2
  let row := 2 * (g.tile / 2048) + g.tile % 2
  let wc := s.bit F.BANK.WC_STAT.FLAG (row - 12 * b) b
  let w0 := setBits r.1 15 0 (col * 64 + row)
  let w1 := setBits r.2 47 24 (tickOf g.tpt - tickOf h).toNat
  let w1 := if g.starved then setBits w1 16 16 1 else w1
  let w1 := if wc then setBits w1 18 18 1 else w1
  (w0, if late then setBits w1 17 17 1 else w1)

/-- A group enters whole under base h. -/
def State.enterGroup (s : State) (b : Nat) (g : OutGrp) (h : Inst) : State :=
  let late := decide (225000 < (s.raw : Int) - tickOf g.tpt)
  let recs := g.recs.map (s.fillRec b g h late)
  let s := s.zoneCheck g recs
  let s := recs.foldl (fun s r => s.writeItem b [r] false) s
  let s := (s.cnt F.BANK.OUT_CNT0.RECS recs.length b).updBg (fun x => { x with points := x.points + recs.length })
  let s := if late then s.cnt F.BANK.OUT_CNT1.LATE recs.length b else s
  (s.cnt F.BANK.OUT_CNT1.STATUS (recs.filter (fun r => bits r.2 23 22 == 3)).length b).ringFree b false

/-- The CUPD of a cell completes: the current cell ends, and its close is no longer open for the zone checker. -/
def State.cupdDone (s : State) (c tile : Nat) : State :=
  let s := s.cnt F.RTL.STAT.CELLS 1 (c - 4)
  let s := s.setCore c { s.core c with cell := none, wait := .none }
  { s with dome := { s.dome with lastCupd := s.now, closes := s.dome.closes.filter (fun p => p.1 != tile) } }

/-- The first waiting group lies off the base in force (R204, KIND 2). -/
def Ring.off (x : Ring) (g : OutGrp) : Bool :=
  match x.base with
  | some h => offBase g.tpt h
  | none => true

/-- A header of a frame or half-frame boundary is due: it does not wait for a group. -/
def Ring.bounded (x : Ring) : Bool := x.causes.any (fun k => decide (k < 2))

/-- The causes of the header that must enter next. A KIND 3 cause waits for the next record, so that one header serves every
cause that arises before it; a discard or a group off the base adds KIND 2 (R204, R209). -/
def Ring.kinds (x : Ring) : List Nat :=
  match x.groups with
  | g :: _ => if x.rebase || x.off g then x.causes ++ [2] else x.causes
  | [] => if x.bounded then x.causes else []

/-- A ring set up anew takes a rebase header before the header of a boundary (R206). -/
def Ring.twice (x : Ring) : Bool := x.moved && x.bounded

/-- Slots that the headers due take, and with them the first group. -/
def Ring.hdrSlots (x : Ring) : Nat := if x.kinds.isEmpty then 0 else if x.twice then 8 else 4
def Ring.need (x : Ring) : Nat := x.hdrSlots + (x.groups.head?.elim 0 (fun g => g.recs.length))

/-- Something waits for room since now. -/
def State.ringWait (s : State) (b : Nat) : State :=
  let x := s.ring b
  match x.waitAt with
  | some _ => s
  | none => s.setRing b { x with waitAt := some s.now }

/-- In discard mode the oldest items make room for what waits and for the rebase header that a discard calls for (R209). -/
def State.ringDiscard (s : State) (b : Nat) : State :=
  let x := s.ring b
  let n := x.groups.head?.elim x.need (fun g => max x.need (4 + g.recs.length))
  if s.flag F.BANK.RING_STAT.DISC b && decide (s.ringRoom b < x.need) then State.ringMakeRoom x.slots.length s b n else s

/-- Replace h by the group's own base where the group would not fit it. -/
def fitBase (g : Option OutGrp) (h : Option Inst) : Option Inst :=
  match g, h with
  | some g, some h => some (if offBase g.tpt h then g.tpt - hdrLead else h)
  | some g, none => some (g.tpt - hdrLead)
  | none, h => h

/-- The new H of the header due: the latest boundary's, fitted to the group; where no boundary is a cause, the group's own
for KIND 2, and the base in force for KIND 3 (R204). -/
def Ring.newBase (x : Ring) : Option Inst :=
  match x.groups.head?, x.hNext with
  | some g, none => if x.rebase || x.off g then some (g.tpt - hdrLead) else x.base
  | g, h => fitBase g (h.orElse (fun _ => x.base))

/-- The header due enters ahead of the first group: a boundary's as soon as it has room itself, another with its group; its
KIND is the lowest among its causes (R204, R209). -/
def State.ringHeader (s : State) (b : Nat) : State :=
  let x := s.ring b
  match x.kinds, x.newBase with
  | k :: t, some h =>
    if s.ringRoom b < (if x.bounded then x.hdrSlots else x.need) then s.ringWait b
    else if x.twice then
      (s.enterFirst b ((x.groups.head?.map (fun g => g.tpt - hdrLead)).getD h)).enterHeader b (x.causes.foldl min k) h
    else s.enterHeader b (t.foldl min k) h
  | _, _ => s

/-- The first waiting group enters if no header must still precede it and there is room. A window interval that ends in this
tick ends first (R221). -/
def State.ringGroup (s : State) (b : Nat) : State :=
  let s := s.wcEnd b
  let x := s.ring b
  match x.groups, x.base with
  | g :: t, some h =>
    if !x.kinds.isEmpty then s
    else if s.ringRoom b < g.recs.length then s.ringWait b
    else
      let s := s.setRing b { x with groups := t, waitAt := if t.isEmpty then none else x.waitAt }
      let s := s.enterGroup b g h
      match g.core with
      | some c => s.cupdDone c g.tile
      | none => s
  | _, _ => s

/-- What waits enters in order: the header, then the group. -/
def State.ringEntry (s : State) (b : Nat) : State := ((s.ringDiscard b).ringHeader b).ringGroup b

/-- Counts for the next header: a close of a cell of the bank, a skipped part (R203). -/
def State.ringClosed (s : State) (b : Nat) (starved : Bool) : State :=
  let x := s.ring b
  s.setRing b { x with closed := x.closed + 1, starved := x.starved + if starved then 1 else 0 }
def State.ringSkipped (s : State) (b : Nat) : State :=
  s.setRing b { s.ring b with skipped := (s.ring b).skipped + 1 }

end Sys2Proof.Machine
end

