-- ==== Sys2Proof/Machine/Net.lean ====
section
/-!
DEFINITION. Gloelink below the requests: frames, credits, sequencing, events, ports going down and up, the chain map,
mailboxes and semaphores (spec/15_gloelink.md R354 to R364, R369 to R382).
-/
namespace Sys2Proof.Machine

def State.port (s : State) (p : Nat) : Port := Tab.get (fun _ => {}) s.net.ports p
def State.setPort (s : State) (p : Nat) (x : Port) : State :=
  { s with net := { s.net with ports := Tab.put s.net.ports p x } }
def State.updPort (s : State) (p : Nat) (f : Port → Port) : State := s.setPort p (f (s.port p))

/-- Ports A, B and C. -/
def portNums : List Nat := [0, 1, 2]

/-! ## Frames (R354, R355) -/

def tREG_RD : Nat := 0x01
def tREG_WR : Nat := 0x02
def tMEM_RD : Nat := 0x03
def tMEM_WR : Nat := 0x04
def tRESP : Nat := 0x05
def tERR : Nat := 0x06
def tPOINT : Nat := 0x08
def tHDR : Nat := 0x09
def tEVENT : Nat := 0x0A
def tMBX : Nat := 0x0B
def tSEM : Nat := 0x0C
def tFLOW : Nat := 0x0D
def tTRAIN : Nat := 0x0E
def tCHAIN : Nat := 0x0F

/-- Fields of a frame's header word. -/
def frType (f : List Word) : Nat := bits (f.getD 0 0) 47 40
def frSeq (f : List Word) : Nat := bits (f.getD 0 0) 39 33
def frOrig (f : List Word) : Nat := bits (f.getD 0 0) 32 32
def frHop (f : List Word) : Nat := bits (f.getD 0 0) 31 30
def frLen (f : List Word) : Nat := bits (f.getD 0 0) 29 24
def frTs (f : List Word) (hi lo : Nat) : Nat := bits (f.getD 0 0) hi lo
/-- RID of a request. -/
def frRid (f : List Word) : Nat := frTs f 23 16

/-- A frame of this device: HOP is its position (R371). -/
def State.frame (s : State) (typ orig ts : Nat) (body : List Word) : List Word :=
  BitVec.ofNat 48 (typ * 2 ^ 40 + orig * 2 ^ 32 + s.chainPos * 2 ^ 30 + body.length * 2 ^ 24 + ts) :: body

/-- The device sends frames on a lane: AV and ACK acknowledge what it has accepted, NAK goes with them if one is owed (R353, R359,
R360). What the lane has sent before, idle blocks included, is a free value. -/
def State.emit (s : State) (p : Nat) (frames : List (List Word)) : State :=
  s.updPort p (fun x =>
    let r := BitVec.ofNat 58 (Config.free .lineBits (3 * x.txN + p))
    let tag := tagMake x.av (if x.av then x.rxSeq + 127 else 0) x.nakOwed
    { x with tx := ⟨r, lineBlocks r.toNat (frames.flatMap (frameBlocks tag))⟩, txN := x.txN + 1, nakOwed := false })

/-- The TRAIN frame of a port: PART, ROLE, POS and RXOK, then SERIAL (R355, R356). -/
def State.trainFrame (s : State) (p : Nat) : List Word :=
  let x := s.port p
  s.frame tTRAIN 0 0
    [BitVec.ofNat 48 (0x4896 * 2 ^ 32 + (if p = 2 then 2 else 1) * 2 ^ 30 + s.chainPos * 2 ^ 28 + n1 (x.lock && x.trained) * 2),
      BitVec.ofNat 48 (s.fuses.serial % 2 ^ 24)]

/-- The FLOW frame of a port: 16 class 0 and 8 class 1 buffers, and what has been freed (R355, R361). -/
def State.flowFrame (s : State) (p : Nat) : List Word :=
  let x := s.port p
  s.frame tFLOW 0 (16 * 2 ^ 8 + 8) [BitVec.ofNat 48 (x.freed0 * 2 ^ 16 + x.freed1)]

/-- A port in TRAIN sends TRAIN frames back to back (R362). -/
def State.sendTrain (s : State) (p : Nat) : State :=
  if s.fld F.LINK.STAT.STATE p = 1 then s.emit p [s.trainFrame p] else s

/-- A port in CREDIT or UP sends a FLOW frame (R361, R362). -/
def State.sendFlow (s : State) (p : Nat) : State :=
  (s.updPort p (fun x => { x with flowAt := s.now })).emit p [s.flowFrame p]

/-- The frame types and lengths that R355 lists for the host and chain frames this device may receive. -/
def reqType (t : Nat) : Bool := t = tREG_RD || t = tREG_WR || t = tMEM_RD || t = tMEM_WR || t = tMBX || t = tSEM

/-- A RESP from a chained device answers a forwarded MEM_RD. -/
def State.answersMemRd (s : State) (f : List Word) : Bool :=
  frType f == tRESP && s.net.fwd.contains (frOrig f, frHop f, frRid f)

/-- Class of a received frame (R355). -/
def State.frClass (s : State) (f : List Word) : Nat :=
  if frType f = tMEM_WR || frType f = tPOINT || frType f = tHDR || s.answersMemRd f then 1 else 0

/-! ## Sending (R358, R359, R361) -/

/-- A frame of class c may begin. -/
def State.canSend (s : State) (p c : Nat) : Bool :=
  let x := s.port p
  s.linkUp p && decide (x.unacked.length < 64) &&
  if c = 0 then decide ((x.sent0 + 65536 - x.pFreed0) % 65536 < s.fld F.LINK.CREDIT.P_BUF0 p)
  else decide ((x.sent1 + 65536 - x.pFreed1) % 65536 < s.fld F.LINK.CREDIT.P_BUF1 p)

/-- Frames sent in the last ms, with one more of n words and its trailer. -/
def State.logFrame (s : State) (x : Port) (n : Nat) : Port :=
  { x with log := (x.log.filter (fun e => decide (s.now - ms < e.1))) ++ [(s.now, n + 1)] }

/-- First transmission of a frame: it takes the next sequence number and a credit of its class. -/
def State.sendNow (s : State) (p : Nat) (f : TxF) : State :=
  let x := s.port p
  let f := { f with seq := x.txSeq, words := match f.words with
                                            | h :: t => setBits h 39 33 x.txSeq :: t
                                            | [] => [] }
  let x := s.logFrame x f.words.length
  let x := { x with unacked := x.unacked ++ [f], txSeq := (x.txSeq + 1) % 128
                    oldAt := if x.unacked.isEmpty then s.now else x.oldAt
                    sent0 := if f.cls = 0 then (x.sent0 + 1) % 65536 else x.sent0
                    sent1 := if f.cls = 0 then x.sent1 else (x.sent1 + 1) % 65536 }
  ((s.setPort p x).emit p [f.words]).cnt F.LINK.TRAFFIC.TXFR 1 p

/-- A queued frame comes from or goes to another device of the chain (R371): its HOP names that device. -/
def State.fromC (s : State) (f : TxF) : Bool := frHop f.words != s.chainPos

/-- An accepted frame of class c has been consumed (R361). -/
def State.freed (s : State) (p c : Nat) : State :=
  if s.linkUp p then
    s.updPort p (fun x => if c = 0 then { x with freed0 := (x.freed0 + 1) % 65536 }
                          else { x with freed1 := (x.freed1 + 1) % 65536 })
  else s

/-- A frame that was only passing through leaves, or is dropped: the buffer that held it is free (R361, R371). -/
def State.passed (s : State) (p : Nat) (f : TxF) : State :=
  if s.fromC f then s.freed (if p = 2 then s.portOf (frOrig f.words) else 2) f.cls else s

/-- The first unsent slot of a stream on a host port, and what it begins: a header, or a run of records with the entry
instant of the first. -/
def State.unsent (s : State) (b o : Nat) : List Slot2 :=
  let x := s.ring b
  match Tab.find? x.sent o with
  | some q => x.slots.filter (fun i => decide (q ≤ i.pos))
  | none => []

/-- The records that stand next on a port in adjacent slots from slot q on, up to a header or a number of them. -/
def recordRun : List Slot2 → Nat → Nat → List Slot2
  | [], _, _ => []
  | _, _, 0 => []
  | i :: t, q, n + 1 => if i.hdr || i.pos != q then [] else i :: recordRun t (q + 1) n

/-- A POINT or HDR frame of bank b is due on host port o (R357). -/
def State.streamReady (s : State) (b o : Nat) : Bool :=
  match s.unsent b o with
  | [] => false
  | i :: t => i.hdr || decide ((recordRun (i :: t) i.pos 31).length = 31) || decide (i.at_ + 40000 ≤ s.now)

/-- Some stream has a frame due on port p. -/
def State.ringDue (s : State) (p : Nat) : Bool :=
  bankNums.any (fun b => (s.routed b).any (fun o => s.portOf o == p && s.streamReady b o))

/-- An answer to a request waits for the answers to earlier requests that are queued in the other class (R366). -/
def TxF.inTurn (f : TxF) (others : List TxF) : Bool :=
  f.ans == 0 || others.all (fun g => g.ans == 0 || decide (f.ans < g.ans))

/-- One queued frame that may leave now leaves: class 0 first; a class 1 frame from port C leaves the turn to the local
ring when it had the last one (R358, R371). -/
def State.pumpOne (s : State) (p : Nat) : Option State :=
  let x := s.port p
  match x.q0 with
  | f :: t =>
    if s.canSend p 0 && f.inTurn x.q1 then some (((s.setPort p { x with q0 := t }).sendNow p f).passed p f)
    else pump1 s x
  | [] => pump1 s x
where
  pump1 (s : State) (x : Port) : Option State :=
    match x.q1 with
    | f :: t =>
      if s.canSend p 1 && f.inTurn x.q0 && !(s.fromC f && x.lastC && s.ringDue p) then
        some (((s.setPort p { x with q1 := t, lastC := s.fromC f }).sendNow p f).passed p f)
      else none
    | [] => none

/-- Queued frames leave while their class has credit. -/
def State.pumpN : Nat → State → Nat → State
  | 0, s, _ => s
  | n + 1, s, p =>
    match s.pumpOne p with
    | some t => State.pumpN n t p
    | none => s
def State.pump (s : State) (p : Nat) : State := s.pumpN ((s.port p).q0.length + (s.port p).q1.length) p

/-- A frame is queued on a port that is UP; one for a port that is not is dropped (R364). -/
def State.enqueue (s : State) (p : Nat) (f : TxF) : State :=
  if s.linkUp p then
    (s.updPort p (fun x => if f.cls = 0 then { x with q0 := x.q0 ++ [f] } else { x with q1 := x.q1 ++ [f] })).pump p
  else s.passed p f

/-- Queue a frame of a class. -/
def State.queueFrame (s : State) (p c : Nat) (words : List Word) : State := s.enqueue p { cls := c, words := words }

/-- Queue the answer to a request: answers leave in the order of their requests (R366). -/
def State.queueAnswer (s : State) (p c : Nat) (words : List Word) : State :=
  (s.updPort p (fun x => { x with ansN := x.ansN + 1 })).enqueue p { cls := c, words := words, ans := (s.port p).ansN + 1 }

/-! ## Events (R382) -/

/-- ORIG of a frame of this device that is sent on port p: at the head the port itself; in a chained device the head's port
A (log entry 42). -/
def State.origOf (s : State) (p : Nat) : Nat := if s.chainPos = 0 ∧ p = 1 then 1 else 0

/-- An EVENT frame on one port. -/
def State.eventOn (s : State) (p orig code : Nat) (body : List Word) : State :=
  s.queueFrame p 0 (s.frame tEVENT orig (code * 2 ^ 16) body)

/-- An EVENT frame to every port that is UP and has bit k of EV_EN set; the second answer is false where none was. -/
def State.sendEvent (s : State) (code k : Nat) (body : List Word) : State × Bool :=
  let ps := portNums.filter (fun p => s.linkUp p && s.bit F.LINK.CTRL.EV_EN k p)
  (forEach ps s (fun s p => s.eventOn p (s.origOf p) code body), !ps.isEmpty)

/-- EVENT PORT. -/
def State.portEvent (s : State) : State := (s.sendEvent 6 5 [s.linkStat 0, s.linkStat 1, s.linkStat 2]).1
/-- EVENT MODE (R294). -/
def State.modeEvent (s : State) : State := (s.sendEvent 1 0 [s.modeStat]).1
/-- EVENT FAULT. -/
def State.faultEvent (s : State) : State := (s.sendEvent 2 1 [s.fltWord, s.degStat]).1

/-! ## The chain map (R370) -/

/-- PRESENT of this device: itself and what lies below it. -/
def State.present (s : State) : Nat := s.net.below ||| (1 <<< s.chainPos)

/-- PRESENT is shown, and sent up port A of a chained device when it has changed or must be told anew. -/
def State.chainUpdate (s : State) (tell : Bool) : State :=
  let v := s.present
  let changed := decide (v ≠ s.net.sentPresent)
  let s := s.setFld F.LINK.CHAIN.PRESENT v 2
  if s.chainPos != 0 && (tell || changed) && s.linkUp 0 then
    { s with net := { s.net with sentPresent := v } }.queueFrame 0 0 (s.frame tCHAIN 0 0 [BitVec.ofNat 48 v])
  else s

/-! ## Mailboxes (R377 to R380) -/

def State.mbx (s : State) (m : Nat) : Mbx := Tab.get (fun _ => {}) s.net.mbx m
def State.setMbx (s : State) (m : Nat) (x : Mbx) : State :=
  { s with net := { s.net with mbx := Tab.put s.net.mbx m x } }

/-- A DOORBELL (code 4) or an ACK (code 5) notice to a host target, now or when its port comes UP. -/
def State.notice (s : State) (m code tgt : Nat) : State :=
  if tgt = 1 || tgt = 2 then
    let p := s.portOf (tgt - 1)
    if s.linkUp p then
      s.eventOn p (tgt - 1) code
        (if code = 4 then [BitVec.ofNat 48 m, (s.mbx m).msg.getD 0 0] else [BitVec.ofNat 48 m])
    else
      let x := s.mbx m
      s.setMbx m (if code = 4 then { x with dbDue := true } else { x with ackDue := true })
  else s

/-- Place a message from an accessor; a full mailbox refuses (R377, R378). The answer says whether it was placed. -/
def State.mbxPlace (s : State) (m sender : Nat) (msg : List Word) : State × Bool :=
  if (s.mbx m).msg.isEmpty then
    let s := (s.cnt F.MBX.CNT.SEQ 1 m).cnt F.MBX.CNT.PLACED 1 m
    let w0 := setBits (msg.getD 0 0) 47 24 (sender * 65536 + s.fld F.MBX.CNT.SEQ m)
    let s := s.setMbx m { s.mbx m with msg := w0 :: msg.drop 1, at_ := s.now, dbDue := false }
    (s.notice m 4 (s.fld F.MBX.CFG.DB_TGT m), true)
  else (s.cnt F.MBX.CNT.FULL 1 m, false)

/-- Remove a mailbox's message (R378, R379). -/
def State.mbxTake (s : State) (m : Nat) : State := s.setMbx m { s.mbx m with msg := [], dbDue := false }

/-- ACK is set or cleared (R380). -/
def State.mbxSetAck (s : State) (m : Nat) (v : Bool) : State :=
  let t := s.setBit F.MBX.ACK.ACK v m
  if v then t.notice m 5 (s.fld F.MBX.CFG.ACK_TGT m) else t.setMbx m { t.mbx m with ackDue := false }

/-- The MBX event of a core (R380). -/
def State.mbxPending (s : State) (c : Nat) : Bool :=
  (List.range 16).any (fun m =>
    (s.fld F.MBX.CFG.DB_TGT m == coreCode c && !(s.mbx m).msg.isEmpty) ||
    (s.fld F.MBX.CFG.ACK_TGT m == coreCode c && s.flag F.MBX.ACK.ACK m))

/-- The notices that waited for port p to come UP (R380). -/
def State.lateNotices (s : State) (p : Nat) : State :=
  forEach (List.range 16) s (fun s m =>
    let x := s.mbx m
    let here (t : Nat) : Bool := (t = 1 || t = 2) && s.portOf (t - 1) = p
    let s := if x.dbDue && here (s.fld F.MBX.CFG.DB_TGT m) then
      (s.setMbx m { s.mbx m with dbDue := false }).notice m 4 (s.fld F.MBX.CFG.DB_TGT m) else s
    if x.ackDue && here (s.fld F.MBX.CFG.ACK_TGT m) then
      (s.setMbx m { s.mbx m with ackDue := false }).notice m 5 (s.fld F.MBX.CFG.ACK_TGT m) else s)

/-! ## Semaphores (R372 to R375) -/

def State.sem (s : State) (n : Nat) : Sem := Tab.get (fun _ => {}) s.net.sems n
def State.setSem (s : State) (n : Nat) (x : Sem) : State :=
  { s with net := { s.net with sems := Tab.put s.net.sems n x } }

/-- A semaphore becomes free; each port marked as waiting for it gets a NOTICE, and the marks clear (R374). -/
def State.semRelease (s : State) (n : Nat) : State :=
  let x := s.sem n
  forEach x.wait (s.setSem n { x with owner := 0, wait := [] }) (fun s o =>
    s.queueFrame (s.portOf o) 0 (s.frame tSEM o (1 * 2 ^ 12 + n) []))

/-- Every semaphore of an owner becomes free (R374). -/
def State.semReleaseAll (s : State) (owner : Nat) : State :=
  forEach (List.range 32) s (fun s n => if owner != 0 && (s.sem n).owner == owner then s.semRelease n else s)

/-- The word of R388 as a reader with an accessor code sees it. -/
def State.semWord (s : State) (n reader : Nat) : Word :=
  let o := (s.sem n).owner
  BitVec.ofNat 48 (s.fld F.SEM.CLAIM.GRP n * 2 ^ 32 + s.fld F.SEM.CLAIM.BLK n * 2 ^ 16 +
    (if o ≠ 0 ∧ o ≠ reader then 256 else 0) + o)

/-- A claim (R373): the word read. -/
def State.semClaim (s : State) (n : Nat) (a : Accessor) : Word × State :=
  let x := s.sem n
  let c := accCode a
  if x.owner = 0 then (0, s.setSem n { x with owner := c })
  else if x.owner = c then (0, s)
  else
    let w := s.semWord n c
    if (c = 1 || c = 2) && !x.wait.contains (c - 1) then (w, s.setSem n { x with wait := x.wait ++ [c - 1] }) else (w, s)

/-- A write of SEM.CLAIMn: SETG first, then REL (R373, R388). -/
def State.semWrite (s : State) (n : Nat) (a : Accessor) (v : Word) : WRes :=
  if (s.sem n).owner = accCode a then
    let s := if v.getLsbD 1 then (s.setFld F.SEM.CLAIM.GRP (bits v 38 32) n).setFld F.SEM.CLAIM.BLK (bits v 31 16) n
             else s
    (if v.getLsbD 0 then s.semRelease n else s, none)
  else (s, some .semOwn)

/-! ## Ports going down and up (R362 to R364) -/

/-- Host ports whose frames leave through port p. -/
def State.hostsOf (s : State) (p : Nat) : List Nat := [0, 1].filter (fun o => s.portOf o == p && decide (p < 2))

/-- A port starts its bring-up afresh, or stays disabled. -/
def Port.restart (x : Port) : Port :=
  { x with good := 0, trained := false, unacked := [], q0 := [], q1 := [], rxq := [], nakOwed := false, nakOk := true, tmo := 0
           freed0 := 0, freed1 := 0, av := false, replayAt := none, tx := ⟨0, []⟩ }

/-- A port enters TRAIN: SLEW and DEEMPH take effect, above 12 as 12, and the equaliser adapts unless EQ_HOLD keeps its settings
(R352, R362). -/
def State.startTrain (s : State) (p : Nat) : State :=
  let x := (s.port p).restart
  let x := { x with slew := s.fld F.LINK.PHY_CFG.SLEW p, deemph := min 12 (s.fld F.LINK.PHY_CFG.DEEMPH p), trainN := x.trainN + 1
                    eq := if s.flag F.LINK.PHY_CFG.EQ_HOLD p then x.eq else Config.free .equaliser (3 * x.trainN + p) }
  ((s.setPort p x).setFld F.LINK.STAT.STATE 1 p).sendTrain p

/-- A port goes down for a cause of R363 and, but for cause 6, re-enters TRAIN; leaving UP has the effects of R364. -/
def State.portDown (s : State) (p cause : Nat) : State :=
  let st := s.fld F.LINK.STAT.STATE p
  let x := s.port p
  let x := if cause = 1 then { x.restart with lock := false } else x.restart
  let x := if st = 3 then { x with downAt := s.now } else x
  let hosts := s.hostsOf p
  let held := (s.port p).q0 ++ (s.port p).q1
  let s := s.setPort p x
  let s := if cause = 6 then s.setFld F.LINK.STAT.STATE 0 p else s.startTrain p
  let s := held.foldl (fun s f => s.passed p f) s
  let s := if 2 ≤ st then s.setFld F.LINK.STAT.DN_CAUSE cause p else s
  if st = 3 then
    let s := hosts.foldl (fun s o => forEach bankNums s (fun s b => s.ringLeave o b)) s
    let s := if p = 2 then { s with net := { s.net with below := 0 } } else s
    s.portEvent.chainUpdate false
  else s

/-- A port enters UP (R362): sequence numbers start at 0, credits at the partner's FLOW. -/
def State.portUp (s : State) (p freed0 freed1 : Nat) : State :=
  let x := s.port p
  let s := s.setPort p { x.restart with txSeq := 0, rxSeq := 0, sent0 := 0, sent1 := 0, trained := x.trained, tx := x.tx
                                        pFreed0 := freed0, pFreed1 := freed1, lastC := false, flowAt := s.now }
  let s := (s.setFld F.LINK.STAT.STATE 3 p).cnt F.LINK.STAT.UPCNT 1 p
  let s := (s.setFld F.LINK.STAT.P_ROLE x.role p).setFld F.LINK.STAT.P_POS x.pos p
  let s := if p = 0 ∧ x.role = 2 then s.setFld F.LINK.CHAIN.POS (x.pos + 1) 2
           else if p < 2 ∧ x.role = 0 then s.setFld F.LINK.CHAIN.POS 0 2 else s
  (s.portEvent.chainUpdate (p == 0)).lateNotices p

/-- Every port that is enabled begins bring-up (R308, R363). -/
def State.portsBringUp (s : State) : State :=
  forEach portNums s (fun s p =>
    if s.flag F.LINK.CTRL.EN p && s.fld F.LINK.STAT.STATE p == 0 then
      s.startTrain p
    else s)

/-- An LPLL relock or divider shift takes every enabled port down (R34, R39, R363 cause 5). -/
def State.portsDown (s : State) : State :=
  forEach portNums s (fun s p => if s.fld F.LINK.STAT.STATE p != 0 then s.portDown p 5 else s)

/-- The ports stop with the clocks: reset and FROZEN (R317, R322, R363). -/
def State.portsStop (s : State) : State :=
  forEach portNums s (fun s p =>
    let st := s.fld F.LINK.STAT.STATE p
    let s := s.updPort p (fun x => if st = 3 then { x.restart with downAt := s.now } else x.restart)
    let s := (s.hostsOf p).foldl (fun s o => forEach bankNums s (fun s b => s.ringLeave o b)) s
    let s := if p = 2 then { s with net := { s.net with below := 0 } } else s
    (s.setFld F.LINK.STAT.STATE 0 p).chainUpdate false)

/-! ## Receiving (R359, R360) -/

/-- What becomes of a sequenced frame's number: it is the expected one, a duplicate, or another. -/
def State.rxAccept (s : State) (p : Nat) (f : List Word) (act : State → State) : State :=
  let x := s.port p
  let d := (x.rxSeq + 128 - frSeq f) % 128
  if !s.linkUp p then s
  else if d = 0 then
    act ((s.setPort p { x with rxSeq := (x.rxSeq + 1) % 128, nakOk := true, av := true }).cnt F.LINK.TRAFFIC.RXFR 1 p)
  else if d ≤ 64 then s.cnt F.LINK.ERR_CNT0.DUP 1 p
  else s.setPort p { x with nakOwed := x.nakOwed || x.nakOk, nakOk := false }

/-- The partner's acknowledgement of everything up to a number (R359): frames are released, and ring slots with them. -/
def State.release (s : State) (p n : Nat) : State :=
  let x := s.port p
  match x.unacked with
  | [] => s
  | f :: _ =>
    let k := (n + 1 + 128 - f.seq) % 128
    if !s.linkUp p || k = 0 || x.unacked.length < k then s
    else
      let done := x.unacked.take k
      let s := s.setPort p { x with unacked := x.unacked.drop k, tmo := 0, oldAt := s.now }
      done.foldl (fun s f =>
        match f.ring with
        | some (b, q) =>
          let r := s.ring b
          let o := frOrig f.words
          if (Tab.find? r.acked o).isSome then
            (s.setRing b { r with acked := Tab.put r.acked o (max q (Tab.get (fun _ => 0) r.acked o)) }).ringFree b true
          else s
        | none => s) s

/-- Resend every unacknowledged frame, once in a tick (R360, R385). -/
def State.replay (s : State) (p : Nat) : State :=
  let x := s.port p
  if x.replayAt = some s.now ∨ x.unacked = [] then s
  else
    let n := x.unacked.length
    let y := x.unacked.foldl (fun x f => s.logFrame x f.words.length) x
    ((s.setPort p { y with oldAt := s.now, replayAt := some s.now }).emit p (x.unacked.map TxF.words)).cnt F.LINK.ERR_CNT1.REPLAY n p

end Sys2Proof.Machine
end

