-- ==== Sys2Proof/Machine/Clocks.lean ====
section
/-!
DEFINITION. The reference, the PLLs, divider synchronisation, spread spectrum, the time word with its PPS alignment, and the
frequency-measurement unit (spec/02_time_and_clocks.md).
-/
namespace Sys2Proof.Machine

/-- An event that reaches a clocked device; in reset and in FROZEN it has no effect (log entry 5). -/
def whenLive (s : State) (f : State → State) : Out := .next (if s.live then f s else s)

/-- An event that reaches the PLLs and the always-on domain, which FROZEN does not stop (R30, R322). -/
def whenOn (s : State) (f : State → State) : Out := .next (if s.dev.inReset then s else f s)

/-- An event that has its effect only where its conditions hold (log entry 5). -/
def onlyIf (c : Bool) (s : State) (f : State → State) : State := if c then f s else s

/-! ## Reference and PLLs -/

def pllLock : Pll → Fld
  | .tpll => F.TIME.PLL_STAT.TPLL_LOCK | .spll => F.TIME.PLL_STAT.SPLL_LOCK | .lpll => F.TIME.PLL_STAT.LPLL_LOCK
def pllLol : Pll → Fld
  | .tpll => F.TIME.PLL_STAT.TPLL_LOL | .spll => F.TIME.PLL_STAT.SPLL_LOL | .lpll => F.TIME.PLL_STAT.LPLL_LOL
def pllBand : Pll → Fld
  | .tpll => F.TIME.PLL_STAT.TPLL_BAND | .spll => F.TIME.PLL_STAT.SPLL_BAND | .lpll => F.TIME.PLL_STAT.LPLL_BAND
def pllReport : Pll → Report
  | .tpll => .tpll | .spll => .spll | .lpll => .lpll
def Clk.acq (k : Clk) : Pll → Bool
  | .tpll => k.acqT | .spll => k.acqS | .lpll => k.acqL
def Clk.setAcq (k : Clk) (b : Bool) : Pll → Clk
  | .tpll => { k with acqT := b } | .spll => { k with acqS := b } | .lpll => { k with acqL := b }

/-- REFCLK_LOSS: REF_LOSS and SUSPECT set, and the loss is reported (R30, R333). -/
def execRefclkLoss (absent : Bool) (s : State) : Out :=
  whenOn s fun s =>
    let s := (s.setBit F.TIME.PLL_STAT.REF_LOSS true).setBit F.TIME.STAT.SUSPECT true
    ({ s with clk := { s.clk with refAbsent := absent } }).report .ref

/-- A core that waits for a time word while the time word stands at 0 waits for that many ticks from its start. -/
def Core.timeStarts (x : Core) (d : Inst) : Core :=
  match x.wait with
  | .time t => { x with wait := .time (t + d) }
  | _ => x

/-- The time word and the epoch count start from 0 at the first TPLL lock after reset, with SUSPECT clear (R46). -/
def State.startTime (s : State) : State :=
  if s.clk.timeRun then s
  else
    let s := { s with cores := s.cores.map (fun (p : Nat × Core) => (p.1, p.2.timeStarts s.now)) }
    ({ s with clk := { s.clk with timeRun := true, off := -(s.raw : Int) } }).setBit F.TIME.STAT.SUSPECT false

/-- At every TPLL lock the relation of phase 0 to REFCLK is established again: which tick of each 25 then follows the REFCLK
edge is free (R36, log entry 123). -/
def State.alignRef (s : State) : State :=
  { (s.takeFree .refEdge).2 with clk := { s.clk with refRes := (s.takeFree .refEdge).1 % 25 } }

/-- PLL_LOCK: LOCK sets; an acquisition also reports its band (R32); a PLL that re-acquires keeps its band (R33). -/
def execPllLock (p : Pll) (band : BitVec 6) (s : State) : Out :=
  whenOn s fun s => onlyIf (!s.flag (pllLock p)) s fun s =>
    let acq := s.clk.acq p
    let s := s.setBit (pllLock p) true
    let s := if acq then s.setFld (pllBand p) band.toNat else s
    let s := { s with clk := { s.clk.setAcq false p with refAbsent := false } }
    match p with
    | .tpll => s.alignRef.startTime
    | .spll => s
    | .lpll => if acq && s.live then s.portsBringUp else s

/-- PLL_LOSS_OF_LOCK: LOCK clears, LOL sets, a TPLL loss also sets SUSPECT; the Dome is told (R33). -/
def execPllLossOfLock (p : Pll) (s : State) : Out :=
  whenOn s fun s => onlyIf (s.flag (pllLock p)) s fun s =>
    let s := (s.setBit (pllLock p) false).setBit (pllLol p) true
    let s := if p = .tpll then s.setBit F.TIME.STAT.SUSPECT true else s
    s.report (pllReport p)

/-- Band search and lock run again (R34). LOCK clears at the request; LOL, SUSPECT and the Dome's report belong to a lock that
is lost (R33) and stay (log entry 124). -/
def State.relock (s : State) (p : Pll) : State :=
  let s := s.setBit (pllLock p) false
  let s := { s with clk := s.clk.setAcq true p }
  if p = .lpll then s.portsDown else s

/-- A write of PLL_CTRL: relock requests, accepted in IDLE and SAFE only (R34). -/
def State.wrPllCtrl (s : State) (v : Word) : WRes :=
  if v.getLsbD 0 || v.getLsbD 1 then
    if s.dev.mode = .idle || s.dev.mode = .safe then
      let s := if v.getLsbD 0 then s.relock .tpll else s
      (if v.getLsbD 1 then s.relock .lpll else s, none)
    else (s, some .refused)
  else (s, none)

/-! ## Divider synchronisation -/

/-- SYNC_IN_EDGE: with ARM set, the divider reset falls 160 ns later (R38). -/
def execSyncInEdge (s : State) : Out :=
  whenLive s fun s => onlyIf (s.flag F.TIME.SYNC_CFG.ARM && s.clk.divDue.isNone) s fun s =>
    { s with clk := { s.clk with divDue := some (s.now + 3200) } }

/-- A divider reset that moves the SPLL dividers stretches one core clock cycle by at most one VCO period, freely (R39). -/
def State.stretchCycle (s : State) : State :=
  { (s.takeFree .stretch).2 with
    clk := { s.clk with sscLag := s.clk.sscLag + 1000000 * (((s.takeFree .stretch).1 % 6 : Nat) : Int) } }

/-- DIVIDER_RESET: ARM clears, DONE sets, SHIFTED sets if a divider moved (R38); ports that are up drop and come up again
if the LPLL dividers moved (R39). -/
def execDividerReset (spllMoved lpllMoved : Bool) (s : State) : Out :=
  whenLive s fun s => onlyIf (s.dueOpt s.clk.divDue) s fun s =>
    let s := { s with clk := { s.clk with divDue := none } }
    let s := (s.hwFld F.TIME.SYNC_CFG.ARM 0).setBit F.TIME.SYNC_STAT.DONE true
    let s := if spllMoved || lpllMoved then s.setBit F.TIME.SYNC_STAT.SHIFTED true else s
    let s := if spllMoved then s.stretchCycle else s
    if lpllMoved then s.portsDown.portsBringUp else s

/-! ## Spread spectrum -/

/-- The conditions of R42 on the table, for NSEG segments. -/
def State.sscTableOk (s : State) (nseg : Nat) : Bool :=
  let lens := (List.range nseg).map (fun n => s.fld F.TIME.SSC_SEG.LEN n)
  let sum := lens.foldl (· + ·) 0
  decide (1 ≤ nseg ∧ nseg ≤ 16) && decide (1516 ≤ sum ∧ sum ≤ 1666) &&
  (List.range nseg).all (fun n => decide (s.fld F.TIME.SSC_SEG.END_PPM n ≤ 5000)) &&
  s.fld F.TIME.SSC_SEG.END_PPM (nseg - 1) == 0

/-- The fixed delay of a phase-0 edge after its REFCLK edge: 1.10 ns (R36). -/
def refDelay : Inst := 22

/-- The REFCLK edge at or next after the present: edges lie 25 ticks apart, each the fixed delay ahead of its phase-0 edge (R36,
log entry 123). -/
def State.nextRef (s : State) : Inst := s.now + (16 * (s.clk.refRes : Int) - refDelay - s.now) % 400

/-- The profile starts at segment 0 (R43). -/
def State.sscStart (s : State) : State :=
  let s := (s.setBit F.TIME.SSC_STAT.ACTIVE true).setFld F.TIME.SSC_STAT.CUR_SEG 0
  { s with clk := { s.clk with sscEnding := false
                               sscDue := s.nextRef + 400 * (s.fld F.TIME.SSC_SEG.LEN 0 : Int) } }

/-- A write of SSC_CFG (R42, R43). While the profile runs an enable only cancels a disable that waits for the period's end, and
starts nothing again (log entry 8). -/
def State.wrSscCfg (s : State) (v : Word) : WRes :=
  let nseg := bits v 8 4
  let active := s.flag F.TIME.SSC_STAT.ACTIVE
  if v.getLsbD 0 && !s.sscTableOk nseg then (s.setBit F.TIME.SSC_STAT.TBL_ERR true, some .refused)
  else if active && nseg != s.fld F.TIME.SSC_CFG.NSEG then (s, some .refused)
  else if v.getLsbD 0 then
    let s := (s.setFld F.TIME.SSC_CFG.NSEG nseg).setBit F.TIME.SSC_CFG.EN true
    (if active then { s with clk := { s.clk with sscEnding := false } } else s.sscStart, none)
  else
    let s := (s.setFld F.TIME.SSC_CFG.NSEG nseg).setBit F.TIME.SSC_CFG.EN false
    (if active then { s with clk := { s.clk with sscEnding := true } } else s, none)

/-- A write of SSC_SEGn, refused while the profile runs (R43). -/
def State.wrSscSeg (s : State) (n : Nat) (v : Word) : WRes :=
  if s.flag F.TIME.SSC_STAT.ACTIVE then (s, some .refused)
  else ((s.setFld F.TIME.SSC_SEG.LEN (bits v 26 16) n).setFld F.TIME.SSC_SEG.END_PPM (bits v 12 0) n, none)

/-- The last segment of the period runs. -/
def State.sscLast (s : State) : Bool := s.fld F.TIME.SSC_STAT.CUR_SEG + 1 == s.fld F.TIME.SSC_CFG.NSEG

/-- SSC_SEGMENT_END: the profile moves to the next segment, and from the last to segment 0 (R41). -/
def execSscSegmentEnd (s : State) : Out :=
  whenLive s fun s =>
    onlyIf (s.flag F.TIME.SSC_STAT.ACTIVE && s.due s.clk.sscDue && !(s.sscLast && s.clk.sscEnding)) s fun s =>
      let n := if s.sscLast then 0 else s.fld F.TIME.SSC_STAT.CUR_SEG + 1
      let lag := s.lagAt s.clk.sscDue
      let s := s.setFld F.TIME.SSC_STAT.CUR_SEG n
      { s with clk := { s.clk with sscLag := lag, sscDue := s.clk.sscDue + 400 * (s.fld F.TIME.SSC_SEG.LEN n : Int) } }

/-- SSC_PERIOD_END: after a disable the period ends at 0 ppm and ACTIVE clears (R43). -/
def execSscPeriodEnd (s : State) : Out :=
  whenLive s fun s =>
    onlyIf (s.flag F.TIME.SSC_STAT.ACTIVE && s.due s.clk.sscDue && s.sscLast && s.clk.sscEnding) s fun s =>
      let lag := s.lagAt s.clk.sscDue
      let s := (s.setBit F.TIME.SSC_STAT.ACTIVE false).setFld F.TIME.SSC_STAT.CUR_SEG 0
      { s with clk := { s.clk with sscEnding := false, sscLag := lag } }

/-! ## The time word -/

/-- Move the time word by n ticks; every held instant moves with it, since instants are held raw (R48). -/
def State.moveTime (s : State) (n : Int) : State := { s with clk := { s.clk with off := s.clk.off + n } }

/-- Halves away from zero (R157). -/
def roundDiv (a : Int) (b : Int) : Int := if 0 ≤ a then (2 * a + b) / (2 * b) else -((2 * (-a) + b) / (2 * b))

/-- A committed SET_SEC.LOAD numbers the time word's second n as VALUE (R56); a header follows (R204). -/
def State.setSec (s : State) (n : Int) : State :=
  if s.actFlag F.TIME.SET_SEC.LOAD then
    (s.moveTime (((s.act F.TIME.SET_SEC.VALUE : Int) - n) * secTicks)).headerStep 0
  else s

/-- What the seconds rollover does: with PPS not present it is the Time boundary (R56). -/
def State.atRollover (s : State) : State :=
  if !s.flag F.TIME.PPS_STAT.PRESENT && s.ripe .time then (s.copyGroup .time).setSec (s.ticks / secTicks)
  else s

/-- The tick before the rollover. -/
def State.lastTick (s : State) : Bool := s.clk.timeRun && s.ticks % secTicks == secTicks - 1

/-- One tick passes: the raw count and, at 1,249,999,999, the rollover (R45). -/
def State.tickOnce (s : State) : State :=
  let t := { s with raw := s.raw + 1, aon := s.aon + 8, hot := [] }
  if s.lastTick then t.atRollover else t

/-- A read of TIME.NOW returns the time word and latches the accessor's epoch (R47). -/
def State.rdTimeNow (s : State) (a : Accessor) : Word × State :=
  (s.timeNow, s.setLatch a 0 (BitVec.ofNat 48 s.epoch))

/-- TIME_NOW_READ (R47). -/
def execTimeNowRead (a : Accessor) (s : State) : Out :=
  whenLive s fun s => (s.rdTimeNow a).2.answerRead 0x1000120 (s.rdTimeNow a).1

/-! ## PPS alignment -/

/-- PPS_EDGE: the raw edge is timestamped and awaits qualification; an edge already waiting was a glitch (R49). -/
def execPpsEdge (phase : BitVec 4) (s : State) : Out :=
  whenLive s fun s =>
    let s := if s.clk.ppsPend.isSome then s.cnt F.TIME.PPS_CNT.GLITCH else s
    { s with clk := { s.clk with ppsPend := some (s.now + phase.toNat) } }

/-- One second in 50 ps units. -/
def secUnits : Int := 20000000000

/-- The number of the second boundary nearest an instant counted in time-word units; half a second takes the later. -/
def nearestSec (x : Int) : Int := (x + 10000000000) / secUnits

/-- The error e of an edge, signed, in 50 ps units (R51). -/
def State.ppsError (s : State) (e : Inst) : Int :=
  let x := e + 16 * s.clk.off - s.actS F.TIME.PPS_CFG.OFFSET
  x - nearestSec x * secUnits

/-- No adjustment stays scheduled (R53). -/
def State.slewCancel (s : State) : State :=
  ({ s with clk := { s.clk with slewLeft := 0 } }).setBit F.TIME.PPS_STAT.SLEWING false

/-- A step: the second boundary falls at the edge less OFFSET, to the nearest tick (R52). -/
def State.ppsStep (s : State) (err : Int) : State :=
  let n := roundDiv err 16
  if n = 0 then s else ((s.moveTime (-n)).setBit F.TIME.STAT.STEPPED true).headerStep (-n)

/-- A slew schedule (R53). -/
def State.slewSchedule (s : State) (e : Inst) (err : Int) : State :=
  let rate := clampN 1 200 (s.act F.TIME.PPS_CFG.RATE)
  let n := min (roundDiv err 16).natAbs (rate * 1250)
  let ivl := 1250000000 / (n + 1)
  let s := { s with clk := { s.clk with slewLeft := n, slewIvl := ivl, slewDrop := decide (0 < err),
                                        slewNext := e + 16 * (ivl : Int) } }
  s.setBit F.TIME.PPS_STAT.SLEWING (n != 0)

/-- An accepted edge, in the order of R56. -/
def State.ppsAccept (s : State) (e : Inst) : State :=
  let commit := s.ripe .time
  let s := if commit then s.copyGroup .time else s
  let err := s.ppsError e
  let s := s.setFld F.TIME.PPS_STAMP.STAMP (s.wordAt e).toNat
  let s := (s.setFld F.TIME.PPS_ERR.PHASE (phaseOf e)).setFldS F.TIME.PPS_ERR.ERR err
  let s := (s.cnt F.TIME.PPS_CNT.ACCEPTED).slewCancel
  let s := match s.act F.TIME.PPS_CFG.MODE with
    | 1 => s.ppsStep err
    | 2 => s.slewSchedule e err
    | _ => s
  let s := if commit then s.setSec (nearestSec (e + 16 * s.clk.off)) else s
  { (s.setBit F.TIME.PPS_STAT.PRESENT true) with
    clk := { (s.setBit F.TIME.PPS_STAT.PRESENT true).clk with ppsLast := some e } }

/-- An edge is accepted when PPS is not present, or 1 s ± 1 ms after the last accepted edge (R50). -/
def State.ppsOk (s : State) (e : Inst) : Bool :=
  !s.flag F.TIME.PPS_STAT.PRESENT ||
  (match s.clk.ppsLast with
   | some l => decide ((e - l - secUnits).natAbs ≤ 20000000)
   | none => true)

/-- PPS_EDGE_QUALIFIED: held 100 ns, the edge is accepted or an outlier; shorter, a glitch (R49, R50). -/
def execPpsEdgeQualified (held : Bool) (s : State) : Out :=
  whenLive s fun s =>
    match s.clk.ppsPend with
    | none => s
    | some e =>
      let t := { s with clk := { s.clk with ppsPend := none } }
      if !held then t.cnt F.TIME.PPS_CNT.GLITCH
      else if s.due (e + 2000) then
        if t.ppsOk e then t.ppsAccept e else t.cnt F.TIME.PPS_CNT.OUTLIER
      else s

/-- SLEW_ADJUSTMENT: one tick is dropped or added (R53); an added tick may carry the time word over the second. -/
def execSlewAdjustment (s : State) : Out :=
  whenLive s fun s => onlyIf (s.clk.slewLeft != 0 && s.due s.clk.slewNext) s fun s =>
    let carry := s.lastTick && !s.clk.slewDrop
    let s := s.moveTime (if s.clk.slewDrop then -1 else 1)
    let left := s.clk.slewLeft - 1
    let s := { s with clk := { s.clk with slewLeft := left, slewNext := s.clk.slewNext + 16 * (s.clk.slewIvl : Int) } }
    let s := s.setBit F.TIME.PPS_STAT.SLEWING (left != 0)
    if carry then s.atRollover else s

/-- PPS_LOST: 1.1 s of raw time without an accepted edge (R55). -/
def execPpsLost (s : State) : Out :=
  whenLive s fun s =>
    onlyIf (s.flag F.TIME.PPS_STAT.PRESENT && s.dueOpt (s.clk.ppsLast.map (· + 22000000000))) s fun s =>
      (s.setBit F.TIME.PPS_STAT.PRESENT false).setBit F.TIME.PPS_STAT.LOST true

/-! ## Frequency measurement -/

/-- The prescalers R58 allows for a source: 0 is ÷1, 1 is ÷8, 2 is ÷64. -/
def fmuAllowed (src presc : Nat) : Bool :=
  match src with
  | 0 => presc == 1 || presc == 2
  | 1 => presc == 0 || presc == 1 || presc == 2
  | 2 => presc == 0
  | _ => presc == 1 || presc == 2

/-- A write of FMU_CFG (R57, R58). -/
def State.wrFmuCfg (s : State) (v : Word) : WRes :=
  let put (s : State) : State :=
    (((s.setFld F.TIME.FMU_CFG.NPER (bits v 23 8)).setFld F.TIME.FMU_CFG.PRESC (bits v 5 4)).setFld
      F.TIME.FMU_CFG.SRC (bits v 3 2)).setFld F.TIME.FMU_CFG.CONT (bits v 1 1)
  if v.getLsbD 0 then
    if s.flag F.TIME.FMU_STAT.BUSY || !fmuAllowed (bits v 3 2) (bits v 5 4) then (s, some .refused)
    else
      let s := (put s).setBit F.TIME.FMU_STAT.BUSY true
      ({ s with clk := { s.clk with fmuGate := none, fmuLast := s.now } }, none)
  else (put s, none)

/-- FMU_GATE_START: the first prescaled edge after arming starts the gate (R57). -/
def execFmuGateStart (phase : BitVec 4) (s : State) : Out :=
  whenLive s fun s => onlyIf (s.flag F.TIME.FMU_STAT.BUSY && s.clk.fmuGate.isNone) s fun s =>
    { s with clk := { s.clk with fmuGate := some (s.now + phase.toNat), fmuLast := s.now + phase.toNat } }

/-- FMU_GATE_STOP: RES takes stop less start, DONE sets, OVR if it was set; with CONT the next gate starts (R57). -/
def execFmuGateStop (phase : BitVec 4) (s : State) : Out :=
  whenLive s fun s =>
    match s.clk.fmuGate with
    | none => s
    | some g =>
      onlyIf (s.flag F.TIME.FMU_STAT.BUSY) s fun s =>
        let t := s.now + phase.toNat
        let s := if s.flag F.TIME.FMU_STAT.DONE then s.setBit F.TIME.FMU_STAT.OVR true else s
        let s := (s.setFldS F.TIME.FMU_RES.RES (t - g)).setBit F.TIME.FMU_STAT.DONE true
        let cont := s.flag F.TIME.FMU_CFG.CONT
        let s := s.setBit F.TIME.FMU_STAT.BUSY cont
        { s with clk := { s.clk with fmuGate := if cont then some t else none, fmuLast := t } }

/-- FMU_TIMEOUT: no prescaled edge for 1.1 s (R59). -/
def execFmuTimeout (s : State) : Out :=
  whenLive s fun s => onlyIf (s.flag F.TIME.FMU_STAT.BUSY && s.due (s.clk.fmuLast + 22000000000)) s fun s =>
    let s := ((s.setFld F.TIME.FMU_RES.RES 0).setBit F.TIME.FMU_STAT.TIMEOUT true).setBit F.TIME.FMU_STAT.DONE true
    let s := s.setBit F.TIME.FMU_STAT.BUSY false
    { s with clk := { s.clk with fmuGate := none } }

end Sys2Proof.Machine
end

