-- ==== Sys2Proof/Machine/Maths.lean ====
section
/-!
DEFINITION. Fixed-point sine, arcsine, square root and logarithm, and rounding where the spec bounds an error without
fixing it. Turns are counted in 2^−48; sines in 2^−48. The truncation error of each lies far below the bound of the rule
that uses it.
-/
namespace Sys2Proof.Machine

/-- 2^48, the scale of turns and sines. -/
def one48 : Int := 281474976710656

/-- 2π in 2^−48 radians. -/
def twoPi48 : Int := 1768559438007110

/-- The factors (2k)(2k + 1) of the sine series, from the last to the first. -/
def sinTerms : List Int := [600, 506, 420, 342, 272, 210, 156, 110, 72, 42, 20, 6]

/-- Sine of x in 2^−48 radians, |x| at most π / 2, by its series. -/
def sinSmall (x : Int) : Int :=
  let x2 := x * x / one48
  x * (sinTerms.foldl (fun a d => one48 - x2 * a / one48 / d) one48) / one48

/-- Sine of an angle in 2^−48 turn. -/
def sin48 (t : Int) : Int :=
  let u := t % one48
  let q := one48 / 4
  let v := if u ≤ q then u else if u ≤ 3 * q then 2 * q - u else u - 4 * q
  sinSmall (v * twoPi48 / one48)

/-- Cosine of an angle in 2^−48 turn. -/
def cos48 (t : Int) : Int := sin48 (t + one48 / 4)

/-- Bisection for the turn in [lo, lo + 2^n) whose sine is the greatest not above y. -/
def asinGo : Nat → Int → Int → Int
  | 0, lo, _ => lo
  | n + 1, lo, y => if sin48 (lo + 2 ^ n) ≤ y then asinGo n (lo + 2 ^ n) y else asinGo n lo y

/-- Arcsine in 2^−48 turn of y in 2^−48, between −1/4 and 1/4 turn. -/
def asin48 (y : Int) : Int :=
  if y ≤ -one48 then -(one48 / 4)
  else if one48 ≤ y then one48 / 4
  else asinGo 47 (-(one48 / 4)) y

/-- Fractional bits of log2 of a mantissa m in [1, 2), in 2^−48. -/
def log2Go : Nat → Nat → Nat
  | 0, _ => 0
  | n + 1, m =>
    let q := m * m / 281474976710656
    if 562949953421312 ≤ q then 2 ^ n + log2Go n (q / 2) else log2Go n q

/-- log2 (a / b) in 2^−40, for positive a and b. -/
def log2Ratio (a b : Nat) : Int :=
  let m := a * 2 ^ 48 * 2 ^ 48 / b
  let e := Nat.log2 m
  ((e : Int) - 96) * 1099511627776 + (log2Go 40 (m * 2 ^ 48 / 2 ^ e) : Int)

/-- ln (a / b) in 2^−40. -/
def lnRatio (a b : Nat) : Int := log2Ratio a b * 195103586505167 / one48

/-- Square root, rounded down, by bits from 2^n. -/
def isqrtGo : Nat → Nat → Nat → Nat
  | 0, r, x => if (r + 1) * (r + 1) ≤ x then r + 1 else r
  | n + 1, r, x => if (r + 2 ^ (n + 1)) * (r + 2 ^ (n + 1)) ≤ x then isqrtGo n (r + 2 ^ (n + 1)) x else isqrtGo n r x

/-- Square root of x below 2^128, rounded down. -/
def isqrt (x : Nat) : Nat := isqrtGo 63 0 x

/-! ## Rounding within a stated error -/

/-- A whole number within 1 of num / den: either neighbour, or any of three where the quotient is whole. -/
def State.near (s : State) (x : FreeSite) (num den : Int) : Int × State :=
  let r := s.takeFree x
  if num % den = 0 then (num / den + ((r.1 % 3 : Nat) : Int) - 1, r.2)
  else (num / den + ((r.1 % 2 : Nat) : Int), r.2)

/-- A whole number next to the exact value of a quotient that num / den approximates, num being off by at most eps: it is the exact
value where that is known to be whole. -/
def State.around (s : State) (x : FreeSite) (num den eps : Int) : Int × State :=
  let lo := (num - eps) / den
  let hi := -((-(num + eps)) / den)
  if hi ≤ lo then (lo, s)
  else (lo + (((s.takeFree x).1 % (hi - lo + 1).toNat : Nat) : Int), (s.takeFree x).2)

/-- A whole number next to num / den, exact where the quotient is whole: the spec states no rounding. -/
def State.roundFree (s : State) (num den : Int) : Int × State :=
  if num % den = 0 then (num / den, s)
  else (num / den + (((s.takeFree .unstated).1 % 2 : Nat) : Int), (s.takeFree .unstated).2)

end Sys2Proof.Machine
end

