-- ==== Sys2Proof/Machine/Afe.lean ====
section
/-!
DEFINITION. The bridge front end, linearisation, housekeeping conversion, the test DAC and the wire-break monitor
(spec/06_angle_sensing.md).
-/
namespace Sys2Proof.Machine

/-! ## Presets (R131) -/

/-- Order, decimation, total delay in 50 ps, and settling count of a preset. -/
def presetN : Nat → Nat | 0 => 3 | 1 => 4 | _ => 5
def presetR : Nat → Nat | 0 => 10 | 1 => 20 | 2 => 40 | _ => 200
def presetD : Nat → Inst | 0 => 21500 | 1 => 46000 | 2 => 105500 | _ => 505500
def presetS : Nat → Nat | 0 => 3 | 1 => 4 | _ => 5

/-- The preset in force of a bridge's axis: bridges 0 and 1 are H, 2 and 3 are V. -/
def State.preset (s : State) (n : Nat) : Nat :=
  if n < 2 then s.act F.AFE.BR_CFG.PRESET_H else s.act F.AFE.BR_CFG.PRESET_V

/-- Amplifier gain of a bridge (R128). -/
def State.gain (s : State) (n : Nat) : Nat :=
  2 ^ (3 + if n < 2 then s.fld F.AFE.BR_CFG.GAIN_H else s.fld F.AFE.BR_CFG.GAIN_V)

/-- The active bridge of each axis. -/
def State.activeH (s : State) : Nat := s.fld F.AFE.BR_STAT.H_NOW
def State.activeV (s : State) : Nat := 2 + s.fld F.AFE.BR_STAT.V_NOW
/-- Bridge n is active: its axis shows it, and has not lost both bridges (R147, R148). -/
def State.isActive (s : State) (n : Nat) : Bool := (n == s.activeH || n == s.activeV) && !s.afe.none_.testBit (n / 2)

/-- The test DAC stands in for bridge n (R144). -/
def State.underTest (s : State) (n : Nat) : Bool :=
  s.flag F.AFE.TDAC_CFG.EN && s.fld F.AFE.TDAC_CFG.TARGET == n

def bridgeList : List Nat := [0, 1, 2, 3]

/-- Entry to IDLE starts excitation and conversion (R128); the first sample falls on the next control-period boundary
(log entry 21). -/
def State.afeStart (s : State) : State :=
  let t0 := (s.now + 199999) / 200000 * 200000
  let ivl : Int := 2000000 * s.act F.AFE.BR_CFG.SWAP_IVL
  let mk (n : Nat) : Bridge :=
    { settle := presetS (s.preset n)
      swapNext := if ivl = 0 then none else some (t0 + ivl + (if n % 2 = 1 then ivl / 2 else 0)) }
  { s with afe := { s.afe with running := true, excStart := t0, halves := 0
                               bridges := bridgeList.foldl (fun t n => Tab.put t n (mk n)) [] } }

/-! ## Demodulation and decimation (R130, R131) -/

/-- The sum of the 120 unblanked raw samples of the last two half-periods; the spec states no offset before two are
complete (free). -/
def State.offsetSum (s : State) (x : Bridge) : Int :=
  let l := x.half1 ++ x.half2
  if l.length = 120 then l.foldl (· + ·) 0
  else (((s.takeFree .unstated).1 % 7864320 : Nat) : Int) - 3932160

/-- One raw sample enters the demodulator; demodulated samples are held in 1/120 of a code. -/
def Bridge.sample (x : Bridge) (pol : Int) (off : Int) (v : Int) : Bridge :=
  let i := x.k % 64
  let off := if x.half1.length + x.half2.length = 120 then x.half1.foldl (· + ·) (x.half2.foldl (· + ·) 0) else off
  let sign : Int := if x.k / 64 % 2 = 0 then 1 else -1
  let d := if i < 4 then x.hist.headD 0 else (120 * v - off) * sign * pol
  let half := if i < 4 then x.half else v :: x.half
  let x := { x with k := x.k + 1, hist := (d :: x.hist).take 1004, fed := min 1004 (x.fed + 1) }
  if i = 63 then { x with half := [], half1 := half, half2 := x.half1 } else { x with half := half }

/-- Sums of every run of like length, sliding along a list. -/
def slide : List Int → List Int → Int → List Int
  | x :: xs, y :: ys, a => a :: slide xs ys (a + y - x)
  | _, _, a => [a]

/-- One integrate-and-comb stage over r samples. -/
def boxcar (r : Nat) (l : List Int) : List Int := slide l (l.drop r) ((l.take r).foldl (· + ·) 0)

/-- N stages over the newest N(R − 1) + 1 samples, eight samples late, of those that the filter has had since its restart (R130 to
R132). -/
def cic (n r fed : Nat) (hist : List Int) : Int :=
  let len := n * (r - 1) + 1
  let l := (hist.drop 8).take (min len fed)
  ((List.range n).foldl (fun l _ => boxcar r l) (l ++ List.replicate (len - l.length) 0)).headD 0

/-! ## Linearisation (R134) -/

/-- s_i of R134 at temperature offset t, in 2^−52 LSB. -/
def State.polyRow (s : State) (n i : Nat) (t : Int) : Int :=
  let c (j : Nat) : Int := s.actS F.AFE.POLY.C (18 * n + 3 * i + j)
  c 2 * t * t + c 1 * t * 16384 + c 0 * 268435456

/-- The polynomial at RAW and t, in 2^−167 LSB. -/
def State.polyAt (s : State) (n : Nat) (raw t : Int) : Int :=
  [5, 4, 3, 2, 1, 0].foldl (fun a i => a * raw + s.polyRow n i t * 2 ^ (23 * (5 - i))) 0

/-- ANGLE of an output: within 1 LSB of the exact polynomial (R134, R135). -/
def State.angleOf (s : State) (n : Nat) (raw : Int) : Int × State :=
  let t := match Tab.find? s.afe.temps (s.act F.AFE.POLY_CFG.T_IN n) with
    | some x => x - s.actS F.AFE.POLY_CFG.T_REF n
    | none => 0
  let r := s.near .angle (s.polyAt n raw t) (2 ^ 167)
  (clampI (-8388608) 8388607 r.1, r.2)

/-! ## Front end commit (R132, R133, R136, R148) -/

/-- Restart the filters of both bridges of an axis (R132): the demodulators and their delay lines go on. -/
def State.restartAxis (s : State) (a : Nat) : State :=
  forEach [2 * a, 2 * a + 1] s (fun s n =>
    s.setBridge n { s.bridge n with fed := 0, blk := true, settle := presetS (s.preset n) })

/-- The field that shows an axis's bridge: axis 0 is H, 1 is V. -/
def axisNow (a : Nat) : Fld := if a = 0 then F.AFE.BR_STAT.H_NOW else F.AFE.BR_STAT.V_NOW

/-- The axis has or has no active bridge. -/
def State.setNone (s : State) (a : Nat) (b : Bool) : State :=
  let m := s.afe.none_
  let w := if m.testBit a then m - 2 ^ a else m
  { s with afe := { s.afe with none_ := if b then w + 2 ^ a else w } }

/-- A committed ACT: it makes its bridge active, or sets CMT_ERR if that bridge is broken (R148). -/
def State.commitAct (s : State) (n : Nat) : State :=
  let a := n / 2
  if s.bit F.AFE.BR_STAT.BRK n then s.setBit F.AFE.BR_STAT.CMT_ERR true
  else
    let s := { s with afe := { s.afe with
      actAt := Tab.put s.afe.actAt a (s.raw, n, 2 * a + s.fld (axisNow a), s.afe.none_.testBit a) } }
    (s.setNone a false).setFld (axisNow a) (n % 2)

/-- The Front end group takes effect. -/
def State.commitFrontEnd (s : State) : State :=
  let ph := s.preset 0
  let pv := s.preset 2
  let ivl := s.act F.AFE.BR_CFG.SWAP_IVL
  let s := s.copyGroup .frontEnd
  let s := if s.preset 0 != ph then s.restartAxis 0 else s
  let s := if s.preset 2 != pv then s.restartAxis 1 else s
  let s := if s.act F.AFE.BR_CFG.SWAP_IVL != ivl then
      let u : Int := 2000000 * s.act F.AFE.BR_CFG.SWAP_IVL
      forEach bridgeList s (fun s n => s.setBridge n { s.bridge n with
        swapNext := if u = 0 then none else some (s.now + u + (if n % 2 = 1 then u / 2 else 0)) })
    else s
  (s.commitAct (s.act F.AFE.BR_CFG.ACT_H)).commitAct (2 + s.act F.AFE.BR_CFG.ACT_V)

/-! ## Polarity swap (R133) -/

/-- The bridge is settling or suspect, so that a swap is deferred. -/
def State.swapBlocked (s : State) (n : Nat) : Bool := (s.bridge n).settle != 0 || s.bit F.AFE.BR_STAT.SUSPECT n

/-- A due swap that must wait counts once in DEFER. -/
def State.swapDefer (s : State) (n : Nat) : State :=
  if (s.bridge n).deferCnt then s
  else (s.setBridge n { s.bridge n with deferCnt := true }).cnt F.AFE.BR_CNT.DEFER

/-- A due swap at an output instant: applied, or deferred if it may not be (R133). -/
def State.swapAt (s : State) (n : Nat) (blocked : Bool) : State :=
  if !(s.bridge n).swapDue then s
  else if blocked then s.swapDefer n
  else
    let s := s.setFld F.AFE.BR_STAT.POL (Nat.xor (s.fld F.AFE.BR_STAT.POL) (1 <<< n))
    (s.setBridge n { s.bridge n with swapDue := false, deferCnt := false, settle := presetS (s.preset n) }).cnt
      F.AFE.BR_CNT.SWAPS

/-- POLARITY_SWAP_DUE (R133). -/
def execPolaritySwapDue (n : Fin 4) (s : State) : Out :=
  whenLive s fun s => onlyIf (s.afe.running && s.dueOpt (s.bridge n).swapNext) s fun s =>
    let x := s.bridge n
    let u : Int := 2000000 * s.act F.AFE.BR_CFG.SWAP_IVL
    let s := s.setBridge n { x with swapDue := true, swapNext := if u = 0 then none else x.swapNext.map (· + u) }
    if s.swapBlocked n then s.swapDefer n else s

/-- A write of BR_CTRL: SWAP_REQ makes a swap due (R133). -/
def State.wrBrCtrl (s : State) (v : Word) : WRes :=
  (forEach (bridgeList.filter (fun n => v.getLsbD n)) s
    (fun s n => s.setBridge n { s.bridge n with swapDue := true }), none)

/-! ## Outputs (R131, R144) -/

/-- The raw samples of an output as the converter delivers them, or as the test DAC makes them (R144). -/
def State.bridgeSamples (s : State) (n : Nat) (x : Bridge) (xs : List (BitVec 16)) : List Int :=
  if s.underTest n then
    let v := clampI (-32768) 32767 (s.fldS F.AFE.TDAC_CFG.LEVEL * s.gain n)
    let pol : Int := if s.bit F.AFE.BR_STAT.POL n then -1 else 1
    (List.range xs.length).map (fun i => if (x.k + i) / 64 % 2 = 0 then v * pol else -v * pol)
  else xs.map BitVec.toInt

/-- RAW of a decimator's sum, with the accuracy of the test DAC where it is the source. -/
def State.rawOf (s : State) (n : Nat) (sum : Int) : Int × State :=
  let p := s.preset n
  let r := s.roundFree (sum * 256) (120 * (presetR p : Int) ^ presetN p)
  if s.underTest n then
    let e := r.2.takeErr .unstated (r.1.natAbs / 500 + 84 * s.gain n)
    (clampI (-8388608) 8388607 (r.1 + e.1), e.2)
  else (clampI (-8388608) 8388607 r.1, r.2)

/-- The instant of a bridge's sample k. -/
def State.sampleAt (s : State) (k : Nat) : Inst := s.afe.excStart + 1000 * (k : Int)

/-- All four bridges have delivered the common output instant they stand at (R136). -/
def State.commonOutput (s : State) : Bool :=
  let k := (s.bridge 0).k
  bridgeList.all (fun n => (s.bridge n).k == k) && k % max (presetR (s.preset 0)) (presetR (s.preset 2)) == 0

/-- A valid output of an active bridge reaches Coelostat, referred back by the preset's delay (R105, R131). -/
def State.deliverAngle (s : State) (n : Nat) (t : Inst) (a : Int) : State :=
  if !s.isActive n then s
  else if n = s.activeH then { s with mirr := { s.mirr with hs := s.mirr.hs ++ [(t - presetD (s.preset n), a)] } }
  else { s with mirr := { s.mirr with vLast := a } }

/-- The registers of an output. -/
def State.setOutput (s : State) (n : Nat) (raw ang : Int) (valid : Bool) : State :=
  let s := (s.setFldS F.AFE.BR_OUT.RAW raw n).setFldS F.AFE.BR_ANG.ANGLE ang n
  let s := (s.setBit F.AFE.BR_OUT.VALID valid n).setBit F.AFE.BR_OUT.TEST (s.underTest n) n
  let s := s.setBit F.AFE.BR_OUT.POL (s.bit F.AFE.BR_STAT.POL n) n
  if valid then s.orBit F.AFE.BR_STAT.VALID n else s.clrBit F.AFE.BR_STAT.VALID n

/-- An output of a bridge at instant t, and what its instant carries: a Front end commit, and a due swap (R131, R136,
R149). -/
def State.output (s : State) (n : Nat) (xs : List (BitVec 16)) : State :=
  let x := s.bridge n
  let t := s.sampleAt (x.k + xs.length)
  let pol : Int := if s.bit F.AFE.BR_STAT.POL n then -1 else 1
  let off := s.offsetSum x
  let y := (s.bridgeSamples n x xs).foldl (fun x v => x.sample pol off v) x
  let blocked := s.swapBlocked n
  let valid := !blocked && !s.bit F.AFE.BR_STAT.BRK n && !s.underTest n
  let s := { s.setBridge n { y with settle := x.settle - 1, blk := blocked } with free := s.free + 1 }
  let p := s.preset n
  let r := s.rawOf n (cic (presetN p) (presetR p) y.fed y.hist)
  let a := r.2.angleOf n r.1
  let s := a.2.setOutput n r.1 a.1 valid
  let s := if valid then s.deliverAngle n t a.1 else s
  let com := s.ripe .frontEnd && y.k % max (presetR (s.preset 0)) (presetR (s.preset 2)) == 0
  if !com then s.swapAt n blocked
  else if s.commonOutput then
    forEach bridgeList s.commitFrontEnd (fun s n => s.swapAt n (s.bridge n).blk)
  else s

/-- Samples from a bridge's last output to its next, which lies a whole multiple of R samples after the latest
control-period boundary (R131). -/
def State.nextLen (s : State) (n : Nat) : Nat := presetR (s.preset n) - (s.bridge n).k % presetR (s.preset n)

/-- BRIDGE_OUTPUT: the samples since the bridge's last output, as many as bring it to its next (R131). -/
def execBridgeOutput (n : Fin 4) (xs : List (BitVec 16)) (s : State) : Out :=
  whenLive s fun s =>
    onlyIf (s.afe.running && xs.length == s.nextLen n && s.due (s.sampleAt ((s.bridge n).k + xs.length))) s
      fun s => s.output n xs

/-! ## Wire break (R145 to R148) -/

/-- The monitor flags a half-period of bridge n (R145). -/
def State.flagged (s : State) (n : Nat) (w : BridgeWin) : Bool :=
  w.currents.any (fun c => decide (c.toNat < s.fld F.AFE.EXC_CFG.I_MIN ∨ s.fld F.AFE.EXC_CFG.I_MAX < c.toNat)) ||
  (w.clip && !s.underTest n)

/-- The half-period of one bridge is judged; the answer says whether a break is confirmed (R146, R147). -/
def State.judgeHalf (s : State) (n : Nat) (w : BridgeWin) : State × Bool :=
  let fl := s.flagged n w
  let x := s.bridge n
  let m := s.roundFree ((w.currents.foldl (fun a c => a + c.toNat) 0 : Nat) : Int) 32
  let s := (m.2.setFldS F.AFE.EXC_I.I_MEAN m.1 n).setBridge n { x with flag1 := fl, flag2 := x.flag1 }
  let sus := s.bit F.AFE.BR_STAT.SUSPECT n
  if s.bit F.AFE.BR_STAT.BRK n then (s, false)
  else if sus && fl then ((s.clrBit F.AFE.BR_STAT.SUSPECT n).orBit F.AFE.BR_STAT.BRK n, true)
  else if sus then ((s.clrBit F.AFE.BR_STAT.SUSPECT n).cnt F.AFE.BR_CNT.GLITCH, false)
  else if fl then (s.orBit F.AFE.BR_STAT.SUSPECT n, false)
  else (s, false)

/-- A commit of this tick has made the bridge active: the confirmation acts first, and the commit's ACT is ignored with CMT_ERR
(R149). -/
def State.undoAct (s : State) (n : Nat) : State :=
  let a := n / 2
  match Tab.find? s.afe.actAt a with
  | some x =>
    if x.1 = s.raw ∧ x.2.1 = n then
      ((s.setBit F.AFE.BR_STAT.CMT_ERR true).setFld (axisNow a) (x.2.2.1 % 2)).setNone a x.2.2.2
    else s
  | none => s

/-- A confirmed break: the Dome is told, and an active bridge hands over to a partner that is not broken; an injection on
the partner ends; with the partner broken the axis has no active bridge (R147). -/
def State.breakBridge (s : State) (n : Nat) : State :=
  let s := (s.report (.bridge n)).undoAct n
  let p := if n % 2 = 0 then n + 1 else n - 1
  if s.isActive n && !s.bit F.AFE.BR_STAT.BRK p then
    let s := if s.underTest p then
        (s.setBit F.AFE.TDAC_CFG.EN false).setBridge p { s.bridge p with settle := presetS (s.preset p) }
      else s
    s.setFld (axisNow (n / 2)) (p % 2)
  else if s.isActive n then s.setNone (n / 2) true
  else s

/-- EXCITATION_HALF_PERIOD_END: the excitation changes polarity and the monitor judges the half-period (R129, R145). -/
def execExcitationHalfPeriodEnd (w0 w1 w2 w3 : BridgeWin) (s : State) : Out :=
  whenLive s fun s => onlyIf (s.afe.running && s.due (s.sampleAt (64 * (s.afe.halves + 1)))) s fun s =>
    let s := { s with afe := { s.afe with halves := s.afe.halves + 1 } }
    let r0 := s.judgeHalf 0 w0
    let r1 := r0.1.judgeHalf 1 w1
    let r2 := r1.1.judgeHalf 2 w2
    let r3 := r2.1.judgeHalf 3 w3
    let s := if r0.2 then r3.1.breakBridge 0 else r3.1
    let s := if r1.2 then s.breakBridge 1 else s
    let s := if r2.2 then s.breakBridge 2 else s
    if r3.2 then s.breakBridge 3 else s

/-- A write of BR_STAT: a BRK bit clears only where the last two half-periods were not flagged (R148). -/
def State.wrBrStat (s : State) (v : Word) : WRes :=
  let s := if v.getLsbD 20 && s.since F.AFE.BR_STAT.CMT_ERR == 0 then s.setBit F.AFE.BR_STAT.CMT_ERR false else s
  (forEach bridgeList s (fun s n =>
    if v.getLsbD (16 + n) && !(s.bridge n).flag1 && !(s.bridge n).flag2 && !(s.since F.AFE.BR_STAT.BRK).testBit n then
      s.clrBit F.AFE.BR_STAT.BRK n
    else s), none)

/-! ## Test DAC (R144) -/

/-- A write of TDAC_CFG. -/
def State.wrTdacCfg (s : State) (v : Word) : WRes :=
  let t := bits v 20 16
  let en := v.getLsbD 24
  let was := s.flag F.AFE.TDAC_CFG.EN
  let old := s.fld F.AFE.TDAC_CFG.TARGET
  if 4 ≤ t ∧ t ≤ 7 then (s, some .refused)
  else if en && ((t < 4 && s.isActive t && (s.dev.mode = .armed || s.scanning)) || (was && t != old)) then
    (s, some .refused)
  else
    let s := ((s.setFld F.AFE.TDAC_CFG.TARGET t).setFld F.AFE.TDAC_CFG.LEVEL (bits v 11 0)).setBit F.AFE.TDAC_CFG.EN en
    (if was && !en && decide (old < 4) then
      s.setBridge old { s.bridge old with settle := presetS (s.preset old) } else s, none)

/-! ## Housekeeping (R137 to R143) -/

/-- The curve honoured on an input (R137, R141). -/
def hkHonoured (m c : Nat) : Nat :=
  if m < 20 then (if 1 ≤ c ∧ c ≤ 5 then c else 0) else if m = 23 ∧ c = 6 then 6 else 0

/-- The next input of the sequence after the one converted last (R138). -/
def State.hkNext (s : State) : Option Nat :=
  let en := (List.range 24).filter (fun m => s.bit F.AFE.HK_EN.EN m)
  match s.afe.last with
  | none => en.head?
  | some l => (en.find? (fun m => decide (l < m))).orElse (fun _ => en.head?)

/-- HK_STAT.PAUSED: the sequencer waits for the reference, from reset release on (R143, log entry 47). -/
def State.hkPaused (s : State) : Bool := !s.flag F.AFE.REF_STAT.SETTLED

/-- When a conversion's result lands (R138). -/
def HkConv.landing (c : HkConv) : Inst := c.start + 10000 * ((c.settle : Int) + 1) + 20000

/-- A conversion of an input begins at the latest edge of the 1 MHz clock, with the values now in its register. -/
def State.hkBegin (s : State) (m : Nat) (single : Bool) : State :=
  let c : HkConv := { input := m, settle := s.fld F.AFE.HK_IN.SETTLE m, curve := hkHonoured m (s.fld F.AFE.HK_IN.CURVE m)
                      rser := s.fld F.AFE.HK_IN.R_SER m, start := s.now / 20000 * 20000, single := single }
  let s := s.setBit F.AFE.HK_STAT.BUSY true
  { s with afe := { s.afe with conv := some c, single := if single then none else s.afe.single
                               last := if single then s.afe.last else some m } }

/-- The sequencer waits for no conversion, and an edge of the 1 MHz clock has come since it became free (R138). -/
def State.hkReady (s : State) : Bool :=
  s.afe.conv.isNone && !s.hkPaused && decide (s.afe.hkFree ≤ s.now / 20000 * 20000)

/-- A conversion that is asked for now starts at no earlier edge. -/
def State.hkAsk (s : State) : State := { s with afe := { s.afe with hkFree := max s.afe.hkFree s.now } }

/-- HK_CONVERSION_START: a pending single conversion, else the next of the sequence (R138). -/
def execHkConversionStart (s : State) : Out :=
  whenLive s fun s => onlyIf s.hkReady s fun s =>
    match s.afe.single with
    | some m => s.hkBegin m true
    | none =>
      if s.flag F.AFE.HK_CTRL.RUN then
        match s.hkNext with
        | some m => s.hkBegin m false
        | none => s
      else s

/-- A temperature in 0.01 °C, rounded down, from a fraction in 0.01 K. -/
def celsius (num den : Int) : Int := num / den - 27315

/-- NTC of 10 kΩ at 25 °C and B kelvin, for a resistance num / den (R141). -/
def ntc (b num den : Nat) : Int :=
  let l := lnRatio num (den * 10000)
  let q : Int := 100 * b * 1099511627776 + 29815 * l
  if q ≤ 0 then 100000 else celsius (100 * 29815 * b * 1099511627776) q

/-- Relative resistance of platinum at t in 0.01 °C, in 10^−23 (R141). -/
def platinum (t : Int) : Int :=
  100000000000000000000000 + 3908300000000000000 * t - 5775000000000 * t * t -
    (if t < 0 then 4183 * (t - 10000) * t * t * t else 0)

/-- Relative resistance of the silicon resistor at t in 0.01 °C, in 10^−23. -/
def silicon (t : Int) : Int :=
  let d := t - 2500
  100000000000 * (1000000000000 + 78800000 * d + 1937 * d * d)

/-- The greatest t from lo in steps of a bisection with f t at most y. -/
def bisect : Nat → (Int → Bool) → Int → Int
  | 0, _, lo => lo
  | n + 1, f, lo => if f (lo + 2 ^ n) then bisect n f (lo + 2 ^ n) else bisect n f lo

/-- Range of a curve in 0.01 °C (R141). -/
def curveRange : Nat → Int × Int
  | 3 => (-5000, 25000) | 4 => (-5000, 25000) | _ => (-4000, 15000)

/-- Temperature of curves 1 to 5 for a resistance num / den, rounded down, not confined to the range; below and above the
range it is any number outside it. -/
def curveTemp (c num den : Nat) : Int :=
  let below (r0 : Int) (f : Int → Int) (t : Int) : Bool := decide (r0 * f t * den ≤ num * 100000000000000000000000)
  match c with
  | 1 => if num = 0 then 100000 else ntc 3435 num den
  | 2 => if num = 0 then 100000 else ntc 3977 num den
  | 3 => if below 100 platinum (-5000) then bisect 15 (below 100 platinum) (-5000) else -100000
  | 4 => if below 1000 platinum (-5000) then bisect 15 (below 1000 platinum) (-5000) else -100000
  | _ => if below 2000 silicon (-4000) then bisect 15 (below 2000 silicon) (-4000) else -100000

/-- VALUE and RANGE of a conversion (R141, R142); a temperature is within 0.02 °C of the curve's. -/
def State.hkValue (s : State) (curve rser code : Nat) : (Int × Bool) × State :=
  if curve = 0 then ((code, false), s)
  else
    let lo := (curveRange curve).1
    let hi := (curveRange curve).2
    let t := if curve = 6 then Config.diodeTemp code
      else if code = 65535 then curveTemp curve (rser * 65535 * 65536) 1
      else curveTemp curve (rser * code) (65536 - code)
    let clip := t < lo || hi < t || (curve != 6 && t == hi) || (curve != 6 && (code == 0 || code == 65535))
    if clip then ((if t < (lo + hi) / 2 then lo else hi, true), s)
    else if curve = 6 then ((t, false), s)
    else
      let e := s.takeFree .hkTemp
      ((clampI lo hi (t + ((e.1 % 4 : Nat) : Int) - 1), false), e.2)

/-- The test DAC stands in for housekeeping input m, as its register has it when the result lands (R144, log entry 135). -/
def State.hkTested (s : State) (m : Nat) : Bool := s.flag F.AFE.TDAC_CFG.EN && s.fld F.AFE.TDAC_CFG.TARGET == m + 8

/-- The code the converter takes: that of the pin, or of the test DAC within 1 mV; input 22 sees the test DAC whenever that is on
and is at 0 V while it is off (R137, R144). -/
def State.hkCode (s : State) (m code : Nat) : Nat × State :=
  let en := s.flag F.AFE.TDAC_CFG.EN
  if m = 22 ∧ en = false then (0, s)
  else if s.hkTested m || m == 22 then
    let e := s.takeErr .unstated (match s.fld F.AFE.REF_CFG.SRC with | 1 => 33 | 2 => 22 | _ => 27)
    ((clampI 0 65535 (16 * (s.fld F.AFE.TDAC_CFG.LEVEL : Int) + e.1)).toNat, e.2)
  else (code, s)

/-- An unread result is overwritten (R139). -/
def State.hkOver (s : State) : State :=
  if s.flag F.AFE.HK_DATA.NEW then
    let s := { s with afe := { s.afe with ovrAt := some (s.raw, s.flag F.AFE.HK_STAT.OVR) } }
    (s.setBit F.AFE.HK_STAT.OVR true).cnt F.AFE.HK_STAT.OVR_CNT
  else s

/-- A read in the cycle of a landing takes the earlier result, so that the landing has overwritten none unread (R139). -/
def State.unOvr (s : State) : State :=
  match s.afe.ovrAt with
  | some x =>
    if x.1 = s.raw then
      let s := { s with afe := { s.afe with ovrAt := none } }
      let s := s.setFld F.AFE.HK_STAT.OVR_CNT (s.fld F.AFE.HK_STAT.OVR_CNT - 1)
      let s := (s.setBit F.AFE.HK_STAT.OVR x.2)
      { s with hot := Tab.del (Tab.del s.hot (F.AFE.HK_STAT.OVR.key 0 0)) (F.AFE.HK_STAT.OVR_CNT.key 0 0) }
    else s
  | none => s

/-- The fields of a housekeeping result. -/
def hkFlds : List Fld :=
  [F.AFE.HK_DATA.INPUT, F.AFE.HK_DATA.CURVE, F.AFE.HK_DATA.VALUE, F.AFE.HK_DATA.RANGE, F.AFE.HK_DATA.TEST, F.AFE.HK_DATA.NEW]

/-- A result lands in HK_DATA and in the private latches (R139, R140); a read of the same cycle still takes the result before it, and
leaves NEW set. -/
def State.hkLand (s : State) (c : HkConv) (v : Int) (range : Bool) : State :=
  let s := hkFlds.foldl (fun s F => s.mark F (fun _ => 1)) s.hkOver
  let s := (s.setFld F.AFE.HK_DATA.INPUT c.input).setFld F.AFE.HK_DATA.CURVE c.curve
  let s := (s.setFldS F.AFE.HK_DATA.VALUE v).setBit F.AFE.HK_DATA.RANGE range
  let s := (s.setBit F.AFE.HK_DATA.TEST (s.hkTested c.input)).setBit F.AFE.HK_DATA.NEW true
  let s := s.setBit F.AFE.HK_STAT.BUSY false
  { s with afe := { s.afe with
      conv := none, hkFree := c.landing, vals := Tab.put s.afe.vals c.input v
      temps := if c.curve = 0 ∧ (Tab.find? s.afe.temps c.input).isNone then s.afe.temps else Tab.put s.afe.temps c.input v } }

/-- HK_RESULT_LAND: 1.0 µs after sampling, the linearised result lands (R138). -/
def execHkResultLand (code : BitVec 16) (s : State) : Out :=
  whenLive s fun s =>
    match s.afe.conv with
    | none => s
    | some c => onlyIf (s.due c.landing) s fun s =>
      let k := s.hkCode c.input code.toNat
      let r := k.2.hkValue c.curve c.rser k.1
      r.2.hkLand c r.1.1 r.1.2

/-- A write of HK_CTRL: SINGLE asks for one conversion of SINGLE_IN (R138, R149). -/
def State.wrHkCtrl (s : State) (v : Word) : WRes :=
  let m := bits v 12 8
  let s := ((s.setFld F.AFE.HK_CTRL.SINGLE_IN m).setBit F.AFE.HK_CTRL.RUN (v.getLsbD 0)).hkAsk
  (if v.getLsbD 1 && decide (m < 24) then { s with afe := { s.afe with single := some m } } else s, none)

/-- The reference starts to settle: SETTLED clears, and a conversion in progress is discarded (R143), but for one whose result is
due to land by now (R149). -/
def State.refRestart (s : State) : State :=
  let c := s.afe.conv.filter (fun c => s.due c.landing)
  let s := (s.setBit F.AFE.REF_STAT.SETTLED false).setBit F.AFE.HK_STAT.BUSY c.isSome
  { s with afe := { s.afe with conv := c, refStart := s.now, refHeld := false } }

/-- A write of REF_CFG.SRC (R143). -/
def State.wrRefCfg (s : State) (v : Word) : WRes := ((s.setFld F.AFE.REF_CFG.SRC (bits v 1 0)).refRestart, none)

/-- REF_SETTLED: V_REF has stayed at its final value for 16 µs (R143). -/
def execRefSettled (s : State) : Out :=
  whenLive s fun s =>
    onlyIf (s.hkPaused && !s.afe.refHeld && s.due (s.afe.refStart + 320000)) s fun s =>
      (s.setBit F.AFE.REF_STAT.SETTLED true).hkAsk

/-- REF_SETTLE_TIMEOUT: not settled within 1 ms (R143). -/
def execRefSettleTimeout (s : State) : Out :=
  whenLive s fun s => onlyIf (s.hkPaused && !s.afe.refHeld && s.due (s.afe.refStart + ms)) s fun s =>
    { s.setBit F.AFE.REF_STAT.REF_ERR true with afe := { s.afe with refHeld := true } }

end Sys2Proof.Machine
end

