-- ==== Sys2Proof/Machine/Flags.lean ====
section
/-!
DEFINITION. The flags Z, N, C, V of a core and the conditions that read them (spec/10_ivqua_model.md R229).
-/
namespace Sys2Proof.Machine

/-- Z and N of a result. -/
def Core.setZN (x : Core) (r : Word) : Core := { x with zf := r == 0, nf := r.msb }

/-- The flags of a + b: C is the carry out of bit 47, V signed overflow. -/
def Core.addFlags (x : Core) (a b : Word) : Core :=
  { x.setZN (a + b) with cf := decide (2 ^ 48 ≤ a.toNat + b.toNat), vf := a.msb == b.msb && (a + b).msb != a.msb }

/-- The flags of a − b: C is the borrow. -/
def Core.subFlags (x : Core) (a b : Word) : Core :=
  { x.setZN (a - b) with cf := decide (a.toNat < b.toNat), vf := a.msb != b.msb && (a - b).msb != a.msb }

/-- The flags of a product: Z and N set, C and V cleared (R253). -/
def Core.mulFlags (x : Core) (r : Word) : Core := { x.setZN r with cf := false, vf := false }

/-- A shift: result and C (R254). -/
def shlOf (v : Word) (n : Nat) : Word × Bool :=
  if n = 0 then (v, false) else if 48 ≤ n then (0, false) else (v <<< n, v.getLsbD (48 - n))
def shrOf (v : Word) (n : Nat) : Word × Bool :=
  if n = 0 then (v, false) else if 48 ≤ n then (0, false) else (v >>> n, v.getLsbD (n - 1))
def sarOf (v : Word) (n : Nat) : Word × Bool :=
  if n = 0 then (v, false)
  else if 48 ≤ n then (if v.msb then BitVec.allOnes 48 else 0, v.msb)
  else (v.sshiftRight n, v.getLsbD (n - 1))

/-- The flags of a shift: Z, N and C; V unchanged. -/
def Core.shiftFlags (x : Core) (r : Word × Bool) : Core := { x.setZN r.1 with cf := r.2 }

/-- A condition of code 0 to 9; `ev` says whether an enabled event is pending. -/
def Core.cond (x : Core) (ev : Bool) : Nat → Bool
  | 0 => x.zf
  | 1 => !x.zf
  | 2 => x.nf != x.vf
  | 3 => x.nf == x.vf
  | 4 => x.cf
  | 5 => !x.cf
  | 6 => x.nf
  | 7 => !x.nf
  | 8 => true
  | 9 => ev
  | _ => false

end Sys2Proof.Machine
end

