-- ==== Sys2Proof/Machine/Cells.lean ====
section
/-!
DEFINITION. Context tiles, visits, binning, closing and frames (spec/08_cell_contexts.md).
-/
namespace Sys2Proof.Machine

/-! ## The close queue's oldest entry (R26) -/

/-- Row parity of an entry's cell. -/
def CqE.rho (e : CqE) : Nat := bits e.entry 0 0

/-- Of the entries that entered a queue with its head, the lowest row's; the first of one row. -/
def oldestOf : List CqE → Option CqE
  | [] => none
  | e :: t => some ((t.takeWhile (fun x => x.at_ == e.at_)).foldl (fun m x => if x.rho < m.rho then x else m) e)

/-! ## Tiles of a strip -/

/-- Tile number of cell (column c, row parity ρ) of strip d (R18). -/
def cellTile (d c rho : Nat) : Nat := 2048 * d + 2 * c + rho

/-- Bits of word 36 (R183). -/
def w36Closed : Nat := 15
def w36Held : Nat := 14
def w36Fresh : Nat := 13
def w36Starved : Nat := 12
def w36Bad : Nat := 11

/-- A word with one bit set or cleared. -/
def setWBit (w : Word) (k : Nat) (b : Bool) : Word := setBits w k k (if b then 1 else 0)

/-- Words 0 to 46 of a re-initialised tile whose word 36 was w (R177). -/
def reinitWords (w : Word) (frame : Nat) (bad : Bool) : List Word :=
  let w36 := setBits (setWBit (setWBit (setWBit (setWBit 0 w36Fresh true) w36Bad bad)
    w36Closed (w.getLsbD w36Closed)) w36Held (w.getLsbD w36Held)) 47 32 frame
  setAt (List.replicate 47 0) 36 w36

/-- An entry of a close queue whose tile is n delivers BAD (R196). -/
def CqE.markBad (e : CqE) (n : Nat) : CqE :=
  if bits e.entry 15 0 = n then { e with entry := setBits e.entry 47 47 1 } else e

/-- Re-initialise a context tile in place (R177): a queued entry of it delivers BAD (R196), and its close's instant is that of
its new word 35 (R202). -/
def State.reinit (s : State) (n : Nat) : State :=
  let d := n / 2048
  let s := s.wrTile n (reinitWords (s.rdMem (48 * n + 36)) (s.fld F.STRIP.CTX_STAT.FRAME d) true)
  s.setStrip d { s.strip d with clAt := Tab.del (s.strip d).clAt n, cq := (s.strip d).cq.map (fun e => e.markBad n) }

/-- Check a context tile at a use; one that fails is counted and re-initialised (R176). The answer says whether it passed. -/
def State.checkTile (s : State) (n : Nat) : Bool × State :=
  let ws := s.rdTile n
  let bad (F : Fld) : State :=
    ((s.cnt F 1 (n / 2048)).updBg (fun x => { x with ctxFail := x.ctxFail + 1 })).reinit n
  if !tagOk ws n then (false, bad F.STRIP.CTX_CNT0.TAG)
  else if !tileOk ws n then (false, bad F.STRIP.CTX_CNT0.CRC)
  else (true, s)

/-- K in force on a strip: outside 4 to 64 it acts as the nearer limit (R197). -/
def State.kOf (s : State) (d : Nat) : Nat := clampN 4 64 (s.act F.STRIP.CELL_CFG.K d)

/-- SHOTS of a tile's words. -/
def shotsOf (w32 : Word) : Nat := bits w32 47 40

/-! ## Visits (R185 to R188) -/

def State.visit (s : State) (d v : Nat) : Visit := Tab.get (fun _ => {}) (s.strip d).visits v

/-- Open visits of a strip: slot and visit. -/
def State.openVisits (s : State) (d : Nat) : Tab Visit := (s.strip d).visits

/-- The slot of the open visit of a column, if there is one. -/
def State.visitOf (s : State) (d col : Nat) : Option Nat :=
  (List.find? (fun p : Nat × Visit => p.2.col == col) (s.openVisits d)).map (·.1)

/-- The lowest free visit slot. -/
def State.freeVisit (s : State) (d : Nat) : Option Nat :=
  (List.range 4).find? (fun v => (Tab.find? (s.openVisits d) v).isNone)

/-- Open a visit of a column on one strip (R186). -/
def State.openVisit (s : State) (d col : Nat) (tcol : Inst) : State :=
  match s.freeVisit d with
  | none => s
  | some v => s.setStrip d { s.strip d with
      visits := Tab.put (s.openVisits d) v { col := col, tcol := tcol, opened := s.now } }

/-- The accumulators for a cell's tile as read; an accumulation starts afresh where CLOSED is set and HELD clear (R186). -/
def loadAcc (ws : List Word) (frame : Nat) : CellAcc :=
  let w36 := ws.getD 36 0
  if w36.getLsbD w36Closed && !w36.getLsbD w36Held then
    let z := List.replicate 35 (0 : Word) ++ ws.drop 35
    { words := setAt z 36 (setBits (setWBit (setWBit w36 w36Closed false) w36Starved false) 47 32 frame)
      held := false, afresh := true, changed := true }
  else { words := ws, held := w36.getLsbD w36Held }

/-- The accumulators of one cell from its tile; where an accumulation starts afresh, no part has been counted in it. -/
def State.loadCell (s : State) (d n : Nat) : CellAcc × State :=
  let a := loadAcc (s.rdTile n) (s.fld F.STRIP.CTX_STAT.FRAME d)
  let s := if a.afresh then s.setStrip d { s.strip d with lfirst := Tab.del (s.strip d).lfirst n } else s
  (a, s)

/-- Read and check one cell of a visit. -/
def State.readCell (s : State) (d n : Nat) : CellAcc × State := (s.checkTile n).2.loadCell d n

/-- VISIT_READ_DONE: the oldest unread visit's tiles are read, checked and loaded (R186). -/
def execVisitReadDone (d : Fin 24) (s : State) : Out :=
  whenLive s fun s =>
    let waiting := (s.openVisits d).filter (fun p => !p.2.read && !((s.strip d).ending.any (fun e => e.col == p.2.col)))
    match waiting.foldl (fun (o : Option (Nat × Visit)) p =>
        match o with
        | none => some p
        | some q => if p.2.opened < q.2.opened then some p else some q) none with
    | none => s
    | some (v, x) =>
      let r0 := s.readCell d (cellTile d x.col 0)
      let r1 := r0.2.readCell d (cellTile d x.col 1)
      let s := r1.2
      s.setStrip d { s.strip d with visits := Tab.put (s.openVisits d) v { x with read := true, readAt := s.raw, c0 := r0.1, c1 := r1.1 } }

/-! ## Binning (R179 to R182) -/

/-- One more in a 12-bit bin: bin i of words from base; says whether it was full. -/
def bumpBin (ws : List Word) (base i : Nat) : List Word × Bool :=
  let w := ws.getD (base + i / 4) 0
  let q := i % 4
  let n := bits w (12 * q + 11) (12 * q)
  if n = 4095 then (ws, true) else (setAt ws (base + i / 4) (setBits w (12 * q + 11) (12 * q) (n + 1)), false)

/-- Add n to a saturating field [hi:lo] of word i. -/
def addSat (ws : List Word) (i hi lo n : Nat) : List Word :=
  let w := ws.getD i 0
  setAt ws i (setBits w hi lo (min (bits w hi lo + n) (2 ^ (hi + 1 - lo) - 1)))

/-- Set bit k of word i. -/
def orWBit (ws : List Word) (i k : Nat) : List Word := setAt ws i (setWBit (ws.getD i 0) k true)

/-- Whether τ passes the gate of band k, 0 far to 3 very-near (R180). -/
def State.gateOk (s : State) (d k : Nat) (tau : Int) : Bool :=
  let m : Int := 16 * s.act F.STRIP.GATE_CFG.MARGIN d
  let e1 : Int := 16 * s.act F.STRIP.GATE_CFG.E1 d
  let e2 : Int := 16 * s.act F.STRIP.GATE_CFG.E2 d
  let e3 : Int := 16 * s.act F.STRIP.GATE_CFG.E3 d
  !s.actFlag F.STRIP.GATE_CFG.EN d ||
  (match k with
   | 0 => decide (e3 - m ≤ tau)
   | 1 => decide (e2 - m ≤ tau ∧ tau ≤ e3 + m)
   | 2 => decide (e1 - m ≤ tau ∧ tau ≤ e2 + m)
   | _ => decide (tau ≤ e1 - 1 + m))

/-- Seed e of word 41, in τ units (R182, R184). -/
def seedOf (w41 : Word) (e : Nat) : Int := 32 * (bits w41 (15 * e + 14) (15 * e) : Int)

/-- The fine bin a τ falls in, if the window is in use and holds it (R182). -/
def fineBin (w41 : Word) (tau : Int) : Option Nat :=
  if !w41.getLsbD 47 then none
  else if !w41.getLsbD 46 then
    let i := (tau - seedOf w41 0) / 32
    if 0 ≤ i ∧ i ≤ 95 then some i.toNat else none
  else (List.range 3).findSome? (fun e =>
    let i := (tau - seedOf w41 e) / 32
    if 0 ≤ i ∧ i ≤ 31 then some (32 * e + i.toNat) else none)

/-- The coarse bin (R181). -/
def coarseBin (lcnt : Nat) (tau : Int) : Nat := min 31 (tau / (8 * (lcnt : Int))).toNat

/-- A gated detection enters a cell's histograms; the answer also says whether SAT has just set (R179, R181, R182). -/
def binInto (ws : List Word) (lcnt : Nat) (tau : Int) : List Word × Bool :=
  let r := bumpBin ws 24 (coarseBin lcnt tau)
  let r := match fineBin (ws.getD 41 0) tau with
    | some i => ((bumpBin r.1 0 i).1, r.2 || (bumpBin r.1 0 i).2)
    | none => r
  if r.2 then (orWBit r.1 34 0, !(ws.getD 34 0).getLsbD 0) else (r.1, false)

/-- The accumulators of row parity ρ of a visit. -/
def Visit.acc (x : Visit) (rho : Nat) : CellAcc := if rho = 0 then x.c0 else x.c1
def Visit.setAcc (x : Visit) (rho : Nat) (a : CellAcc) : Visit := if rho = 0 then { x with c0 := a } else { x with c1 := a }

/-- A CUPD write acts before a visit read of the same cycle: the visit takes the cell as released (R189, R196). -/
def State.rereadTile (s : State) (n : Nat) : State :=
  let d := n / 2048
  match s.visitOf d (n % 2048 / 2) with
  | none => s
  | some v =>
    if (s.visit d v).read && (s.visit d v).readAt == s.raw then
      let r := s.loadCell d n
      r.2.setStrip d { r.2.strip d with visits := Tab.put (r.2.openVisits d) v ((s.visit d v).setAcc (n % 2) r.1) }
    else s

/-- Change the accumulators of a cell of the open visit of a column. -/
def State.updAcc (s : State) (d col rho : Nat) (f : CellAcc → CellAcc) : State :=
  match s.visitOf d col with
  | none => s
  | some v =>
    let x := s.visit d v
    s.setStrip d { s.strip d with visits := Tab.put (s.openVisits d) v (x.setAcc rho (f (x.acc rho))) }

/-- Bin one detection of the queue (R180 to R182). -/
def State.binDet (s : State) (d : Nat) (e : Det) : State :=
  if e.cls = 3 ∧ e.lit = true then
    match s.visitOf d e.col with
    | none => s
    | some v =>
      let a := (s.visit d v).acc e.rho
      if s.gateOk d e.band e.tau then
        let r := binInto a.words e.lcnt e.tau
        let s := s.updAcc d e.col e.rho (fun a => { a with words := r.1, changed := true })
        if r.2 then s.cnt F.STRIP.CTX_CNT3.SAT 1 d else s
      else
        (s.updAcc d e.col e.rho (fun a => { a with words := addSat a.words 33 23 12 1, changed := true })).cnt
          F.STRIP.CTX_CNT3.MISBAND 1 d
  else s

/-- The visit a detection waits for has been read. -/
def State.detReady (s : State) (d : Nat) (e : Det) : Bool :=
  match s.visitOf d e.col with
  | none => true
  | some v => (s.visit d v).read

/-- Take up to n detections off the head of the queue while their visits are read (R164, R186). -/
def State.binHead : Nat → State → Nat → State
  | 0, s, _ => s
  | n + 1, s, d =>
    match (s.strip d).dets with
    | [] => s
    | e :: t =>
      if s.detReady d e then State.binHead n ((s.setStrip d { s.strip d with dets := t }).binDet d e) d else s

/-- Entries that binning may still take in this cycle: four in all (R164). -/
def State.binLeft (s : State) (d : Nat) : Nat := if (s.strip d).binAt = s.raw then 4 - (s.strip d).binN else 4

/-- BIN_DETECTION: binning takes up to four entries in a cycle (R164). -/
def execBinDetection (d : Fin 24) (s : State) : Out :=
  whenLive s fun s =>
    let t := State.binHead (s.binLeft d) s d
    let n := (s.strip d).dets.length - (t.strip d).dets.length
    t.setStrip d { t.strip d with binAt := s.raw, binN := 4 - s.binLeft d + n }

/-! ## Closing (R191 to R194) -/

/-- The entry of a closed cell from its tile's words (R191). -/
def closeEntry (n : Nat) (w32 w33 w36 : Word) (late : Bool) : Word :=
  BitVec.ofNat 48 ((if w36.getLsbD w36Bad then 2 ^ 47 else 0) + (if w36.getLsbD w36Starved then 2 ^ 46 else 0) +
    (if w36.getLsbD w36Fresh then 2 ^ 45 else 0) + (if late then 2 ^ 44 else 0) +
    bits w32 47 40 * 2 ^ 36 + bits w33 3 0 * 2 ^ 32 + bits w36 47 32 * 2 ^ 16 + n)

/-- A list of tiles with one put in, rising. -/
def insertTile (l : List Nat) (n : Nat) : List Nat :=
  match l with
  | [] => [n]
  | a :: t => if n < a then n :: a :: t else if n = a then a :: t else a :: insertTile t n

/-- A closed cell's entry joins the queue, or the overflow set when the queue is full (R193). -/
def State.enqueueClose (s : State) (d n frame : Nat) : State :=
  let st := s.strip d
  if st.cq.length < 64 then
    let w := fun i => s.rdMem (48 * n + i)
    s.setStrip d { st with cq := st.cq ++ [{ entry := closeEntry n (w 32) (w 33) (w 36) false, at_ := s.now, frame := frame }] }
  else (s.setStrip d { st with ovf := insertTile st.ovf n }).setBit F.STRIP.CTX_STAT.QOVF true d

/-- A cell closes: CLOSED and HELD set, LAST_CLOSE and STARVED are written, it is counted and queued (R191). -/
def State.closeCell (s : State) (d n k frame : Nat) : State :=
  let starved := decide (shotsOf (s.rdMem (48 * n + 32)) < k)
  let w36 := setWBit (setWBit (setWBit (s.rdMem (48 * n + 36)) w36Closed true) w36Held true) w36Starved starved
  let s := ((s.wrMem (48 * n + 36) w36).wrMem (48 * n + 35) s.timeNow).reCrc n
  let s := s.cnt F.STRIP.CTX_CNT1.CLOSED 1 d
  let s := if starved then s.cnt F.STRIP.CTX_CNT1.STARVED 1 d else s
  let st := s.strip d
  let s := s.setStrip d { st with closed := insertTile st.closed n, pend := Tab.del st.pend n, clAt := Tab.put st.clAt n s.now }
  let s := { s with dome := { s.dome with closes := (n, frame) :: s.dome.closes } }
  (s.ringClosed (d / 6) starved).enqueueClose d n frame

/-- OVERFLOW_CELL_ENTERS: with room in the queue the lowest overflow cell enters it, with LATE set (R193). -/
def execOverflowCellEnters (d : Fin 24) (s : State) : Out :=
  whenLive s fun s =>
    let st := s.strip d
    match st.ovf with
    | [] => s
    | n :: t =>
      if st.cq.length < 64 then
        let w := fun i => s.rdMem (48 * n + i)
        let frame := (s.dome.closes.find? (fun p => p.1 == n)).elim s.dome.frame (·.2)
        let e : CqE := { entry := closeEntry n (w 32) (w 33) (w 36) true, at_ := s.now, frame := frame }
        (s.setStrip d { st with ovf := t, cq := st.cq ++ [e] }).cnt F.STRIP.CTX_CNT1.LATE 1 d
      else s

/-- A close that came before the frame boundary of its tick is not one of the new frame (R196). -/
def State.closedBefore (s : State) (d n : Nat) : State :=
  s.setStrip d { s.strip d with closed := (s.strip d).closed.filter (· != n) }

/-- Write back one cell of an ended visit, and close it where R188 says so. A close at K in the tick of a frame boundary that
has acted comes before that boundary (R196). -/
def State.writeBack (s : State) (d n : Nat) (a : CellAcc) : State :=
  let a := if a.held then a else { a with words := addSat a.words 32 39 32 1, changed := true }
  let s := if a.changed then
      let s := s.wrWords (48 * n) (a.words.take 35)
      let s := if a.afresh then s.wrMem (48 * n + 36) (a.words.getD 36 0) else s
      s.reCrc n
    else s
  let st := s.strip d
  let now := st.bndAt == some s.raw
  let k := if now then st.bndK else s.kOf d
  let full := !a.held && decide (k ≤ shotsOf (a.words.getD 32 0))
  if full && now then (s.closeCell d n k st.bndFrame).closedBefore d n
  else
    match Tab.find? st.pend n with
    | some kf => s.closeCell d n kf.1 kf.2
    | none => if full then s.closeCell d n k s.dome.frame else s

/-- VISIT_WRITEBACK_DONE: the first visit that has ended is written back and its cells close (R188). -/
def execVisitWritebackDone (d : Fin 24) (s : State) : Out :=
  whenLive s fun s =>
    let st := s.strip d
    match st.ending with
    | [] => s
    | x :: t =>
      if x.read then
        let s := s.setStrip d { st with ending := t }
        (s.writeBack d (cellTile d x.col 0) x.c0).writeBack d (cellTile d x.col 1) x.c1
      else s

/-- A VISIT that joined a visit in the tick in which it ends opens a new one (R278). -/
def State.visitAgain (s : State) (d : Nat) (x : Visit) : State :=
  match x.join with
  | some (n, t) =>
    if n = s.raw then (s.openVisit d x.col t).setCore (d / 6) { s.core (d / 6) with zf := false } else s
  | none => s

/-- A visit ends: it leaves its slot and awaits its write-back; one not yet read is read first (R24, R188). -/
def State.endVisit (s : State) (d v : Nat) : State :=
  let x := s.visit d v
  let r0 := s.readCell d (cellTile d x.col 0)
  let r1 := r0.2.readCell d (cellTile d x.col 1)
  let y := if x.read then x else { x with read := true, c0 := r0.1, c1 := r1.1 }
  let s := if x.read then s else r1.2
  let s := s.setStrip d { s.strip d with visits := Tab.del (s.openVisits d) v, ending := (s.strip d).ending ++ [y] }
  s.visitAgain d x

/-- VISIT_EMPTY_TIMEOUT: a visit with no part booked by T_col + 4,096 ns ends without write-back; a pending cell of its
column closes with the shots it had (R187). -/
def execVisitEmptyTimeout (d : Fin 24) (s : State) : Out :=
  whenLive s fun s =>
    match List.find? (fun p : Nat × Visit => !p.2.booked && s.due (p.2.tcol + 81920)) (s.openVisits d) with
    | none => s
    | some (v, x) =>
      let s := s.setStrip d { s.strip d with visits := Tab.del (s.openVisits d) v }
      let s := (s.cnt F.STRIP.CTX_CNT3.VEMPTY 1 d).visitAgain d x
      forEach [0, 1] s (fun s rho =>
        let n := cellTile d x.col rho
        match Tab.find? (s.strip d).pend n with
        | some kf => s.closeCell d n kf.1 kf.2
        | none => s)

/-! ## Parts of a visit (R185) -/

/-- What a part that leaves flight adds to one cell: its class, whether its start was forced, its stops and blind counts,
its band-lost marks for the row, and its L_cnt (R181, R183, R185). -/
def State.countPart (s : State) (d col rho : Nat) (cls : PClass) (forced fskip : Bool)
    (stops blind lost lcnt : Nat) : State :=
  let n := cellTile d col rho
  match cls with
  | .held =>
    (s.updAcc d col rho (fun a => { a with words := addSat a.words 34 15 8 1, changed := true })).cnt
      F.STRIP.CTX_CNT2.HELDLOST 1 d
  | .tilt =>
    (s.updAcc d col rho (fun a => { a with words := addSat a.words 34 23 16 1, changed := true })).cnt
      F.STRIP.CTX_CNT2.TILT 1 d
  | .dark =>
    s.updAcc d col rho (fun a =>
      { a with words := addSat (addSat a.words 33 11 4 1) 34 47 24 stops, changed := true })
  | .lit =>
    if forced && fskip then
      s.updAcc d col rho (fun a => { a with words := addSat a.words 32 31 24 1, changed := true })
    else
      let first := Tab.find? (s.strip d).lfirst n
      let s := s.updAcc d col rho (fun a =>
        let w := addSat (addSat (addSat a.words 32 47 40 1) 32 23 0 blind) 33 47 24 stops
        let w := if forced then addSat w 32 31 24 1 else w
        let w := setAt w 33 (w.getD 33 0 ||| BitVec.ofNat 48 lost)
        let w := if (match first with | some l => l != lcnt | none => false) then orWBit w 34 1 else w
        { a with words := w, changed := true })
      match first with
      | some _ => s
      | none => s.setStrip d { s.strip d with lfirst := Tab.put (s.strip d).lfirst n lcnt }

/-- A part has left flight or was skipped: it leaves its visit on a strip, which ends when it was the last (R24). -/
def State.leaveVisit (s : State) (d col pid : Nat) : State :=
  match s.visitOf d col with
  | none => s
  | some v =>
    let x := s.visit d v
    let x := { x with parts := x.parts.filter (· != pid) }
    let s := s.setStrip d { s.strip d with visits := Tab.put (s.openVisits d) v x }
    if x.booked && x.parts.isEmpty then s.endVisit d v else s

/-- A booking joins the visit of its column on the six strips of its bank. -/
def State.joinVisit (s : State) (b col pid : Nat) : State :=
  forEach (List.range 6) s (fun s k =>
    let d := 6 * b + k
    match s.visitOf d col with
    | none => s
    | some v =>
      let x := s.visit d v
      s.setStrip d { s.strip d with
        visits := Tab.put (s.openVisits d) v { x with booked := true, parts := x.parts ++ [pid] } })

/-! ## Frames (R194) -/

/-- One cell at a frame boundary: it closes at once, or pends on its open visit, or is left alone. -/
def State.frameCell (s : State) (d k frame : Nat) (n : Nat) : State :=
  let st := s.strip d
  let col := n % 2048 / 2
  let rho := n % 2
  if st.closed.contains n || (s.rdMem (48 * n + 36)).getLsbD w36Held then s
  else
    let opened := s.visitOf d col
    let ending := st.ending.any (fun x => x.col == col)
    let stored := match st.ending.find? (fun x => x.col == col) with
      | some x => shotsOf ((x.acc rho).words.getD 32 0)
      | none => shotsOf (s.rdMem (48 * n + 32))
    let shots := match opened with
      | some v => if (s.visit d v).read then shotsOf (((s.visit d v).acc rho).words.getD 32 0) else stored
      | none => stored
    if s.actFlag F.STRIP.CELL_CFG.ZSKIP d && shots == 0 then s
    else if opened.isSome || ending then s.setStrip d { st with pend := Tab.put st.pend n (k, frame) }
    else s.closeCell d n k frame

/-- Step 1 of a frame boundary on one strip. -/
def State.frameStrip (s : State) (frame : Nat) (d : Nat) : State :=
  let k := s.kOf d
  let s := s.setStrip d { s.strip d with bndAt := some s.raw, bndK := k, bndFrame := frame }
  forEach (List.range 2048) s (fun s i => s.frameCell d k frame (2048 * d + i))

/-- Step 3 on one strip: FRAME advances, and no cell has closed since the boundary. -/
def State.frameNext (s : State) (d : Nat) : State :=
  (s.setStrip d { s.strip d with closed := [] }).cnt F.STRIP.CTX_STAT.FRAME 1 d

end Sys2Proof.Machine
end

