-- ==== Sys2Proof/Machine/Receiver.lean ====
section
/-!
DEFINITION. The SPAD receiver and the TDC array: bias, slots, placement, coincidence, conversion and calibration
(spec/07_receiver_tdc.md).
-/
namespace Sys2Proof.Machine

/-! ## Power, bias and faults (R152, R153, R169, R170) -/

/-- A strip fault: FAULT sets and the Dome is told (R170). -/
def State.stripFault (s : State) (d : Nat) : State := (s.setBit F.STRIP.RX_STAT.FAULT true d).report (.strip d)

/-- Domains whose BIAS_ERR sets in one tick: all 24 give one receiver fault, otherwise a strip fault each (R153, R170). -/
def State.setBiasErr (s : State) (ds : List Nat) : State :=
  let s := forEach ds s (fun s d => (s.setBit F.STRIP.RX_STAT.BIAS_ERR true d).setBit F.STRIP.RX_STAT.FAULT true d)
  let s := forEach ds s (fun s d => s.report (.strip d))
  let same (p : Report × Nat) : Bool :=
    p.2 == s.raw && (match p.1 with
      | .strip d => s.flag F.STRIP.RX_STAT.BIAS_ERR d
      | _ => false)
  if (List.range 24).all (fun d => s.dome.reports.contains (.strip d, s.raw) && s.flag F.STRIP.RX_STAT.BIAS_ERR d) then
    { s with dome := { s.dome with reports := s.dome.reports.filter (fun p => !same p) } }.report .receiver
  else s

/-- A strip powers up with its bank (R169): the 200 µs of R153 start afresh, and so do the samplers' first tests (R166); its
free slots and its start sampler take calibration hits (R392). -/
def State.powerUp (s : State) (d : Nat) : State :=
  if s.flag F.STRIP.RX_STAT.POWERED d then s
  else
    let s := (s.setBit F.STRIP.RX_STAT.POWERED true d).setBit F.STRIP.RX_STAT.BIAS_OK false d
    let st := s.strip d
    s.setStrip d { st with
      powAt := some s.now, clearAt := s.now, okSeen := false, biasAt := s.now, vaFirst := false, fresh := []
      freeFrom := ((List.range 5).filter (fun q => (Tab.find? st.slots q).isNone)).map (fun q => (q, s.now)) }

/-- Ticks a strip has been powered since reset. -/
def State.powered (s : State) (d : Nat) : Nat :=
  (s.strip d).powSum + (match (s.strip d).powAt with
    | some t => ((s.now - t) / 16).toNat
    | none => 0)

/-- The SPADs of a domain are gated off for every part in flight from now on (R159, R171). -/
def State.gateDomain (s : State) (d : Nat) : State :=
  { s with strips := s.strips.map (fun (p : Nat × Strip) => (p.1, { p.2 with slots := p.2.slots.map (fun (x : Nat × Slot) =>
      (x.1, { x.2 with gates := if (Tab.find? x.2.gates d).isSome then x.2.gates else Tab.put x.2.gates d s.now })) })) }

/-- Powered time for which BIAS_OK has been clear, in 50 ps (R153). -/
def State.clearTime (s : State) (d : Nat) : Nat :=
  let st := s.strip d
  st.clearSum + (if st.powAt.isSome ∧ s.flag F.STRIP.RX_STAT.BIAS_OK d = false then (s.now - st.clearAt).toNat else 0)

/-- Free time for calibration of slot q, or at 4 of the start sampler, in 50 ps (R392). -/
def Strip.freeTime (st : Strip) (now : Inst) (q : Nat) : Nat :=
  Tab.get (fun _ => 0) st.freeSum q + ((Tab.find? st.freeFrom q).map (fun t => (now - t).toNat)).getD 0

/-- A slot, or the start sampler, is no longer free from an instant on; it is free again. -/
def Strip.freeStop (st : Strip) (t : Inst) (q : Nat) : Strip :=
  { st with freeSum := Tab.put st.freeSum q (st.freeTime t q), freeFrom := Tab.del st.freeFrom q }
def Strip.freeStart (st : Strip) (t : Inst) (q : Nat) : Strip :=
  if st.powAt.isSome ∧ (Tab.find? st.freeFrom q).isNone then { st with freeFrom := Tab.put st.freeFrom q t } else st

/-- A strip powers down (R153, R169): BIAS_OK clears, and neither its clear time nor its free time for calibration counts on. -/
def State.powerDown (s : State) (d : Nat) : State :=
  if s.flag F.STRIP.RX_STAT.POWERED d then
    let sum := s.powered d
    let clear := s.clearTime d
    let s := ((s.setBit F.STRIP.RX_STAT.POWERED false d).setBit F.STRIP.RX_STAT.BIAS_OK false d).gateDomain d
    s.setStrip d { (List.range 5).foldl (fun st q => st.freeStop s.now q) (s.strip d) with
      powAt := none, powSum := sum, clearSum := clear, vaNext := none }
  else s

/-- VEX acts within 1,000 to 5,000 mV (R172). -/
def State.vex (s : State) (d : Nat) : Nat := clampN 1000 5000 (s.fld F.STRIP.BIAS_CFG.VEX d)

/-- BIAS_OK has stayed clear for too long: it has not set within 200 µs of power-up, or has been clear for 1 ms of powered time
(R153). -/
def State.biasLate (s : State) (d : Nat) : Bool :=
  let st := s.strip d
  s.flag F.STRIP.RX_STAT.POWERED d && !s.flag F.STRIP.RX_STAT.BIAS_OK d &&
  ((!st.okSeen && s.dueOpt (st.powAt.map (· + 4000000))) || decide (20000000 ≤ s.clearTime d))

/-- BIAS_ERR_TIMEOUT for the domains whose count ends in one tick (R153). -/
def execBiasErrTimeout (ds : BitVec 24) (s : State) : Out :=
  whenLive s fun s =>
    s.setBiasErr ((List.range 24).filter (fun d => ds.getLsbD d && s.biasLate d && !s.flag F.STRIP.RX_STAT.BIAS_ERR d))

/-- Milliseconds of powered time since the oldest completed test, saturating (R167). -/
def State.calAge (s : State) (d : Nat) : Nat :=
  match (s.strip d).testAt with
  | [] => 0
  | p :: t => min 65535 ((s.powered d - t.foldl (fun m q => min m q.2) p.2) / 1250000)

/-- CAL_STALE: AGE exceeds 1,000, so STALE and FAULT set and a strip fault is reported (R167, R170). -/
def execCalStale (d : Fin 24) (s : State) : Out :=
  whenLive s fun s =>
    onlyIf (s.flag F.STRIP.RX_STAT.POWERED d && decide (1000 < s.calAge d) && !s.flag F.STRIP.RX_STAT.STALE d) s fun s =>
      (s.setBit F.STRIP.RX_STAT.STALE true d).stripFault d

/-- A write of RX_STAT: BIAS_ERR clears only while BIAS_OK is set, STALE only while AGE is at most 1,000, and FAULT only
when RET_CH ≤ 2 and both are clear (R167, R170); a bit that sets in the same tick ends set (R8). -/
def State.wrRxStat (s : State) (d : Nat) (v : Word) : WRes :=
  let s := if v.getLsbD 5 && s.flag F.STRIP.RX_STAT.BIAS_OK d && s.since F.STRIP.RX_STAT.BIAS_ERR d == 0 then s.setBit F.STRIP.RX_STAT.BIAS_ERR false d else s
  let s := if v.getLsbD 6 && decide (s.calAge d ≤ 1000) && s.since F.STRIP.RX_STAT.STALE d == 0 then s.setBit F.STRIP.RX_STAT.STALE false d else s
  (if v.getLsbD 7 && decide (s.fld F.STRIP.RX_STAT.RET_CH d ≤ 2) && !s.flag F.STRIP.RX_STAT.BIAS_ERR d &&
      !s.flag F.STRIP.RX_STAT.STALE d && s.since F.STRIP.RX_STAT.FAULT d == 0 then s.setBit F.STRIP.RX_STAT.FAULT false d else s,
    none)

/-! ## Slots and placement (R156 to R160) -/

/-- Channel j of strip d is retired. -/
def State.chRetired (s : State) (d j : Nat) : Bool := s.flag F.CHAN.CAL.RETIRED (32 * d + j)

/-- A slot holds a retired channel. -/
def State.slotRetired (s : State) (d q : Nat) : Bool := (List.range 8).any (fun i => s.chRetired d (8 * q + i))

/-- The slot a new part takes: the lowest free one without a retired channel, else the lowest free one (R156). -/
def State.pickSlot (s : State) (d : Nat) : Option Nat :=
  let free := (List.range 4).filter (fun q => (Tab.find? (s.strip d).slots q).isNone)
  match free.find? (fun q => !s.slotRetired d q) with
  | some q => some q
  | none => free.head?

/-- Top-left SPAD of the macro-pixel of row parity ρ and band k for base column uc (R157). -/
def State.placeMp (s : State) (d uc rho k : Nat) : Nat × Nat :=
  let u0 := clampI 0 252 ((uc : Int) + s.fldS F.STRIP.BAND_CAL.DU d k)
  let vr : Int := if rho = 0 then s.fld F.STRIP.PLACE.V_R0 d else s.fld F.STRIP.PLACE.V_R1 d
  let vc := vr + roundDiv (s.fldS F.STRIP.PLACE.KV d * s.fldS F.MIRR.V_POS.P_MEAS) 16777216
  (u0.toNat, (clampI 0 92 ((vc + 8) / 16 - 2)).toNat)

/-- A SPAD can be enabled: it is not retired and its domain's BIAS_OK is set (R158). -/
def State.spadOk (s : State) (u v : Nat) : Bool :=
  s.flag F.STRIP.RX_STAT.BIAS_OK (v / 4) && !(s.strip (v / 4)).retired.contains (256 * v + u)

/-- Enabled SPADs of a macro-pixel. -/
def State.mpCount (s : State) (uv : Nat × Nat) : Nat :=
  ((List.range 16).filter (fun i => s.spadOk (uv.1 + i % 4) (uv.2 + i / 4))).length

/-- The threshold m of a cell with ambient estimate amb (R160). -/
def State.mOf (s : State) (d amb : Nat) : Nat :=
  let base := clampN 1 4 (s.act F.STRIP.COINC_CFG.M_BASE d)
  let top := clampN base 4 (s.act F.STRIP.COINC_CFG.M_MAX d)
  let step (t : Nat) : Nat := if t ≤ amb then 1 else 0
  min top (base + step (s.act F.STRIP.COINC_CFG.T1 d) + step (s.act F.STRIP.COINC_CFG.T2 d) +
    step (s.act F.STRIP.COINC_CFG.T3 d))

/-- Word w of a cell's tile as its visit has it in the accumulators or, while the visit has not been read, as its read will find
it: a tile that fails its check is re-initialised (R160, R177). -/
def State.cellWord (s : State) (d col rho w : Nat) : Word :=
  let n := cellTile d col rho
  let ws := s.rdTile n
  let raw := if tileOk ws n then ws.getD w 0 else tileReset n w
  match s.visitOf d col with
  | some v => if (s.visit d v).read then ((s.visit d v).acc rho).words.getD w 0 else raw
  | none => raw

/-- Rules 1 to 3 of R185 at the FIRE edge; rules 4 and 5 wait for the start. -/
def State.classOf (s : State) (d col rho fmask : Nat) : PClass :=
  let raw := (s.cellWord d col rho 36).getLsbD w36Held
  let held := match s.visitOf d col with
    | some v => if (s.visit d v).read then ((s.visit d v).acc rho).held else raw
    | none => raw
  if held || (Tab.find? (s.strip d).pend (cellTile d col rho)).isSome then .held
  else if s.actFlag F.STRIP.CELL_CFG.TILT_X d && !s.flag F.MIRR.STAT.V_INPOS then .tilt
  else if fmask.testBit (2 * (d % 6) + rho) then .lit
  else .dark

/-- What slot q of strip d holds of a part whose edge lies at tf: macro-pixels, thresholds, marks, classes, the settings in force
and the domains that are gated off (R156 to R160, R162, R185). -/
def State.slotFor (s : State) (p : Part) (tf : Inst) (d q : Nat) : Slot :=
  let uv := (List.range 8).map (fun i => s.placeMp d p.pxb (i / 4) (i % 4))
  let n := uv.map s.mpCount
  let mm := (List.range 8).map (fun i =>
    min (n.getD i 0) (s.mOf d (bits (s.cellWord d p.col (i / 4) 37) 47 36)))
  let lost := (List.range 8).foldl (fun a i =>
    if n.getD i 0 == 0 || s.chRetired d (8 * q + i) then a ||| (1 <<< i) else a) 0
  { pid := p.pid, bank := p.bank, col := p.col, uv := uv, n := n, m := mm, lost := lost
    w := 8 * (s.act F.STRIP.COINC_CFG.W d + 1), hoMode := s.actFlag F.STRIP.HO_CFG.HO_MODE d
    hoEvt := max 1 (s.act F.STRIP.HO_CFG.HO_EVT d), hoTime := min 28 (s.act F.STRIP.HO_CFG.HO_TIME d)
    fskip := s.actFlag F.STRIP.CELL_CFG.FSKIP d
    cls0 := s.classOf d p.col 0 p.fmask, cls1 := s.classOf d p.col 1 p.fmask
    gates := ((List.range 24).filter (fun e => !s.flag F.STRIP.RX_STAT.BIAS_OK e)).map (fun e => (e, tf)) }

/-- An event's key: its time in ps and its SPAD (R154, R159). -/
def evKey (ps spad : Nat) : Nat := 32768 * ps + spad

/-- The channels of slot q, armed at the edge but for the bands that are lost (R162). -/
def Slot.arm (sl : Slot) (tf : Inst) (q : Nat) (chans : Tab Chan) : Tab Chan :=
  (List.range 8).foldl (fun t i => Tab.put t (8 * q + i) { armed := !sl.lost.testBit i, from_ := evKey (tf * 50).toNat 0 }) chans

/-- SLOT_ASSIGN on one strip: a slot is taken and its channels are armed (R156); neither the slot nor the start sampler takes
calibration hits from the edge on (R392). -/
def State.assignSlot (s : State) (p : Part) (tf : Inst) (d : Nat) : State :=
  match s.pickSlot d with
  | none => s
  | some q =>
    let st := ((s.strip d).freeStop tf q).freeStop tf 4
    let sl := s.slotFor p tf d q
    s.setStrip d { st with slots := Tab.put st.slots q sl, chans := sl.arm tf q st.chans }

/-- The slot of a strip that holds a part. -/
def State.slotOf (s : State) (d pid : Nat) : Option Nat :=
  (List.find? (fun x : Nat × Slot => x.2.pid == pid) (s.strip d).slots).map (·.1)

/-- A slot whose part's edge has still to leave takes the settings now in force (R171). -/
def State.reassign (s : State) (p : Part) (d : Nat) : State :=
  match s.slotOf d p.pid, p.fired with
  | some q, some tf =>
    let sl := s.slotFor p tf d q
    s.setStrip d { s.strip d with slots := Tab.put (s.strip d).slots q sl, chans := sl.arm tf q (s.strip d).chans }
  | _, _ => s

/-- The edge of a part has still to leave, in this tick or later. -/
def State.edgeAhead (s : State) (p : Part) : Bool := p.fired.any (fun tf => decide ((s.raw : Int) ≤ tickOf tf))

/-- The slots of parts whose edges have still to leave take what is now in force (R171). -/
def State.refreshAhead (s : State) : State :=
  (s.fire.parts.filter s.edgeAhead).foldl (fun s p => forEach (List.range 6) s (fun s k => s.reassign p (6 * p.bank + k))) s

/-- BIAS_OK_CHANGE: the measured excess bias has been within 50 mV of VEX, or outside, for 10 µs (R153). No 10 µs have passed
earlier than that after power-up or the last change; a domain whose BIAS_OK clears is gated off for the parts in flight. -/
def execBiasOkChange (d : Fin 24) (vexM : BitVec 16) (s : State) : Out :=
  whenLive s fun s => onlyIf (s.flag F.STRIP.RX_STAT.POWERED d && s.due ((s.strip d).biasAt + 200000)) s fun s =>
    let s := s.setFld F.STRIP.BIAS_STAT.VEX_M vexM.toNat d
    let ok := decide (((vexM.toNat : Int) - s.vex d).natAbs ≤ 50)
    if ok && !s.flag F.STRIP.RX_STAT.BIAS_OK d then
      let s := s.setBit F.STRIP.RX_STAT.BIAS_OK true d
      (s.setStrip d { s.strip d with okSeen := true, clearSum := 0, biasAt := s.now }).refreshAhead
    else if !ok && s.flag F.STRIP.RX_STAT.BIAS_OK d then
      let s := (s.setBit F.STRIP.RX_STAT.BIAS_OK false d).gateDomain d
      (s.setStrip d { s.strip d with clearAt := s.now, biasAt := s.now }).refreshAhead
    else s

/-- No part but this one awaits its start, so that the strip's start sampler is free without it (R392). -/
def State.startFree (s : State) (b pid : Nat) : Bool :=
  s.fire.parts.all (fun p => p.bank != b || p.pid == pid || p.fired.isNone || p.tstart.isSome)

/-- A slot taken for an edge that does not leave is free again (R80). -/
def State.unassign (s : State) (d pid : Nat) : State :=
  match s.slotOf d pid with
  | none => s
  | some q =>
    let st := (s.strip d).freeStart s.now q
    let st := if s.startFree (d / 6) pid then st.freeStart s.now 4 else st
    s.setStrip d { st with slots := Tab.del st.slots q }

/-- A bank's part has its start: the start samplers of its strips are free once none awaits one (R392). -/
def State.startTaken (s : State) (b : Nat) : State :=
  if s.startFree b s.fire.nextPid then
    forEach (List.range 6) s (fun s k => s.setStrip (6 * b + k) ((s.strip (6 * b + k)).freeStart s.now 4))
  else s

/-- SLOT_ASSIGN on the six strips of the part's bank (R156). -/
def State.assignSlots (s : State) (p : Part) (tf : Inst) : State :=
  forEach (List.range 6) s (fun s k => s.assignSlot p tf (6 * p.bank + k))

/-! ## Coincidence (R159, R162, R163) -/

/-- The first coincidence among events, as rising keys, from one on: its first and its m-th event, at least m events lying within
w ps of the first (R159). -/
def coincidence (evs : List Nat) (from_ m w : Nat) : Option (Nat × Nat) :=
  let l := evs.filter (fun e => from_ ≤ e)
  l.findSome? (fun e =>
    let inW := l.filter (fun x => e ≤ x && x / 32768 ≤ e / 32768 + w)
    if m ≤ inW.length ∧ m ≠ 0 then some (e, inW.getD (m - 1) e) else none)

/-- The device instant of an event: the first phase edge at or after it (R161). -/
def evInst (e : Nat) : Inst := ((e + 49) / 50 : Nat)

def State.part (s : State) (pid : Nat) : Option Part := s.fire.parts.find? (fun p => p.pid == pid)

/-- Change a part. -/
def State.updPart (s : State) (pid : Nat) (f : Part → Part) : State :=
  { s with fire := { s.fire with parts := s.fire.parts.map (fun p => if p.pid == pid then f p else p) } }

def State.slot (s : State) (d q : Nat) : Option Slot := Tab.find? (s.strip d).slots q
def State.chan (s : State) (d j : Nat) : Chan := Tab.get (fun _ => {}) (s.strip d).chans j
def State.setChan (s : State) (d j : Nat) (c : Chan) : State :=
  s.setStrip d { s.strip d with chans := Tab.put (s.strip d).chans j c }

/-- When the SPADs of a part are gated off, once its start is known (R158). -/
def Part.gateAt (p : Part) : Option Inst := p.tstart.map (fun t => t + 16 * (p.lcnt : Int))

/-- Events of a part's span: those after its window has closed are not taken (R158, R171). -/
def Part.inSpan (p : Part) (e : Nat) : Bool :=
  !p.closed && (match p.gateAt with
    | some g => decide (evInst e < g)
    | none => true)

/-- A macro-pixel of a slot covers a SPAD (R157). -/
def Slot.covers (sl : Slot) (i u v : Nat) : Bool :=
  let x := sl.uv.getD i (0, 0)
  decide (i < sl.uv.length ∧ x.1 ≤ u ∧ u < x.1 + 4 ∧ x.2 ≤ v ∧ v < x.2 + 4)

/-- A SPAD is enabled at an event's time for the part in a slot: within the part's span, not retired, its domain not gated off
(R158, R159). -/
def State.spadOn (s : State) (sl : Slot) (u v ps : Nat) : Bool :=
  (s.part sl.pid).any (fun p => p.inSpan ps && p.fired.any (fun (tf : Inst) => decide (tf * 50 ≤ (ps : Int)))) &&
  !(s.strip (v / 4)).retired.contains (256 * v + u) &&
  (Tab.find? sl.gates (v / 4)).all (fun g => decide (evInst ps < g))

/-- Some macro-pixel enables a SPAD at a time. -/
def State.spadLive (s : State) (u v ps : Nat) : Bool :=
  s.strips.any (fun (p : Nat × Strip) => p.2.slots.any (fun (x : Nat × Slot) =>
    (List.range 8).any (fun i => x.2.covers i u v) && s.spadOn x.2 u v ps))

/-- The recovery time of a SPAD in ps: free, and at most 3.0 ns (R154). -/
def recovery (spad : Nat) : Nat := Config.free .recovery spad % 3001

/-- A SPAD has recovered by a time from an event of its own, or has yet to have it (R154). -/
def recovered (spad ps e : Nat) : Bool :=
  decide (e % 32768 ≠ spad ∨ e / 32768 + 3000 ≤ ps ∨ ps + 3000 ≤ e / 32768) ||
  decide (e / 32768 + recovery spad ≤ ps ∨ ps + recovery spad ≤ e / 32768)

/-- A key into a list of rising keys. -/
def insertKey (k : Nat) : List Nat → List Nat
  | [] => [k]
  | a :: t => if k < a then k :: a :: t else if k = a then a :: t else a :: insertKey k t

/-- A SPAD event: it counts for every channel whose macro-pixel holds the SPAD, where one of them enables the SPAD and it has
recovered (R154, R158). -/
def State.addEvent (s : State) (e : SpadEv) : State :=
  let spad := 256 * e.v.val + e.u.val
  if s.spadLive e.u e.v e.ps && s.spads.all (fun k => k == evKey e.ps spad || recovered spad e.ps k) then
    { s with spads := insertKey (evKey e.ps spad) s.spads }
  else s

/-- The events of channel j's macro-pixel, as rising keys. -/
def State.chanEvents (s : State) (sl : Slot) (j : Nat) : List Nat :=
  s.spads.filter (fun k =>
    sl.covers (j % 8) (k % 256) (k % 32768 / 256) && s.spadOn sl (k % 256) (k % 32768 / 256) (k / 32768))

/-- When a disarmed channel with the given events re-arms (R162). -/
def rearmAt (sl : Slot) (c : Chan) (evs : List Nat) : Inst :=
  if !sl.hoMode then c.stop + 16 * ((sl.hoTime : Int) + 4)
  else
    let t := match (evs.filter (fun k => c.key < k))[sl.hoEvt - 1]? with
      | some k => evInst (k / 32768)
      | none => c.stop + 512
    clampI (c.stop + 64) (c.stop + 512) t

/-- An armed channel takes the earliest event that begins a coincidence of m within W (R159, R162). -/
def State.takeStop (s : State) (d j : Nat) (sl : Slot) : State :=
  let c := s.chan d j
  match coincidence (s.chanEvents sl j) c.from_ (sl.m.getD (j % 8) 0) (50 * sl.w) with
  | none => s
  | some (e, last) =>
    if c.armed then
      let stop := evInst (e / 32768)
      let s := s.setChan d j { armed := false, stop := stop, key := e, from_ := last + 1 }
      let s := s.setStrip d { s.strip d with convs := (s.strip d).convs ++ [{ pid := sl.pid, j := j, stop := stop, blind := 0 }] }
      (s.cnt F.CHAN.CNT.STOPS 1 (32 * d + j)).cnt F.STRIP.RX_CNT1.STOPS 1 d
    else s

/-- CHANNEL_STOP: SPADs have fired, and the channel takes its stop (R159). -/
def execChannelStop (d : Fin 24) (j : Fin 32) (events : List SpadEv) (s : State) : Out :=
  whenLive s fun s =>
    match s.slot d (j / 8) with
    | none => s
    | some sl => (events.foldl State.addEvent s).takeStop d j sl

/-- Add blind counts of a row to the part in a slot. -/
def State.addBlind (s : State) (d q rho n : Nat) : State :=
  match s.slot d q with
  | none => s
  | some sl =>
    let sl := if rho = 0 then { sl with blind0 := sl.blind0 + n } else { sl with blind1 := sl.blind1 + n }
    s.setStrip d { s.strip d with slots := Tab.put (s.strip d).slots q sl }

/-- While disarmed, a coincidence after the last one's last event adds one blind count (R163). The count goes with its stop: while
that awaits conversion it waits with it, since those of an early stop are not delivered (R161). -/
def State.takeBlind (s : State) (d j : Nat) (sl : Slot) : State :=
  let c := s.chan d j
  let evs := s.chanEvents sl j
  match coincidence (evs.filter (fun k => decide (evInst (k / 32768) < rearmAt sl c evs))) c.from_ (sl.m.getD (j % 8) 0)
      (50 * sl.w) with
  | none => s
  | some (_, last) =>
    let s := s.setChan d j { c with from_ := last + 1 }
    let s := (s.cnt F.CHAN.CNT.BLIND 1 (32 * d + j)).cnt F.STRIP.RX_CNT1.BLIND 1 d
    if (s.strip d).convs.any (fun v => v.j == j && v.stop == c.stop) then
      s.setStrip d { s.strip d with convs := (s.strip d).convs.map (fun v =>
        if v.j == j && v.stop == c.stop then { v with blind := v.blind + 1 } else v) }
    else if c.early then s
    else s.addBlind d (j / 8) (j / 4 % 2) 1

/-- BLIND_COINCIDENCE: SPADs have fired, and the disarmed channel counts a coincidence (R163). -/
def execBlindCoincidence (d : Fin 24) (j : Fin 32) (events : List SpadEv) (s : State) : Out :=
  whenLive s fun s =>
    match s.slot d (j / 8) with
    | none => s
    | some sl =>
      let s := events.foldl State.addEvent s
      onlyIf (!(s.chan d j).armed && !s.chRetired d j) s fun s => s.takeBlind d j sl

/-- CHANNEL_REARM: the hold-off has ended (R162). -/
def execChannelRearm (d : Fin 24) (j : Fin 32) (s : State) : Out :=
  whenLive s fun s =>
    match s.slot d (j / 8) with
    | none => s
    | some sl =>
      let c := s.chan d j
      let r := rearmAt sl c (s.chanEvents sl j)
      onlyIf (!c.armed && !sl.lost.testBit (j % 8) && !s.chRetired d j && s.due r) s fun s =>
        s.setChan d j { c with armed := true, from_ := evKey (r * 50 - 49).toNat 0 }

/-! ## Conversion (R161, R164, R165) -/

/-- Trim of phase p of a channel, and of the strip's start sampler (R165). -/
def State.chTrim (s : State) (i p : Nat) : Int :=
  if p < 8 then s.fldS F.CHAN.PH0.PH i p else s.fldS F.CHAN.PH1.PH i (p - 8)
def State.startTrim (s : State) (d p : Nat) : Int :=
  if p < 8 then s.fldS F.STRIP.START_TRIM0.PH d p else s.fldS F.STRIP.START_TRIM1.PH d (p - 8)

/-- The corrected time of flight in 3.125 ps (R165). -/
def State.tau (s : State) (d j : Nat) (stop start : Inst) : Int :=
  16 * (stop - start) + s.chTrim (32 * d + j) (phaseOf stop) - s.startTrim d (phaseOf start) -
    s.fldS F.CHAN.CAL.OFFS (32 * d + j) - s.fldS F.STRIP.BAND_CAL.BOFFS d (j % 4)

/-- A stop that goes to the window-contamination monitor (R161, R210). -/
def State.wcEvent (s : State) (row : Nat) : State :=
  { s with wc := { s.wc with ev := Tab.upd (fun _ => 0) s.wc.ev row (· + 1) } }

/-- A non-early stop reaches its part: it is counted, and its detection enters the queue at the end of the cycle (R161, R164). -/
def State.deliver (s : State) (d q : Nat) (c : Conv) (sl : Slot) (p : Part) (cls : Nat) (val : Int) : State :=
  let rho := c.j / 4 % 2
  let sl' := if rho = 0 then { sl with stops0 := sl.stops0 + 1, blind0 := sl.blind0 + c.blind }
    else { sl with stops1 := sl.stops1 + 1, blind1 := sl.blind1 + c.blind }
  let s := s.setStrip d { s.strip d with slots := Tab.put (s.strip d).slots q sl' }
  let pc := if rho = 0 then sl.cls0 else sl.cls1
  let lit := pc == .lit && !(p.forced && sl.fskip)
  s.setStrip d { s.strip d with arr := (s.strip d).arr ++ [{ tfire := p.tfire, j := c.j, det :=
      { pid := p.pid, rho := rho, band := c.j % 4, cls := cls, tau := val, forced := p.forced, lost := sl.lost,
        col := sl.col, lit := lit, lcnt := p.lcnt } }] }

/-- The order in which detections of one cycle enter: their parts' T_fire, then the channel (R164). -/
def Arr.before (x y : Arr) : Bool := x.tfire < y.tfire || (x.tfire == y.tfire && x.j < y.j)

def insertArr (x : Arr) : List Arr → List Arr
  | [] => [x]
  | y :: t => if x.before y then x :: y :: t else y :: insertArr x t

/-- A detection enters the queue, or finds it full: it is dropped and adds one blind count (R164). -/
def State.enterDet (s : State) (d : Nat) (x : Arr) : State :=
  if (s.strip d).dets.length < 64 then s.setStrip d { s.strip d with dets := (s.strip d).dets ++ [x.det] }
  else (s.cnt F.STRIP.RX_CNT0.DROP 1 d).addBlind d (x.j / 8) x.det.rho 1

/-- The detections of a strip whose conversions have completed in this cycle enter its queue, after those that binning has taken
have left it (R164). -/
def State.enterDets (s : State) (d : Nat) : State :=
  match (s.strip d).arr.foldl (fun l x => insertArr x l) [] with
  | [] => s
  | x :: l => (x :: l).foldl (fun s x => s.enterDet d x) (s.setStrip d { s.strip d with arr := [] })

/-- Classify one stop against its part's start (R161). -/
def State.convert (s : State) (d : Nat) (c : Conv) : State :=
  let q := c.j / 8
  match s.slot d q, s.part c.pid with
  | some sl, some p =>
    match p.tstart with
    | none => s
    | some t0 =>
      let dd := c.stop - t0
      let row := 2 * d + c.j / 4 % 2
      if dd < -128 then
        let ch := s.chan d c.j
        if ch.stop == c.stop then s.setChan d c.j { ch with early := true } else s
      else if dd ≤ -2 then ((s.cnt F.STRIP.RX_CNT0.PRE 1 d).wcEvent row).deliver d q c sl p 0 dd
      else if dd ≤ 1 then ((s.cnt F.STRIP.RX_CNT0.COINC 1 d).wcEvent row).deliver d q c sl p 1 0
      else
        let tau := s.tau d c.j c.stop t0
        if tau < 214 then ((s.cnt F.STRIP.RX_CNT0.SHORT 1 d).wcEvent row).deliver d q c sl p 2 dd
        else s.deliver d q c sl p 3 tau
  | _, _ => s

/-- The conversion of a stop is complete: 12.8 ns after the later of the stop and its part's start (R161). -/
def State.convDue (s : State) (c : Conv) : Bool :=
  match s.part c.pid with
  | none => true
  | some p => s.dueOpt (p.tstart.map (fun t => max t c.stop + 256))

/-- CONVERSION_COMPLETE on a channel (R161). -/
def execConversionComplete (d : Fin 24) (j : Fin 32) (s : State) : Out :=
  whenLive s fun s =>
    match (s.strip d).convs.find? (fun c => c.j == j.val) with
    | none => s
    | some c =>
      if s.convDue c then
        (s.setStrip d { s.strip d with convs := (s.strip d).convs.erase c }).convert d c
      else s

/-! ## Calibration (R166, R167) -/

/-- Every sampler that is not retired has completed a test since reset (R167). -/
def State.calComplete (s : State) (d : Nat) : Bool :=
  (List.range 33).all (fun i => (Tab.find? (s.strip d).testAt i).isSome || (decide (i < 32) && s.chRetired d i))

/-- A channel is retired until reset: no further stops, a band-lost mark for a part in its slot (R156, R166, R171), no part
in AGE and CAL_VALID (R167), and a strip fault once RET_CH exceeds 2 (R170). -/
def State.retireChan (s : State) (d j : Nat) : State :=
  if s.chRetired d j then s
  else
    let s := (s.setBit F.CHAN.CAL.RETIRED true (32 * d + j)).cnt F.STRIP.RX_STAT.RET_CH 1 d
    let st := s.strip d
    let st := { st with calPend := Tab.del st.calPend j, testAt := Tab.del st.testAt j }
    let st := match Tab.find? st.slots (j / 8) with
      | some sl => { st with slots := Tab.put st.slots (j / 8) { sl with lost := sl.lost ||| (1 <<< (j % 8)) }
                             chans := Tab.put st.chans j { (Tab.get (fun _ => ({} : Chan)) st.chans j) with armed := false } }
      | none => st
    let s := s.setStrip d st
    let s := if s.calComplete d then s.setBit F.STRIP.RX_STAT.CAL_VALID true d else s
    if 2 < s.fld F.STRIP.RX_STAT.RET_CH d && !s.flag F.STRIP.RX_STAT.FAULT d then s.stripFault d else s

/-- Trim p of a test: the cumulative deviation of intervals 0 to p − 1 from 50 ps in 3.125 ps, within ±31 (R166). The
sampler's 65,536 hits spread over 800 ps, so 256 hits make one unit. -/
def trimOf (hits : List Nat) (p : Nat) : Int :=
  clampI (-31) 31 (roundDiv ((hits.take p).foldl (fun a h => a + ((h : Int) - 4096)) 0) 256)

/-- A value moves towards its result: in full at a first test, else by at most 2 units (R166). -/
def calMove (full : Bool) (old new : Int) : Int := if full then new else clampI (old - 2) (old + 2) new

/-- Put the pending values of sampler i in force: a channel below 32, or the start sampler 32. -/
def State.applyCal (s : State) (d i : Nat) : State :=
  match Tab.find? (s.strip d).calPend i with
  | none => s
  | some c =>
    let s := s.setStrip d { s.strip d with calPend := Tab.del (s.strip d).calPend i }
    if i < 32 then
      let e := 32 * d + i
      let s := forEach (List.range 8) s (fun s p => s.setFldS F.CHAN.PH0.PH (c.trims.getD p 0) e p)
      let s := forEach (List.range 8) s (fun s p => s.setFldS F.CHAN.PH1.PH (c.trims.getD (p + 8) 0) e p)
      s.setFldS F.CHAN.CAL.OFFS c.offs e
    else
      let s := forEach (List.range 8) s (fun s p => s.setFldS F.STRIP.START_TRIM0.PH (c.trims.getD p 0) d p)
      forEach (List.range 8) s (fun s p => s.setFldS F.STRIP.START_TRIM1.PH (c.trims.getD (p + 8) 0) d p)

/-- The start sampler's pending values come into force while no slot of its strip is held, at a slot's release or at a sweep
boundary, so that no part in flight sees a change (R166, R389). -/
def State.applyStart (s : State) (d : Nat) : State := if (s.strip d).slots.isEmpty then s.applyCal d 32 else s

/-- A slot is released: its channels' pending values apply (R156, R166), and it takes calibration hits again (R392). -/
def State.releaseSlot (s : State) (d q : Nat) : State :=
  let st := (s.strip d).freeStart s.now q
  let s := s.setStrip d { st with slots := Tab.del st.slots q }
  (forEach (List.range 8) s (fun s i => s.applyCal d (8 * q + i))).applyStart d

/-- The slot whose free time a sampler's test uses; 4 stands for the start sampler's own. -/
def calSlot (i : Nat) : Nat := i / 8

/-- Free time since a sampler's last test ended, in 50 ps. -/
def State.calFree (s : State) (d i : Nat) : Nat :=
  (s.strip d).freeTime s.now (calSlot i) - Tab.get (fun _ => 0) (s.strip d).testFrom i

/-- A sampler's test is complete: 65,536 hits, and the 1.024 ms of free time that 1,024 offset edges at 1 MHz take (R392). -/
def State.testComplete (s : State) (d i : Nat) (hits : List Nat) : Bool :=
  s.flag F.STRIP.RX_STAT.POWERED d && hits.foldl (· + ·) 0 == 65536 && decide (20480000 ≤ s.calFree d i) &&
  !(decide (i < 32) && s.chRetired d i)

/-- The values a test leaves pending: each moves towards its result from the value pending, or else from that in force (R166). -/
def State.calNext (s : State) (d i : Nat) (hits : List Nat) (offs : Int) : CalPend :=
  let full := !(s.strip d).fresh.contains i
  let old := Tab.find? (s.strip d).calPend i
  let trim (p : Nat) : Int := match old with
    | some c => c.trims.getD p 0
    | none => if i < 32 then s.chTrim (32 * d + i) p else s.startTrim d p
  let off : Int := match old with
    | some c => c.offs
    | none => s.fldS F.CHAN.CAL.OFFS (32 * d + i)
  { trims := (List.range 16).map (fun p => calMove full (trim p) (trimOf hits p)), offs := calMove full off offs }

/-- CAL_TEST_COMPLETE: a test of sampler smp ends with 65,536 hits over the 16 intervals and its offset. An interval outside
12.5 ps to 87.5 ps retires the channel; else the values wait for the slot's next release, whether the slot is free or has just been
assigned (R166, R171, R392). -/
def execCalTestComplete (d : Fin 24) (smp : Fin 33) (hits : List Nat) (offs : BitVec 16) (s : State) : Out :=
  whenLive s fun s => onlyIf (s.testComplete d smp hits) s fun s =>
    let i := smp.val
    if decide (i < 32) && hits.any (fun h => h < 1024 || 7168 < h) then s.retireChan d i
    else
      let st := s.strip d
      let s := s.setStrip d { st with
        calPend := Tab.put st.calPend i (s.calNext d i hits (signed 16 offs.toNat)), fresh := i :: st.fresh.filter (· != i)
        testAt := Tab.put st.testAt i (s.powered d), testFrom := Tab.put st.testFrom i (st.freeTime s.now (calSlot i)) }
      let s := s.cnt F.STRIP.CAL_STAT.TESTS 1 d
      let s := if i < 32 then s.setBit F.CHAN.CAL.VALID true (32 * d + i) else s
      if s.calComplete d then s.setBit F.STRIP.RX_STAT.CAL_VALID true d else s

/-- CAL_NO_HIT_TIMEOUT: no hit within 10 ms of free time retires the channel (R166). -/
def execCalNoHitTimeout (d : Fin 24) (j : Fin 32) (s : State) : Out :=
  whenLive s fun s =>
    onlyIf (s.flag F.STRIP.RX_STAT.POWERED d && decide (200000000 ≤ s.calFree d j)) s fun s => s.retireChan d j

/-! ## The end of a flight (R22, R158) -/

/-- LISTENING_WINDOW_CLOSE: at t_start + L the oldest part's macro-pixels are gated off (R158). -/
def execListeningWindowClose (b : Fin 4) (s : State) : Out :=
  whenLive s fun s =>
    match s.fire.parts.find? (fun p => p.bank == b.val && !p.closed && s.dueOpt p.gateAt) with
    | none => s
    | some p => s.updPart p.pid (fun p => { p with closed := true })

/-- Complete every conversion of a part, in order of channel, and bin its detections (R161, R164). -/
def State.drainPart (s : State) (d pid : Nat) : State :=
  let st := s.strip d
  let mine := (List.range 32).flatMap (fun j => st.convs.filter (fun c => c.pid == pid && c.j == j))
  let s := s.setStrip d { st with convs := st.convs.filter (fun c => c.pid != pid) }
  let s := (mine.foldl (fun s c => s.convert d c) s).enterDets d
  let st := s.strip d
  let dets := st.dets.filter (fun e => e.pid == pid)
  let s := s.setStrip d { st with dets := st.dets.filter (fun e => e.pid != pid) }
  dets.foldl (fun s e => s.binDet d e) s

/-- A visit not yet read is read before a part of it is counted (R186). -/
def State.forceRead (s : State) (d col : Nat) : State :=
  match s.visitOf d col with
  | none => s
  | some v =>
    let x := s.visit d v
    if x.read then s
    else
      let r0 := s.readCell d (cellTile d col 0)
      let r1 := r0.2.readCell d (cellTile d col 1)
      r1.2.setStrip d { r1.2.strip d with visits := Tab.put (r1.2.openVisits d) v { x with read := true, c0 := r0.1, c1 := r1.1 } }

/-- A part leaves flight on one strip: its counts are taken, its slot is released, and it leaves its visit. -/
def State.leaveStrip (s : State) (p : Part) (d : Nat) : State :=
  let s := (s.forceRead d p.col).drainPart d p.pid
  match s.slotOf d p.pid with
  | none => s.leaveVisit d p.col p.pid
  | some q =>
    match s.slot d q with
    | none => s
    | some sl =>
      let s := s.countPart d p.col 0 sl.cls0 p.forced sl.fskip sl.stops0 sl.blind0 (sl.lost % 16) p.lcnt
      let s := s.countPart d p.col 1 sl.cls1 p.forced sl.fskip sl.stops1 sl.blind1 (sl.lost / 16) p.lcnt
      (s.releaseSlot d q).leaveVisit d p.col p.pid

/-- A part leaves flight and the fire scheduler; its bank's hot-SPAD window is counted from here (R394). -/
def State.dropPart (s : State) (p : Part) : State :=
  { s with fire := { s.fire with parts := s.fire.parts.filter (fun x => x.pid != p.pid) }
           bg := { s.bg with flightEnd := Tab.put s.bg.flightEnd p.bank (s.now, s.fld F.MIRR.SWEEP.COUNT) } }

/-- The SPAD events held are those that a part still in flight may use. -/
def State.pruneEvents (s : State) : State :=
  { s with spads := s.spads.filter (fun k =>
      s.fire.parts.any (fun p => p.fired.any (fun (tf : Inst) => decide (tf * 50 ≤ ((k / 32768 : Nat) : Int))))) }

/-- PART_LEAVES_FLIGHT: the last conversion slot of the bank's oldest closed part ends, 12.8 ns after its window (R22). -/
def execPartLeavesFlight (b : Fin 4) (s : State) : Out :=
  whenLive s fun s =>
    match s.fire.parts.find? (fun p => p.bank == b.val && p.closed && s.dueOpt (p.gateAt.map (· + 256))) with
    | none => s
    | some p => ((forEach (List.range 6) s (fun s k => s.leaveStrip p (6 * b + k))).dropPart p).pruneEvents

end Sys2Proof.Machine
end

