-- ==== Sys2Proof/Machine/Firing.lean ====
section
/-!
DEFINITION. Firing: the SEGMASK lane, the judgement of parts, the charge budget, bank wake-up, the dither code and the
eye-safety accounting (spec/03_firing.md).
-/
namespace Sys2Proof.Machine

def bankList : List Nat := [0, 1, 2, 3]

/-! ## Charge budget (R70, R76) -/

/-- Refill in force, units of 0.1 nC per µs. -/
def State.refill (s : State) : Nat := if s.fire.cap then s.act F.FIRE.GOV_HOLD.REFILL_H else s.act F.FIRE.GOV_CFG.REFILL

/-- The budget now, in 1/20,000 of 0.1 nC: refill units per µs are as many 1/20,000 units per 50 ps. -/
def State.budgetNow (s : State) : Nat :=
  min (s.act F.FIRE.GOV_LIM.CEIL * 20000) (s.fire.budget + s.refill * (s.now - s.fire.budgetAt).toNat)

/-- Bring the budget up to the present. -/
def State.settleBudget (s : State) : State :=
  { s with fire := { s.fire with budget := s.budgetNow, budgetAt := s.now } }

/-! ## Wake-up (R74, R76, R63) -/

/-- A bank may be awake: it is enabled, and the power cap does not keep it down. -/
def State.bankAllowed (s : State) (b : Nat) : Bool :=
  (s.fld F.FIRE.CTRL.BANK_EN).testBit b && (!s.fire.cap || (s.act F.FIRE.GOV_HOLD.ACT_H).testBit b)

/-- The banks of a list that are asleep and may wake do so 250 µs apart from now, in order of bank (R74). A bank still due to wake
from an earlier stagger keeps its instant and is not counted in this one (log entry 127). -/
def State.scheduleWake (s : State) (bs : List Nat) : State :=
  let l := bs.filter (fun b => s.bankAllowed b && !s.awake b && (Tab.find? s.fire.wake b).isNone)
  { s with fire := { s.fire with
      wake := (l.zip (List.range 4)).foldl (fun t p => Tab.put t p.1 (s.now + 5000000 * (p.2 : Int))) s.fire.wake } }

/-- A bank wakes: its strips power up; in ARMED its calibration starts if this entry to ARMED left it to the waking (R63). -/
def State.wakeBank (s : State) (b : Nat) : State :=
  let s := { s with fire := { s.fire with wake := Tab.del s.fire.wake b } }
  let s := forEach (List.range 6) (s.orBit F.FIRE.STAT.AWAKE b) (fun s k => s.powerUp (6 * b + k))
  if s.dev.mode == .armed && s.fire.trimOnWake.contains b then
    { s with fire := { s.fire with trim := Tab.put s.fire.trim b s.now, trimOnWake := s.fire.trimOnWake.filter (· != b) } }
  else s

/-- A bank goes to sleep and its strips power down in the same tick (R74). A calibration under way ends without a result; it runs
again from its start if the bank wakes on the same entry to ARMED (log entry 128). -/
def State.sleepBank (s : State) (b : Nat) : State :=
  let s := { s with fire := { s.fire with
    wake := Tab.del s.fire.wake b, trim := Tab.del s.fire.trim b
    trimOnWake := if (Tab.find? s.fire.trim b).isSome then s.fire.trimOnWake ++ [b] else s.fire.trimOnWake } }
  forEach (List.range 6) (s.clrBit F.FIRE.STAT.AWAKE b) (fun s k => s.powerDown (6 * b + k))

/-- BANK_WAKE at a bank's stagger point (R74). -/
def execBankWake (b : Fin 4) (s : State) : Out :=
  whenLive s fun s => onlyIf (s.dueOpt (Tab.find? s.fire.wake b)) s fun s => s.wakeBank b

/-- A write of FIRE.CTRL: cleared banks go to sleep, newly set ones wake in the running modes (R74). -/
def State.wrFireCtrl (s : State) (v : Word) : WRes :=
  let old := s.fld F.FIRE.CTRL.BANK_EN
  let new := bits v 3 0
  let s := s.setFld F.FIRE.CTRL.BANK_EN new
  let s := forEach (bankList.filter (fun b => old.testBit b && !new.testBit b)) s State.sleepBank
  (if s.dev.mode = .armed || s.scanning then
    s.scheduleWake (bankList.filter (fun b => new.testBit b && !old.testBit b)) else s, none)

/-- The power cap begins or ends with the mode and the rails (R76). A Firing commit that changes ACT_H under the cap puts no bank
to sleep and wakes none (log entry 129). -/
def State.capUpdate (s : State) : State :=
  let cap := s.dev.mode = .holdover || (s.dev.mode = .degraded && bankList.any (fun r => (s.rail r).onBk))
  if cap = s.fire.cap then s
  else
    let s := s.settleBudget
    let s := { s with fire := { s.fire with cap := cap, capAt := if cap then s.raw else s.fire.capAt } }
    if cap then
      forEach (bankList.filter (fun b => !(s.act F.FIRE.GOV_HOLD.ACT_H).testBit b)) s State.sleepBank
    else s.scheduleWake bankList

/-- FIRE_TRIM_CALIBRATION_DONE: after its 4,096 pulses TRIM is written and TRIMMED sets (R63). -/
def execFireTrimCalibrationDone (b : Fin 4) (trim : BitVec 6) (s : State) : Out :=
  whenLive s fun s =>
    onlyIf (s.dev.mode = .armed && s.dueOpt ((Tab.find? s.fire.trim b).map (· + 81900000))) s fun s =>
      let s := (s.hwFld F.FIRE.TRIM.TRIM trim.toNat b).orBit F.FIRE.STAT.TRIMMED b
      { s with fire := { s.fire with trim := Tab.del s.fire.trim b } }

/-- The calibrations that running out of ARMED abandons (R63). -/
def State.abandonTrim (s : State) : State := { s with fire := { s.fire with trim := [], trimOnWake := [] } }

/-- Entry to ARMED: TRIMMED clears; awake banks calibrate now, the others when they wake on this entry (R63, R74). B starts
at CEIL (R70). -/
def State.armBanks (s : State) : State :=
  let s := s.setFld F.FIRE.STAT.TRIMMED 0
  let s := { s with fire := { s.fire with
    trim := (bankList.filter s.awake).foldl (fun t b => Tab.put t b s.now) []
    trimOnWake := bankList.filter (fun b => !s.awake b)
    budget := s.act F.FIRE.GOV_LIM.CEIL * 20000, budgetAt := s.now } }
  s.scheduleWake bankList

/-! ## Dither (R68) -/

/-- One step of the LFSR. -/
def lfsrStep (x : Nat) : Nat :=
  let b := (x.testBit 15 != x.testBit 13) != (x.testBit 12 != x.testBit 10)
  x * 2 % 65536 + (if b then 1 else 0)

/-- Eight steps for a column event. -/
def lfsr8 (x : Nat) : Nat := (List.range 8).foldl (fun x _ => lfsrStep x) x

/-- A SEED of 0 is loaded as 1. -/
def seedLoad (n : Nat) : Nat := if n = 0 then 1 else n

/-- DITHER_STEP: the dither value of a column event. -/
def State.ditherStep (s : State) : Nat × State :=
  let x := lfsr8 s.fire.lfsr
  let d := if s.actFlag F.FIRE.DITH_CFG.EN then x % 256 else 128
  let s := { s with fire := { s.fire with lfsr := x } }
  (d, (s.setFld F.FIRE.DITH_STAT.STATE x).setFld F.FIRE.DITH_STAT.LAST_D d)

/-! ## SEGMASK (R64, R65) -/

/-- CRC-6 with polynomial x^6 + x + 1 over the top n bits, most significant first (R64). -/
def crc6 : Nat → Nat → Nat → Nat
  | 0, _, c => c
  | n + 1, v, c => crc6 n v (if c.testBit 5 != v.testBit n then Nat.xor (c * 2 % 64) 3 else c * 2 % 64)

/-- The 24-bit frame for a bank, mask and sequence number (R64). -/
def segFrame (bank mask seq : Nat) : Nat :=
  let hi := 3 * 65536 + bank * 16384 + mask * 4 + seq
  hi * 64 + crc6 18 hi 0

/-- The order of judgement: original T_fire, ties by bank (R71). -/
def Part.before (p q : Part) : Bool := p.tfire < q.tfire || (p.tfire == q.tfire && p.bank < q.bank)

/-- A part joins the scheduler in order. -/
def insertPart (p : Part) : List Part → List Part
  | [] => [p]
  | q :: t => if p.before q then p :: q :: t else q :: insertPart p t

/-- Latest start of the first of the frames that wait, each ending 80 ns before its part's T_fire (R65). -/
def latestStart : List Part → Option Inst
  | [] => none
  | p :: t =>
    let own := p.tfire - 2400
    some (match latestStart t with
      | none => own / 16 * 16
      | some n => min own (n - 800) / 16 * 16)

/-- The previous FIREb edge of a bank has left: no frame sent for it still waits for its edge (R65). -/
def State.edgeOut (s : State) (b pid : Nat) : Bool :=
  s.fire.parts.all (fun p => p.bank != b || p.pid == pid || p.frameEnd.isNone || s.dueOpt p.fired)

/-- The booked mask and this bank's bits of SEG_EN (R64). -/
def State.partMask (s : State) (p : Part) : Nat := p.mask &&& (s.act F.FIRE.SEG_EN.EN >>> (12 * p.bank)) % 4096

/-- SEGMASK_FRAME_START: the lane starts the first waiting part's frame at its latest moment, or at the first moment the
rules allow (R65, R69, R156; where R19 puts the frame later in the chain, log entry 125). -/
def execSegmaskFrameStart (s : State) : Out :=
  whenLive s fun s =>
    let wait := s.fire.parts.filter (fun p => p.fired.isNone && p.frameEnd.isNone)
    match wait.head? with
    | none => s
    | some p =>
      onlyIf (s.fire.lane.isNone && s.dueOpt (latestStart wait) && s.edgeOut p.bank p.pid) s fun s =>
        let m := s.partMask p
        let seq := Tab.get (fun _ => 0) s.fire.seq p.bank
        let s := s.updPart p.pid (fun p => { p with fmask := m, frameEnd := some (s.now + 800) })
        { s with fire := { s.fire with lane := some (p.pid, s.now + 800), frame := segFrame p.bank m seq
                                       seq := Tab.put s.fire.seq p.bank ((seq + 1) % 4) } }

/-- SEGMASK_FRAME_END: after 50 ticks the lane is free (R64). -/
def execSegmaskFrameEnd (s : State) : Out :=
  whenLive s fun s => onlyIf (s.dueOpt (s.fire.lane.map (·.2))) s fun s => { s with fire := { s.fire with lane := none } }

/-! ## Judgement (R69 to R72) -/

/-- Parts of a bank in flight (R22). -/
def State.inFlight (s : State) (b : Nat) : Nat := (s.fire.parts.filter (fun p => p.bank == b && p.fired.isSome)).length

/-- A skipped part leaves flight at once, on every strip of its bank (R24, R72). -/
def State.skipPart (s : State) (p : Part) (counter : Fld) : State :=
  (forEach (List.range 6) (((s.cnt counter).updBg (fun x => { x with skipped := x.skipped + 1 })).ringSkipped p.bank)
    (fun s k => s.leaveVisit (6 * p.bank + k) p.col p.pid)).dropPart p

/-- A deferred part of a bank outside ACT_H, in the tick in which the power cap begins (R80). -/
def State.capCatches (s : State) (p : Part) : Bool :=
  s.fire.cap && s.fire.capAt == s.raw && decide (tickOf p.tfire < s.raw) &&
  !(s.act F.FIRE.GOV_HOLD.ACT_H).testBit p.bank && (s.fld F.FIRE.CTRL.BANK_EN).testBit p.bank && !s.dropped p.bank

/-- The step of R69 that settles a part for this tick: 1 to 3 skip, 4 to 6 defer, 7 fires. A deferred part that the power cap
catches counts as held, though its bank's strips power down in that tick (R80). -/
def State.judge (s : State) (p : Part) (cost : Nat) : Nat :=
  if !s.fire.lsrEn || s.fire.blocked then 1
  else if s.capCatches p then 3
  else if !(s.fld F.FIRE.CTRL.BANK_EN).testBit p.bank || !s.bankReady p.bank || s.dropped p.bank then 2
  else if s.fire.cap && !(s.act F.FIRE.GOV_HOLD.ACT_H).testBit p.bank then 3
  else if !(s.dueOpt (p.frameEnd.map (· + 1600))) then 4
  else if 4 ≤ s.inFlight p.bank then 5
  else if s.budgetNow < cost * 20000 then 6
  else 7

/-- Lit bits of a 12-bit mask. -/
def popCount (m : Nat) : Nat := ((List.range 12).filter (fun i => m.testBit i)).length

/-- The start group a FIRE edge belongs to: that of its tick, or a new one with the wait in force (R85, R102). -/
def State.joinGroup (s : State) (p : Part) (tf : Inst) : State :=
  let same (g : Group) : Bool := tickOf g.tf == tickOf tf
  if s.mon.groups.any same then
    { s with mon := { s.mon with groups := s.mon.groups.map (fun g =>
        if same g then { g with tf := min g.tf tf, pids := g.pids ++ [p.pid], banks := g.banks ++ [p.bank] } else g) } }
  else
    let tout : Inst := 16 * s.startTout
    let tmin : Inst := min (16 * (s.act F.MON.START_CFG.TMIN : Int)) tout
    { s with mon := { s.mon with groups := s.mon.groups ++
        [{ tf := tf, pids := [p.pid], banks := [p.bank], tmin := tmin, tout := tout, nom := s.act F.MON.START_CFG.NOM }] } }

/-- FIRE_EDGE: FIREb rises 4.0 ns after T_fire for WIDTH × 50 ps; the cost leaves the budget; the part opens its start
group and its slots; its lit segments and rows are counted (R62, R69 step 7, R85, R156, R210, R395). What the group and the slots
take from the settings in force is taken again at a boundary before the edge leaves (`refreshEdges`, R102, R171). -/
def State.fireEdge (s : State) (p : Part) (cost : Nat) : State :=
  let tf := p.tfire + 16 * (s.raw - tickOf p.tfire) + 80
  let s := s.settleBudget
  let s := { s with fire := { s.fire with
    budget := s.fire.budget - cost * 20000
    pulses := Tab.put s.fire.pulses p.bank (tf, tf + s.pulseWidth) } }
  let s := (s.cnt F.FIRE.SHOT_CNT.PARTS).updBg (fun x => { x with fired := x.fired + 1 })
  let lit := (List.range 12).filter (fun i => p.fmask.testBit i)
  let s := forEach lit s (fun s i => s.hwFld F.BGND.SEGUSE.LIT (min (s.fld F.BGND.SEGUSE.LIT (12 * p.bank + i) + 1) (F.BGND.SEGUSE.LIT.span - 1)) (12 * p.bank + i))
  let s := { s with wc := { s.wc with
    parts := lit.foldl (fun t i => Tab.upd (fun _ => 0) t (12 * p.bank + i) (· + 1)) s.wc.parts } }
  let s := s.updPart p.pid (fun p => { p with fired := some tf, judged := true })
  (s.joinGroup p tf).assignSlots p tf

/-- A deferred part counts once under each step that has held it (R69, R71). -/
def State.countDefer (s : State) (p : Part) (step : Nat) : State :=
  match step with
  | 4 => if p.cLane then s else (s.cnt F.FIRE.DEFER_CNT.LANE).updPart p.pid (fun p => { p with cLane := true })
  | 5 => if p.cFlight then s else (s.cnt F.FIRE.DEFER_CNT.FLIGHT).updPart p.pid (fun p => { p with cFlight := true })
  | _ => if p.cGov then s else (s.cnt F.FIRE.DEFER_CNT.GOV).updPart p.pid (fun p => { p with cGov := true })

/-- A part ahead in the order still waits (R71). -/
def State.headWaits (s : State) (p : Part) : Bool :=
  s.fire.parts.any (fun q => q.fired.isNone && q.judged && q.before p)

/-- The total deferral of a part by n ticks past the present would exceed DEFER_MAX: it may not fire then (R69). -/
def State.overDefer (s : State) (p : Part) (n : Nat) : Bool :=
  decide ((min 2500 (s.act F.FIRE.GOV_CFG.DEFER_MAX) : Nat) < (s.raw : Int) + n - tickOf p.tfire)

/-- A part's cost, fixed at its first judgement (R70). -/
def State.partCost (s : State) (p : Part) : Nat :=
  match p.cost with
  | some c => c
  | none => s.act F.FIRE.GOV_CFG.COST * popCount (if p.frameEnd.isSome then p.fmask else s.partMask p)

/-- Judge a part in this tick (R69 to R71): it is skipped where its deferral to the next tick would exceed DEFER_MAX. -/
def State.judgePart (s : State) (p : Part) : State :=
  let cost := s.partCost p
  let step := s.judge p cost
  let s := s.updPart p.pid (fun p => { p with cost := some cost, judged := true, jtick := s.raw })
  match step with
  | 1 => s.skipPart p F.FIRE.SKIP_CNT.INHIB
  | 2 => s.skipPart p F.FIRE.SKIP_CNT.NOTREADY
  | 3 => s.skipPart p F.FIRE.SKIP_CNT.HOLD
  | _ =>
    if step = 7 ∧ s.headWaits p = false ∧ s.overDefer p 0 = false then s.fireEdge p cost
    else if s.overDefer p 1 then s.skipPart p F.FIRE.SKIP_CNT.LIMIT
    else if s.headWaits p then s.countDefer p s.fire.hold
    else { s with fire := { s.fire with hold := step } }.countDefer p step

/-- The first part whose T_fire has come and that has not been judged; the first waiting part not yet judged in this tick; that
part where a further deferral would exceed DEFER_MAX. -/
def State.newPart (s : State) : Option Part :=
  s.fire.parts.find? (fun p => p.fired.isNone && !p.judged && decide (tickOf p.tfire ≤ s.raw))
def State.retryPart (s : State) : Option Part :=
  s.fire.parts.find? (fun p => p.fired.isNone && p.judged && decide (p.jtick < (s.raw : Int)))
def State.limitPart (s : State) : Option Part := s.retryPart.filter (fun p => s.overDefer p 1)

/-- The waiting parts not yet judged in this tick are judged, in order: they come before any part whose T_fire falls in it
(R71). -/
def State.judgeWaiting (s : State) : State :=
  s.fire.parts.foldl (fun s _ => match s.retryPart with
    | some p => s.judgePart p
    | none => s) s

/-! ## Events in the tick of a judgement, and before its edge (R80, R102, R171) -/

/-- A part leaves its start group. -/
def State.leaveGroup (s : State) (p : Part) : State :=
  let out (g : Group) : Group :=
    if g.pids.contains p.pid then { g with pids := g.pids.filter (· != p.pid), banks := g.banks.filter (· != p.bank) } else g
  { s with mon := { s.mon with groups := (s.mon.groups.map out).filter (fun g => !g.pids.isEmpty) } }

/-- What `fireEdge` did for a part is taken back: no edge leaves (R80). -/
def State.unfire (s : State) (p : Part) : State :=
  let lit := (List.range 12).filter (fun i => p.fmask.testBit i)
  let s := { s with
    fire := { s.fire with budget := s.fire.budget + (p.cost.getD 0) * 20000, pulses := Tab.del s.fire.pulses p.bank }
    wc := { s.wc with parts := lit.foldl (fun t i => Tab.upd (fun _ => 0) t (12 * p.bank + i) (· - 1)) s.wc.parts } }
  let s := (s.setFld F.FIRE.SHOT_CNT.PARTS (s.fld F.FIRE.SHOT_CNT.PARTS + 281474976710655)).updBg
    (fun x => { x with fired := x.fired - 1 })
  let s := forEach lit s (fun s i => s.hwFld F.BGND.SEGUSE.LIT (s.fld F.BGND.SEGUSE.LIT (12 * p.bank + i) - 1) (12 * p.bank + i))
  forEach (List.range 6) ((s.leaveGroup p).updPart p.pid (fun p => { p with fired := none }))
    (fun s k => s.unassign (6 * p.bank + k) p.pid)

/-- A part judged in this tick that a step from 1 to 3 catches after all: what fell in the tick acts before its edge (R80). -/
def State.settlePart (s : State) (p : Part) : State :=
  let step := s.judge p 0
  if step ≤ 3 then
    (if p.fired.isSome then s.unfire p else s).skipPart p
      (if step = 1 then F.FIRE.SKIP_CNT.INHIB else if step = 2 then F.FIRE.SKIP_CNT.NOTREADY else F.FIRE.SKIP_CNT.HOLD)
  else s

/-- At the end of a tick the parts judged in it stand or are skipped by what else fell in it (R80). -/
def State.settleTick (s : State) : State :=
  (s.fire.parts.filter (fun p => p.judged && decide (p.jtick = (s.raw : Int)))).foldl State.settlePart s

/-- Start groups and slots of edges still to leave take the settings now in force (R102, R171). -/
def State.refreshEdges (s : State) : State :=
  let tout : Inst := 16 * s.startTout
  let tmin : Inst := min (16 * (s.act F.MON.START_CFG.TMIN : Int)) tout
  let s := { s with mon := { s.mon with groups := s.mon.groups.map (fun (g : Group) =>
    if decide ((s.raw : Int) ≤ tickOf g.tf) then { g with tmin := tmin, tout := tout, nom := s.act F.MON.START_CFG.NOM } else g) } }
  s.refreshAhead

/-- The level of FIREb: a part's pulse, or one of the 4,096 calibration pulses 1 µs apart (R62, R63). -/
def State.fireLevel (s : State) (b : Nat) : Bool :=
  (Tab.find? s.fire.pulses b).any (fun p => decide (p.1 ≤ s.now ∧ s.now < p.2)) ||
  (Tab.find? s.fire.trim b).any (fun t => decide (t ≤ s.now ∧ s.now < t + 4096 * us ∧ (s.now - t) % us < s.pulseWidth))

/-- FIRE_PULSE_END: FIREb returns low (R62). -/
def execFirePulseEnd (b : Fin 4) (s : State) : Out :=
  whenLive s fun s => onlyIf (s.dueOpt ((Tab.find? s.fire.pulses b).map Prod.snd)) s fun s =>
    { s with fire := { s.fire with pulses := Tab.del s.fire.pulses b } }

/-! ## Eye safety (R77 to R79) -/

/-- The 5 µs and the 100 ms sum of a segment, in 2^−8 of 10 pJ (R78). -/
def State.sum5 (s : State) (n : Nat) : Nat :=
  (s.fire.charges.filter (fun c => c.seg == n && decide (s.now < c.at_ + 100000))).foldl (fun a c => a + c.amt) 0
def State.sum100 (s : State) (n : Nat) : Nat :=
  (Tab.get (fun _ => []) s.fire.buckets n).foldl (· + ·) 0 + Tab.get (fun _ => 0) s.fire.bucket n

def State.viol5 (s : State) (n : Nat) : Bool := decide (s.fld F.FIRE.EYE_LIM.LIM5 * 256 < s.sum5 n)
def State.viol100 (s : State) (n : Nat) : Bool := decide (s.fld F.FIRE.EYE_LIM.LIM100 * 25600 < s.sum100 n)

/-- EYE_VIOLATION: judge segments in rising order; a violation blocks FIRE, drops LSR_EN, sets its bits, and latches SEG
when both were clear (R78). -/
def State.eyeJudge (s : State) (segs : List Nat) : State :=
  match segs.filter (fun n => s.viol5 n || s.viol100 n) with
  | [] => s
  | n :: t =>
    let first := !s.flag F.FIRE.EYE_STAT.VIOL5 && !s.flag F.FIRE.EYE_STAT.VIOL100
    let v5 := (n :: t).any s.viol5
    let v100 := (n :: t).any s.viol100
    let s := if first then s.setFld F.FIRE.EYE_STAT.SEG (t.foldl min n) else s
    let s := if v5 then s.setBit F.FIRE.EYE_STAT.VIOL5 true else s
    let s := if v100 then s.setBit F.FIRE.EYE_STAT.VIOL100 true else s
    ({ s with fire := { s.fire with blocked := true } }).report .eye

/-- Charge a segment. -/
def State.addCharge (s : State) (n amt : Nat) : State :=
  { s with fire := { s.fire with
      charges := { at_ := s.now, seg := n, amt := amt } ::
        s.fire.charges.filter (fun c => decide (s.now < c.at_ + 100000))
      bucket := Tab.put s.fire.bucket n (Tab.get (fun _ => 0) s.fire.bucket n + amt) } }

/-- EYE_CHARGE of a measured pulse: E_p shared by weight over the lit segments, each share rounded up at 2^−8 (R77). -/
def State.eyeCharge (s : State) (segs : List Nat) (e : Nat) : State :=
  let sum := segs.foldl (fun a n => a + s.eyeWeight n) 0
  let s := forEach segs s (fun s n => s.addCharge n ((e * 256 * s.eyeWeight n + sum - 1) / sum))
  s.eyeJudge segs

/-- A FIRE edge without a measured pulse charges E_MISS, unshared, to every segment it lit (R77). -/
def State.eyeMiss (s : State) (segs : List Nat) : State :=
  (forEach segs s (fun s n => s.addCharge n (s.fld F.FIRE.EYE_CFG.E_MISS * 256))).eyeJudge segs

/-- Segments lit by a part, numbered over the device. -/
def Part.segs (p : Part) : List Nat :=
  ((List.range 12).filter (fun i => p.fmask.testBit i)).map (fun i => 12 * p.bank + i)

/-- EYE_BUCKET_ADVANCE: the current 1 ms buckets complete; the last 100 complete ones are kept (R78). -/
def execEyeBucketAdvance (s : State) : Out :=
  whenLive s fun s => onlyIf (s.due s.fire.bucketEnd) s fun s =>
    let s := forEach (List.range 48) s (fun s n =>
      { s with fire := { s.fire with
          buckets := Tab.put s.fire.buckets n
            ((Tab.get (fun _ => 0) s.fire.bucket n :: Tab.get (fun _ => []) s.fire.buckets n).take 100)
          bucket := Tab.put s.fire.bucket n 0 } })
    let s := { s with fire := { s.fire with bucketEnd := s.fire.bucketEnd + ms } }
    s.eyeJudge (List.range 48)

end Sys2Proof.Machine
end

