-- ==== Sys2Proof/Machine/Monitor.lean ====
section
/-!
DEFINITION. The pulse monitor: start comparator and groups, pulse energy, mask tests, waveform capture, averaging and the
lines between the units of a head (spec/04_pulse_monitor.md).
-/
namespace Sys2Proof.Machine

/-! ## Samples (R82) -/

/-- A raw code of sample k corrected by the trim of its ADC, A for even ticks of the time word, and clipped (R82). -/
def State.adc (s : State) (k : Int) (x : Nat) : Nat :=
  let t := k + s.clk.off
  let v := if t % 2 = 0 then roundDiv (8 * (x : Int) + s.fldS F.MON.ADC_TRIM.OFFS_A) 8
    else roundDiv (8 * (x : Int) * (16384 + s.fldS F.MON.ADC_TRIM.GAIN_B) + 16384 * s.fldS F.MON.ADC_TRIM.OFFS_B) 131072
  (clampI 0 1023 v).toNat

/-- Codes of consecutive samples from sample k. -/
def State.adcs (s : State) (k : Int) : List (BitVec 10) → List Nat
  | [] => []
  | x :: t => s.adc k x.toNat :: State.adcs s (k + 1) t

/-! ## Capture triggers (R92 to R96, R100) -/

/-- The unit pulls TRIG_ANY_N low for 16 ticks when a trigger of its own owns a record (R100). -/
def State.pullAny (s : State) : State :=
  if s.fld F.MON.MU_CFG.ROLE = 1 ∨ s.fld F.MON.MU_CFG.ROLE = 2 then
    { s with mon := { s.mon with anyEnd := some (s.now + 256), anyIgnore := s.now + 256 + 64 } }
  else s

/-- Whether a condition's trigger is enabled; condition 1 acts as enabled while masks are tested (R92). -/
def State.condOn (s : State) (c : Nat) : Bool :=
  (s.fld F.MON.CAP_CFG.TRIG_EN).testBit c || (c == 1 && s.mon.maskEn)

/-- Raise a capture trigger with its trigger sample (R92, R93, R95): armed, it begins a record; in a record, an equal sample
joins, an earlier one takes the record over, and a later one is missed; otherwise it is ignored. -/
def State.capTrig (s : State) (c : Nat) (t : Trig) : State :=
  if !s.condOn c then s
  else
    let pre := s.mon.pre
    let start (t : Trig) : State :=
      { s with mon := { s.mon with trig := some t, lastPost := t.sample + (4096 - (pre : Int)) - 1 } }
    match s.mon.trig with
    | some o =>
      if !s.flag F.MON.CAP_STAT.BUSY then s
      else if t.sample = o.sample then
        let owns := t.local_ && decide (c ≤ o.owner)
        let s := start { o with cond := o.cond ||| (1 <<< c), owner := min o.owner c, remote := o.remote || t.remote,
                                banks := o.banks ||| t.banks, local_ := o.local_ || owns }
        if owns && !o.local_ then s.pullAny else s
      else if t.sample < o.sample ∧ s.mon.armTick ≤ t.sample then
        let s := start { t with cond := 1 <<< c, owner := c, frozen := o.frozen || t.frozen }
        if t.local_ && !o.local_ then s.pullAny else s
      else s.cnt F.MON.CAP_STAT.MISSED
    | none =>
      if s.flag F.MON.CAP_STAT.ARMED then
        let s := start { t with cond := 1 <<< c, owner := c }
        let s := (s.setBit F.MON.CAP_STAT.ARMED false).setBit F.MON.CAP_STAT.BUSY true
        if t.local_ then s.pullAny else s
      else s

/-- Arm the unit with an empty ring (R95); a master drives ARM_BUS (R99). -/
def State.capArmNow (s : State) : State :=
  let s := s.setBit F.MON.CAP_STAT.ARMED true
  let s := { s with mon := { s.mon with armTick := s.raw, pre := s.fld F.MON.CAP_CFG.PRE, trig := none } }
  if s.fld F.MON.MU_CFG.ROLE = 1 then s.setBit F.MON.MU_STAT.ARM_BUS true else s

/-- NREC of 0 acts as 1 (R103). -/
def State.nrec (s : State) : Nat := max 1 (min 7 (s.fld F.MON.CAP_CFG.NREC))

/-- The records lie within the shared store (R95). -/
def State.capFits (s : State) : Bool := decide (s.fld F.MON.CAP_CFG.BASE + 33 * s.nrec - 1 ≤ 16383)

/-- UNFREEZE: FROZEN clears, but for a violation of the same tick, which acts after the clear (R96, R102). -/
def State.unfreeze (s : State) : State :=
  let s := { s with mon := { s.mon with unfrzAt := if s.flag F.MON.CAP_STAT.FROZEN then some s.raw else s.mon.unfrzAt } }
  if s.mon.violAt = some s.raw then s else s.setBit F.MON.CAP_STAT.FROZEN false

/-- A write of CAP_CTRL (R92, R95, R96): UNFREEZE, then STOP, then ARM, then SWTRIG. -/
def State.wrCapCtrl (s : State) (v : Word) : WRes :=
  let s1 := if v.getLsbD 3 then s.unfreeze else s
  let s2 := if v.getLsbD 2 && s1.flag F.MON.CAP_STAT.ARMED then
      (s1.setBit F.MON.CAP_STAT.ARMED false).setBit F.MON.MU_STAT.ARM_BUS false
    else s1
  let bad := s2.flag F.MON.CAP_STAT.BUSY || s2.flag F.MON.CAP_STAT.FROZEN || s2.fld F.MON.MU_CFG.ROLE == 2 || !s2.capFits
  if v.getLsbD 0 && bad then (s, some .refused)
  else
    let s3 := if v.getLsbD 0 then s2.capArmNow else s2
    (if v.getLsbD 1 then s3.capTrig 3 { sample := s.raw } else s3, none)

/-- A write of CAP_CFG while the unit is ARMED or BUSY is refused (R103). -/
def State.capCfgLocked (s : State) : Bool := s.flag F.MON.CAP_STAT.ARMED || s.flag F.MON.CAP_STAT.BUSY

/-- TRIG_IN_EDGE: recognised now, its trigger sample lies 4 ticks back (R92). -/
def execTrigInEdge (s : State) : Out := whenLive s fun s => s.capTrig 2 { sample := (s.raw : Int) - 4 }

/-- A fall of TRIG_ANY_N by another unit is heard: ROLE is 1 or 2, this unit does not drive the line, and 4 ticks have
passed since it did (R92, R100). -/
def State.hearsAny (s : State) : Bool :=
  (s.fld F.MON.MU_CFG.ROLE == 1 || s.fld F.MON.MU_CFG.ROLE == 2) && s.mon.anyEnd.isNone && s.due s.mon.anyIgnore

/-- TRIG_ANY_FALL: another unit pulls the line low for 16 ticks; heard, it is condition 2 with REMOTE, SKEW ticks back, and
counts if a record takes it (R92, R100). -/
def execTrigAnyFall (s : State) : Out :=
  whenLive s fun s =>
    let s := { s with mon := { s.mon with otherEnd := s.now + 256 } }
    onlyIf s.hearsAny s fun s =>
      let t := s.capTrig 2 { sample := (s.raw : Int) - s.fld F.MON.MU_CFG.SKEW, remote := true, local_ := false }
      if t.mon.trig = s.mon.trig then t else t.cnt F.MON.MU_STAT.REMOTE

/-- TRIG_ANY_RELEASE after 16 ticks (R100). -/
def execTrigAnyRelease (s : State) : Out :=
  whenLive s fun s => onlyIf (s.dueOpt s.mon.anyEnd) s fun s =>
    { s with mon := { s.mon with anyEnd := none } }

/-- ARM_BUS_RISE arms a slave that is neither armed, BUSY nor FROZEN, as a local ARM would (R99). -/
def execArmBusRise (s : State) : Out :=
  whenLive s fun s =>
    let s := { s with mon := { s.mon with busSeen := true } }
    onlyIf (s.fld F.MON.MU_CFG.ROLE == 2 && !s.flag F.MON.CAP_STAT.ARMED && !s.flag F.MON.CAP_STAT.BUSY &&
      !s.flag F.MON.CAP_STAT.FROZEN && s.capFits) s State.capArmNow

/-! ## Start comparator and groups (R83 to R88) -/

/-- The hold-off has ended at an instant (R84). -/
def State.hoEnded (s : State) (te : Inst) : Bool :=
  if s.act F.MON.START_CFG.HO_MODE = 0 then decide (s.mon.edge + 64 * ((s.act F.MON.START_CFG.HO_TIME : Int) + 1) ≤ te)
  else decide (max 1 (s.act F.MON.START_CFG.HO_EVT) ≤ s.mon.ho)

/-- The mean of delays, rounded to the nearest unit with halves upwards (R88). -/
def meanHalfUp (l : List Nat) : Nat := if l.length = 0 then 0 else (2 * l.foldl (· + ·) 0 + l.length) / (2 * l.length)

/-- A start taken from an edge on one bank: RUN clears and the delay enters MEAN (R87, R88), which keeps the low nine bits of a
mean above 511 (log entry 131). -/
def State.startBank (s : State) (delay : Nat) (b : Nat) : State :=
  let l := (delay :: Tab.get (fun _ => []) s.mon.delays b).take 256
  let s := { s with mon := { s.mon with delays := Tab.put s.mon.delays b l } }
  (s.setFld F.MON.START_BANK.RUN 0 b).setFld F.MON.START_BANK.MEAN (meanHalfUp l) b

/-- Banks as a map. -/
def bankMap (l : List Nat) : Nat := l.foldl (fun m b => m ||| (1 <<< b)) 0

/-- Segments lit by the parts of a group. -/
def State.groupSegs (s : State) (g : Group) : List Nat :=
  ((s.fire.parts.filter (fun p : Part => g.pids.contains p.pid)).flatMap Part.segs).dedup

/-- Ticks of the pulse-energy sum: 8 to 64 samples (R89). -/
def State.intLen (s : State) : Nat := clampN 8 64 (s.fld F.MON.ENERGY_CFG.INT_LEN)

/-- An edge serves a group: its parts take the start, its energy and its mask window open, and condition 0 is raised
(R85, R87 to R89, R91, R92). -/
def State.serveGroup (s : State) (g : Group) (te : Inst) : State :=
  let s := { s with mon := { s.mon with groups := s.mon.groups.erase g } }
  let s := { s with fire := { s.fire with parts := s.fire.parts.map (fun p : Part =>
    if g.pids.contains p.pid then { p with tstart := some te } else p) } }
  let s : State := forEach g.banks s (fun s b => (s.startBank (te - g.tf).toNat b).startTaken b)
  let ne := tickOf te
  let p : Pulse := { te := te, banks := g.banks, segs := s.groupSegs g, due := 16 * (ne - 5 + s.intLen + 9) }
  let s := { s with mon := { s.mon with energy := s.mon.energy ++ [p] } }
  let s := if s.mon.maskEn && decide (s.mon.masks.length < 16) then
      { s with mon := { s.mon with masks := s.mon.masks ++
        [{ p with due := 16 * (ne + 59 + 9), table := s.mon.table, inh := s.mon.maskInh }] } }
    else s
  if bankMap g.banks &&& s.fld F.MON.CAP_CFG.BANKS ≠ 0 then s.capTrig 0 { sample := ne, banks := bankMap g.banks } else s

/-- The comparator takes an edge (R83, R85). -/
def State.takeEdge (s : State) (te : Inst) : State :=
  let s := { s with mon := { s.mon with armed := false, edge := te, ho := 0 } }
  match s.mon.groups.find? (fun g => decide (g.tf + g.tmin ≤ te ∧ te ≤ g.tf + g.tout)) with
  | some g => s.serveGroup g te
  | none => s.cnt F.MON.START_CNT.STRAY

/-- MPD_EDGE: a rise above the threshold, from below threshold less hysteresis or not (R83 to R85). -/
def execMpdEdge (phase : BitVec 4) (fromBelow : Bool) (s : State) : Out :=
  whenLive s fun s =>
    if s.mon.armed || (fromBelow && s.hoEnded (s.now + phase.toNat)) then s.takeEdge (s.now + phase.toNat)
    else if fromBelow then
      { s.cnt F.MON.START_CNT.IGNORED with mon := { s.mon with ho := s.mon.ho + 1 } }
    else s

/-- START_REARM: the hold-off has ended and the input is below threshold less hysteresis (R83). -/
def execStartRearm (s : State) : Out :=
  whenLive s fun s => onlyIf (!s.mon.armed && s.hoEnded s.now) s fun s => { s with mon := { s.mon with armed := true } }

/-- One more forced start of a bank: the third in a row sets LPF and reports (LASER_PATH_FAULT, R87). -/
def State.forceBank (s : State) (b : Nat) : State :=
  let run := s.fld F.MON.START_BANK.RUN b
  let s := s.cnt F.MON.START_BANK.FORCED 1 b
  let s := s.setFld F.MON.START_BANK.RUN (min 3 (run + 1)) b
  if run = 2 then (s.orBit F.MON.START_STAT.LPF b).report (.lpf b) else s

/-- START_TIMEOUT: the oldest group whose wait has ended takes a forced start (R86, R87), and each of its parts charges
E_MISS (R77). -/
def execStartTimeout (s : State) : Out :=
  whenLive s fun s =>
    match s.mon.groups.find? (fun g => decide (tickOf (g.tf + g.tout) ≤ s.raw)) with
    | none => s
    | some g =>
      let s := { s with mon := { s.mon with groups := s.mon.groups.erase g } }
      let s := { s with fire := { s.fire with parts := s.fire.parts.map (fun p : Part =>
        if g.pids.contains p.pid then { p with tstart := some (g.tf + g.nom), forced := true } else p) } }
      let s := forEach g.banks s (fun s b => (s.forceBank b).startTaken b)
      (s.fire.parts.filter (fun p : Part => g.pids.contains p.pid)).foldl (fun s p => s.eyeMiss p.segs) s

/-! ## Energy and averaging (R89, R98) -/

/-- E_p of the 68 samples n_e − 8 to n_e + 59 (R89). -/
def State.energyOf (s : State) (xs : List Nat) : Nat :=
  let b : Nat := ((xs.take 4).foldl (· + ·) 0) / 4
  let sum : Int := ((xs.drop 4).take s.intLen).foldl (fun a x => a + ((x : Int) - b)) 0
  (clampI 0 65535 ((s.fld F.MON.ENERGY_CFG.GAIN : Int) * sum / 65536)).toNat

/-- An interval takes a pulse: one of the first 2^K whose edge falls in it, with a part of a bank of BANKS (R98). -/
def Avg.take (a : Avg) (p : Pulse) (xs : List Nat) (e : Nat) : Avg :=
  if a.running && decide (a.n < 2 ^ a.k ∧ a.begin_ ≤ p.te ∧ p.te < a.end_) && bankMap p.banks &&& a.banks != 0 then
    let w := xs.drop 4
    { a with n := a.n + 1, sums := (List.range 64).map (fun i => a.sums.getD i 0 + w.getD i 0)
             sumE := a.sumE + e, first := if a.n = 0 then p.te else a.first }
  else a

/-- A pulse enters the averager: the interval that its edge falls in, though its energy is formed after the interval's end. -/
def State.avgTake (s : State) (p : Pulse) (xs : List Nat) (e : Nat) : State :=
  { s with mon := { s.mon with avg := s.mon.avg.take p xs e, avgPrev := s.mon.avgPrev.map (fun a => a.take p xs e) } }

/-- PULSE_ENERGY_DELIVERY: E_p of the first pulse whose sum is complete reaches the eye-safety accounting (R77, R89). -/
def execPulseEnergyDelivery (xs : List (BitVec 10)) (s : State) : Out :=
  whenLive s fun s =>
    match s.mon.energy.find? (fun p => s.due p.due) with
    | none => s
    | some p =>
      let s := { s with mon := { s.mon with energy := s.mon.energy.erase p } }
      let ys := s.adcs (tickOf p.te - 8) xs
      let e := s.energyOf ys
      let s := (s.setFld F.MON.ENERGY_STAT.LAST e).setFld F.MON.ENERGY_STAT.BANKS (bankMap p.banks)
      (s.avgTake p ys e).eyeCharge p.segs e

/-- The averager's tile (R98). -/
def State.avgTile (s : State) (a : Avg) : List Word :=
  let r (i : Nat) : Nat := if i < 64 then 64 * a.sums.getD i 0 / a.n else 0
  let short := if a.n < 2 ^ a.k then 512 else 0
  (List.range 22).map (fun j => BitVec.ofNat 48 (r (3 * j) + r (3 * j + 1) * 65536 + r (3 * j + 2) * 4294967296)) ++
  [BitVec.ofNat 48 (s.fld F.MON.AVG_STAT.SEQ * 4294967296 + short + a.n), BitVec.ofNat 48 (a.sumE / a.n),
   s.wordAt a.first] ++ List.replicate 22 0

/-- The averager writes the tile of an interval, or counts it as empty (R98). -/
def State.avgWrite (s : State) (a : Avg) : State :=
  if a.n = 0 then s.cnt F.MON.AVG_STAT.EMPTY
  else
    let s := s.wrTile (ctxTiles + a.base) (s.avgTile a)
    let s := (s.setBit F.MON.AVG_STAT.SHORT (decide (a.n < 2 ^ a.k))).cnt F.MON.AVG_STAT.SEQ
    { s with mon := { s.mon with ageSum := s.mon.ageSum + a.n * (a.sumE / a.n), ageN := s.mon.ageN + a.n } }

/-- An interval is complete: it has its 2^K pulses, or it has ended and no pulse of it awaits its energy (R98). -/
def State.avgDone (s : State) (a : Avg) : Bool :=
  decide (a.n = 2 ^ a.k) || (s.due a.end_ && s.mon.energy.all (fun p => decide (p.te < a.begin_ ∨ a.end_ ≤ p.te)))

/-- An interval that has ended is written, if it waits to be. -/
def State.avgFlush (s : State) : State :=
  match s.mon.avgPrev with
  | none => s
  | some a => ({ s with mon := { s.mon with avgPrev := none } }).avgWrite a

/-- AVG_TILE_WRITTEN after the last pulse taken, or after the interval's end: the interval that has ended first (R98). -/
def execAvgTileWritten (s : State) : Out :=
  whenLive s fun s =>
    let a := s.mon.avg
    match s.mon.avgPrev with
    | some b => onlyIf (s.avgDone b) s State.avgFlush
    | none =>
      onlyIf (a.running && !a.written && s.avgDone a) s fun s =>
        ({ s with mon := { s.mon with avg := { a with written := true } } }).avgWrite a

/-- AVG_INTERVAL_START: an interval begins when EN is set and then every IVL ms, with the configuration then held; one that
has ended unwritten awaits its tile (R98). -/
def execAvgIntervalStart (s : State) : Out :=
  whenLive s fun s =>
    let a := s.mon.avg
    onlyIf (if a.running then s.due a.end_ else s.flag F.MON.AVG_CFG.EN) s fun s =>
      let s := s.avgFlush
      let begin_ := if a.running then a.end_ else s.now
      let prev := if a.running && !a.written then some a else none
      { s with mon := { s.mon with avgPrev := prev, avg := {
          running := s.flag F.MON.AVG_CFG.EN, base := s.fld F.MON.AVG_CFG.BASE, banks := s.fld F.MON.AVG_CFG.BANKS
          k := min 8 (s.fld F.MON.AVG_CFG.K), begin_ := begin_, end_ := begin_ + ms * (max 1 (s.fld F.MON.AVG_CFG.IVL) : Nat) } } }

/-! ## Masks (R90, R91) -/

/-- The 64 limits of a mask table: LOWER and UPPER of each sample (R90). -/
def maskTable (ws : List Word) : List (Nat × Nat) :=
  (List.range 64).map (fun i =>
    let w := ws.getD (i / 2) 0
    if i % 2 = 0 then (bits w 9 0, bits w 19 10) else (bits w 29 20, bits w 39 30))

/-- MASK_TABLE_LOAD: the tile is read and checked; the new table and settings apply, or TBL_ERR sets (R90). -/
def execMaskTableLoad (s : State) : Out :=
  whenLive s fun s => onlyIf s.mon.load.isSome s fun s =>
    let tag := ctxTiles + s.act F.MON.MASK_CFG.BASE
    let ws := s.rdTile tag
    let s := { s with mon := { s.mon with load := none } }
    if tileOk ws tag then
      { s with mon := { s.mon with table := maskTable ws, maskEn := s.actFlag F.MON.MASK_CFG.EN,
                                   maskInh := s.actFlag F.MON.MASK_CFG.INHIBIT } }.setBit F.MON.MASK_STAT.LOADED true
    else s.setBit F.MON.MASK_STAT.TBL_ERR true

/-- The first mask sample outside its limits, and whether it is above. -/
def firstViolation (table : List (Nat × Nat)) (xs : List Nat) : Option (Nat × Bool) :=
  (List.range 64).findSome? (fun i =>
    let x := xs.getD i 0
    let l := table.getD i (0, 1023)
    if l.2 < x then some (i, true) else if x < l.1 then some (i, false) else none)

/-- An armed unit with condition 1 off freezes though no record begins (R96, log entry 130). -/
def State.freezeArmed (s : State) : State :=
  if s.flag F.MON.CAP_STAT.ARMED && !s.condOn 1 then
    ((s.setBit F.MON.CAP_STAT.ARMED false).setBit F.MON.MU_STAT.ARM_BUS false).setBit F.MON.CAP_STAT.FROZEN true
  else s

/-- MASK_VIOLATION: flags, counters, the capture trigger and freeze, and the inhibit (R91, R96). SAMPLE and ABOVE tell of the latest
violation (log entry 132); one in the tick of an UNFREEZE acts after the clear (R102). -/
def State.maskViolation (s : State) (p : Pulse) (i : Nat) (above : Bool) : State :=
  let s := (s.setBit F.MON.MASK_STAT.VIOL true).cnt F.MON.MASK_STAT.VCNT
  let s := (s.setFld F.MON.MASK_STAT.SAMPLE i).setBit F.MON.MASK_STAT.ABOVE above
  let s := { s with mon := { s.mon with violAt := some s.raw } }
  let s := if s.mon.unfrzAt = some s.raw then s.setBit F.MON.CAP_STAT.FROZEN true else s
  let ne := tickOf p.te
  let busy := s.flag F.MON.CAP_STAT.BUSY
  -- it falls in a window that overlaps the post-trigger part of a record in progress
  let overlap := busy && (match s.mon.trig with
    | some o => decide (o.sample ≤ ne + 59 ∧ ne - 4 ≤ s.mon.lastPost)
    | none => false)
  let s := if s.flag F.MON.CAP_STAT.FROZEN then s
    else
      let trig : Trig := { sample := ne - 4 + i, banks := bankMap p.banks, frozen := true, tviol := some p.te
                           vsamp := i, above := above }
      let s := s.freezeArmed.capTrig 1 trig
      { s with mon := { s.mon with trig := s.mon.trig.map (fun o =>
          let o := if overlap then { o with frozen := true } else o
          if (o.frozen || overlap) && o.tviol.isNone then { o with tviol := some p.te, vsamp := i, above := above } else o) } }
  if p.inh then ({ s with fire := { s.fire with blocked := true } }).report .pulse else s

/-- MASK_VERDICT on the first window that is complete (R91). -/
def execMaskVerdict (xs : List (BitVec 10)) (s : State) : Out :=
  whenLive s fun s =>
    match s.mon.masks.find? (fun p => s.due p.due) with
    | none => s
    | some p =>
      let s := { s with mon := { s.mon with masks := s.mon.masks.erase p } }
      match firstViolation p.table (s.adcs (tickOf p.te - 4) xs) with
      | none => s
      | some (i, above) => s.maskViolation p i above

/-! ## The capture record (R94, R95, R97) -/

/-- Pre-trigger samples a record holds (R94). -/
def State.nPre (s : State) (t : Trig) : Nat := min s.mon.pre (t.sample - s.mon.armTick).toNat

/-- The header tile of a record (R97). -/
def State.capHeader (s : State) (t : Trig) : List Word :=
  let npre := s.nPre t
  let len := npre + 4096 - s.mon.pre
  let b (c : Bool) (k : Nat) : Nat := if c then 2 ^ k else 0
  [BitVec.ofNat 48 (s.fld F.MON.CAP_STAT.RECS * 4294967296 + b t.remote 16 + b t.frozen 15 +
     b (decide (npre < s.mon.pre)) 14 + t.owner * 4096 + t.cond * 256 + t.banks * 16),
   timeWord (t.sample + s.clk.off), BitVec.ofNat 48 (len * 4294967296 + npre * 65536 + s.mon.pre),
   (match t.tviol with
    | some i => s.wordAt i
    | none => 0),
   BitVec.ofNat 48 (b t.above 6 + t.vsamp)] ++ List.replicate 42 0

/-- Data tile t, 1 to 32: slots 128 (t − 1) + 4 j + i in word j (R97). -/
def capData (xs : List Nat) (len t : Nat) : List Word :=
  (List.range 32).map (fun j =>
    BitVec.ofNat 48 ((List.range 4).foldl (fun a i =>
      let k := 128 * (t - 1) + 4 * j + i
      a + (if k < len then xs.getD k 0 else 0) * 2 ^ (10 * i)) 0)) ++ List.replicate 15 0

/-- The record is written to its slot; DONE, RECS and SLOT advance; the unit freezes, re-arms or disarms (R95, R96). -/
def State.capWrite (s : State) (xs : List (BitVec 10)) (t : Trig) : State :=
  let npre := s.nPre t
  let len := npre + 4096 - s.mon.pre
  let ys := s.adcs (t.sample - npre) xs
  let base := ctxTiles + s.fld F.MON.CAP_CFG.BASE + 33 * (s.fld F.MON.CAP_STAT.SLOT % s.nrec)
  let s := s.wrTile base (s.capHeader t)
  let s := forEach (List.range 32) s (fun s i => s.wrTile (base + 1 + i) (capData ys len (i + 1)))
  let s := s.setFld F.MON.CAP_STAT.SLOT ((s.fld F.MON.CAP_STAT.SLOT + 1) % s.nrec)
  let s := ((s.cnt F.MON.CAP_STAT.RECS).setBit F.MON.CAP_STAT.DONE true).setBit F.MON.CAP_STAT.BUSY false
  let s := { s.setBit F.MON.MU_STAT.ARM_BUS false with mon := { s.mon with trig := none } }
  if t.frozen then s.setBit F.MON.CAP_STAT.FROZEN true
  else if s.flag F.MON.CAP_CFG.MODE then s.capArmNow else s

end Sys2Proof.Machine
end

