-- ==== Sys2Proof/Machine/ModeOps.lean ====
section
/-!
DEFINITION. What a mode change does: the MODE events and notice, the power cap, the banks, the calibrations, the search, the
safe outputs, and the SAFE decision (spec/13_modes_startup.md R292 to R301, spec/14_safety.md R330, R339, R342).
-/
namespace Sys2Proof.Machine

/-! ## SOUT outputs (R339, R342, R344) -/

def zoneNums : List Nat := [0, 1, 2, 3, 4, 5, 6, 7]

/-- An output's pair is held off by a readback failure of one of its channels (R344). -/
def State.heldOff (s : State) (j : Nat) : Bool :=
  s.bit F.SAFE.SOUT_STAT.FLT (2 * j) || s.bit F.SAFE.SOUT_STAT.FLT (2 * j + 1)

/-- The demand of output j (R339). -/
def State.demandOf (s : State) (j : Nat) : Bool :=
  s.flag F.SAFE.SF2_CFG.EN && s.scanning && !s.heldOff j &&
  zoneNums.all (fun z => !(s.flag F.SAFE.ZONE_A.EN z && s.bit F.SAFE.ZONE_C.OUT j z) || !s.bit F.SAFE.SF2_STAT.INTR z)

/-- A level driven on a channel: bit 0 SOUT0A, 1 SOUT0B, 2 SOUT1A, 3 SOUT1B. -/
def State.setLevel (s : State) (ch : Nat) (v : Bool) : State :=
  let l := s.dome.levels
  let w := if l.testBit ch then l - 2 ^ ch else l
  { s with dome := { s.dome with levels := if v then w + 2 ^ ch else w } }

/-- The slot that runs is one of output j's, and its channel was toggling at the slot's start (R343). -/
def State.inGap (s : State) (j : Nat) : Bool :=
  s.dome.gapOn && s.dome.gap.elim false (fun ch => ch / 2 == j)

/-- An output stops toggling and both channels are low; the check of a gap under way is skipped (R343). -/
def State.outputOff (s : State) (j : Nat) : State :=
  let s := if s.inGap j then { s with dome := { s.dome with gapOn := false } }.cnt F.SAFE.SOUT_CNT.SKIPPED else s
  let s := ((s.clrBit F.SAFE.SOUT_STAT.ON j).setLevel (2 * j) false).setLevel (2 * j + 1) false
  { s with dome := { s.dome with mism := Tab.del (Tab.del s.dome.mism (2 * j)) (2 * j + 1) } }

/-- Outputs without a demand stop. -/
def State.outputsUpdate (s : State) : State :=
  forEach [0, 1] s (fun s j => if s.demandOf j then s else s.outputOff j)

/-! ## Mode changes -/

/-- Modes in which frames run. -/
def Mode.runs : Mode → Bool
  | .scan => true | .degraded => true | .holdover => true | _ => false

/-- All cores. -/
def allCores : List Nat := [0, 1, 2, 3, 4, 5, 6, 7, 8, 9, 10, 11]

/-- Entry to SCAN, DEGRADED or HOLDOVER from ARMED: every enabled zone starts INTRUDED, and only frames that begin later count towards
release (R339); no frame has completed since entry (R204). -/
def State.zonesStart (s : State) : State :=
  let s := s.setFld F.SAFE.SF2_STAT.INTR (zoneNums.foldl (fun m z => if s.flag F.SAFE.ZONE_A.EN z then m + 2 ^ z else m) 0)
  { s with dome := { s.dome with zones := [], fromFrame := s.dome.frame + 1 }, out := { s.out with sweeps := 0, whole := false } }

/-- The units shown in DEG_STAT are faulted only while the device is in DEGRADED. -/
def State.leaveDegraded (s : State) : State :=
  let s := (((s.setFld F.SAFE.DEG_STAT.DROP 0).setBit F.SAFE.DEG_STAT.AXIS_H false).setBit F.SAFE.DEG_STAT.AXIS_V false)
  let s := (((s.setBit F.SAFE.DEG_STAT.BK false).setBit F.SAFE.DEG_STAT.PORT_A false).setBit F.SAFE.DEG_STAT.PORT_B false)
  s.setBit F.SAFE.DEG_STAT.ACKED false

/-- What a block does on entry to a mode, given the mode left. -/
def State.modeActions (s : State) (old m : Mode) : State :=
  let s := if old = .armed ∧ m ≠ .armed then s.abandonTrim else s
  let s := if old = .degraded ∧ m ≠ .degraded then s.leaveDegraded else s
  let s := if m.runs then
      { (if old = .armed then s.zonesStart else s) with
        dome := { (if old = .armed then s.zonesStart else s).dome with lastB := s.now } }
    else s.dropLsr
  let s := s.capUpdate
  match m with
  | .idle =>
    let s := forEach bankNums s State.sleepBank
    let s := { s with fire := { s.fire with blocked := false } }
    if old = .boot then
      s.afeStart.updBg (fun x => { x with scrubAt := s.now, scrubK := 0, ageAt := s.now, almAt := some s.now })
    else s
  | .safe => { forEach bankNums s State.sleepBank with fire := { (forEach bankNums s State.sleepBank).fire with blocked := true } }
  | .armed =>
    let s := forEach bankNums s.armBanks (fun s b => s.setFld F.MON.START_BANK.RUN 0 b)
    { s with mirr := { s.mirr with restart := true } }
  | .degraded => { s with dome := { s.dome with degAt := s.now } }
  | _ => s

/-- A mode change (R294): SEQ advances, every core gets its MODE event, a pending transition ends, and the notice is sent. -/
def State.enterMode (s : State) (m : Mode) : State :=
  let old := s.dev.mode
  let s := ({ s with dev := { s.dev with mode := m } }).cnt F.DEV.MODE_STAT.SEQ
  let s := (s.setBit F.DEV.MODE_STAT.BUSY false).setFld F.DEV.MODE_STAT.PEND_TO 0
  ((s.modeActions old m).outputsUpdate.coreEvents allCores .mode).modeEvent

/-- A SAFE decision (R330). In SAFE, BOOT and FROZEN there is nothing to decide (R296). -/
def State.safeDecision (s : State) : State :=
  match s.dev.mode with
  | .safe => s
  | .boot => s
  | .frozen => s
  | _ => s.enterMode .safe

/-! ## Requests (R295 to R297, R301) -/

/-- A refused request and its reason. -/
def State.reqErr (s : State) (n : Nat) : WRes := (s.setFld F.DEV.MODE_STAT.REQ_ERR n, some .refused)

/-- Both bridges of an axis are broken. -/
def State.axisBroken (s : State) : Bool :=
  (s.bit F.AFE.BR_STAT.BRK 0 && s.bit F.AFE.BR_STAT.BRK 1) || (s.bit F.AFE.BR_STAT.BRK 2 && s.bit F.AFE.BR_STAT.BRK 3)

/-- Request IDLE. -/
def State.reqIdle (s : State) : WRes :=
  match s.dev.mode with
  | .armed | .scan | .degraded | .holdover => (s.enterMode .idle, none)
  | .safe => if s.fltWord = 0 then (s.enterMode .idle, none) else s.reqErr 8
  | _ => s.reqErr 2

/-- Request ARMED. -/
def State.reqArmed (s : State) : WRes :=
  match s.dev.mode with
  | .idle =>
    if !s.flag F.TIME.PLL_STAT.TPLL_LOCK || s.flag F.TIME.PLL_STAT.REF_LOSS then s.reqErr 3
    else if s.axisBroken then s.reqErr 4
    else ((s.setFld F.DEV.MODE_STAT.ARM_ERR 0).enterMode .armed, none)
  | .scan | .degraded | .holdover => ((s.setFld F.DEV.MODE_STAT.ARM_ERR 0).enterMode .armed, none)
  | _ => s.reqErr 2

/-- Request SCAN: accepted, it sets BUSY and the Dome's entry checks run. -/
def State.reqScan (s : State) : WRes :=
  match s.dev.mode with
  | .armed =>
    if !s.armedOk then s.reqErr 5
    else if !s.flag F.FIRE.EYE_CFG.LOCK then s.reqErr 6
    else if s.fld F.ALD.EPH_STAT.INFORCE = 0 then s.reqErr 7
    else ((s.setBit F.DEV.MODE_STAT.BUSY true).setFld F.DEV.MODE_STAT.PEND_TO 3, none)
  | _ => s.reqErr 2

/-- Request SAFE. -/
def State.reqSafe (s : State) : WRes :=
  match s.dev.mode with
  | .idle | .armed | .scan | .degraded | .holdover => (s.enterMode .safe, none)
  | _ => s.reqErr 2

/-- A write of DEV.MODE_REQ: while BUSY is set only a request for IDLE or SAFE is judged, and it ends the pending transition
(R295). -/
def State.wrModeReq (s : State) (v : Word) : WRes :=
  let t := bits v 2 0
  let busy := s.flag F.DEV.MODE_STAT.BUSY
  if busy && t != 1 && t != 5 then s.reqErr 1
  else
    let s := if busy then (s.setBit F.DEV.MODE_STAT.BUSY false).setFld F.DEV.MODE_STAT.PEND_TO 0 else s
    match t with
    | 1 => s.reqIdle
    | 2 => s.reqArmed
    | 3 => s.reqScan
    | 5 => s.reqSafe
    | _ => s.reqErr 2

end Sys2Proof.Machine
end

