-- ==== Sys2Proof/Machine/Operands.lean ====
section
/-!
DEFINITION. The operand fields of an Ivqua instruction word: its low 40 bits beside the opcode (spec/10_ivqua_model.md R228),
and which words are legal in each format.
-/
namespace Sys2Proof.Machine

/-- The fields of the three formats: d or cond, a, b, and what stands below them. -/
def fieldD (w : BitVec 40) : Nat := w.toNat / 2 ^ 36
def fieldA (w : BitVec 40) : Nat := w.toNat / 2 ^ 32 % 16
def fieldB (w : BitVec 40) : Nat := w.toNat / 2 ^ 28 % 16
def low28 (w : BitVec 40) : Nat := w.toNat % 2 ^ 28
def imm24 (w : BitVec 40) : Nat := w.toNat % 2 ^ 24

/-- imm24 extended with zeros or with its sign. -/
def zxImm (w : BitVec 40) : Word := BitVec.ofNat 48 (imm24 w)
def sxImm (w : BitVec 40) : Word := (BitVec.ofNat 24 (imm24 w)).signExtend 48

/-- The signed offset of the Branch format, in instructions. -/
def branchOff (w : BitVec 40) : Int := (BitVec.ofNat 20 (w.toNat % 2 ^ 20)).toInt

/-- Bits [23:0] of a word taken as a signed value. -/
def s24 (v : Word) : Int := (BitVec.ofNat 24 v.toNat).toInt

/-! ## Legal words (R228, R252) -/

/-- Register format with all operands d, a, b named and no subfields. -/
def regLegal (w : BitVec 40) : Bool := low28 w == 0

/-- Register format without b. -/
def regLegalDA (w : BitVec 40) : Bool := low28 w == 0 && fieldB w == 0

/-- Register format without d. -/
def regLegalAB (w : BitVec 40) : Bool := low28 w == 0 && fieldD w == 0

/-- Register format with a alone, with d alone, and with none. -/
def regLegalA (w : BitVec 40) : Bool := low28 w == 0 && fieldD w == 0 && fieldB w == 0
def regLegalD (w : BitVec 40) : Bool := low28 w == 0 && fieldA w == 0 && fieldB w == 0
def regLegal0 (w : BitVec 40) : Bool := w == 0

/-- Immediate format: [31:28] and [27:24] are 0. -/
def immLegal (w : BitVec 40) : Bool := w.toNat / 2 ^ 24 % 2 ^ 8 == 0

/-- Branch format: [31:28] and [27:20] are 0. -/
def branchLegal (w : BitVec 40) : Bool := w.toNat / 2 ^ 20 % 2 ^ 12 == 0

/-- The shift instructions: with bit [27] set, b and [26:6] are 0; otherwise [27:0] is 0 (R254). -/
def shiftLegal (w : BitVec 40) : Bool :=
  if w.getLsbD 27 then fieldB w == 0 && w.toNat / 2 ^ 6 % 2 ^ 21 == 0 else low28 w == 0

/-- SEND and RECV (R259): a, b, [20] and [15:3] are 0, and w is at most 40. -/
def mailLegal (w : BitVec 40) : Bool :=
  fieldA w == 0 && fieldB w == 0 && !w.getLsbD 20 && w.toNat / 2 ^ 3 % 2 ^ 13 == 0 && decide (w.toNat / 2 ^ 21 % 2 ^ 6 ≤ 40)

/-- The subfields of SEND and RECV: first buffer word by its address in the tile buffers, mailbox, and words. -/
def mailAt (w : BitVec 40) : Nat := 64 * (w.toNat / 2 ^ 27 % 2) + w.toNat / 2 ^ 21 % 2 ^ 6
def mailBox (w : BitVec 40) : Nat := w.toNat / 2 ^ 16 % 16
def mailLen (w : BitVec 40) : Nat := w.toNat % 8 + 1

/-- A field that names a V register has bit 3 equal to 0 (R228, R269). -/
def isV (n : Nat) : Bool := decide (n < 8)

end Sys2Proof.Machine
end

