-- ==== Sys2Proof/Machine/CoreOps.lean ====
section
/-!
DEFINITION. The cores: registers, tile buffers, the instruction fetch, traps, events, stopping, failover and the release of a
cell, and the issue of an instruction (spec/10_ivqua_model.md R223 to R243).
-/
namespace Sys2Proof.Machine

/-! ## Registers and buffers (R224, R225) -/

/-- Gn: G0 reads 0 and discards writes. -/
def Core.rd (x : Core) (n : Nat) : Word := if n = 0 then 0 else Tab.get (fun _ => 0) x.g n
def Core.wr (x : Core) (n : Nat) (v : Word) : Core :=
  if n = 0 then x else { x with g := Tab.set (fun _ => 0) x.g n v }

/-- Vn. -/
def Core.rdV (x : Core) (n : Nat) : Word := Tab.get (fun _ => 0) x.v n
def Core.wrV (x : Core) (n : Nat) (v : Word) : Core := { x with v := Tab.set (fun _ => 0) x.v n v }

/-- A word of the tile buffers by its address: TB0 from 0, TB1 from 64. -/
def Core.rdB (x : Core) (a : Nat) : Word := Tab.get (fun _ => 0) x.tb a
def Core.wrB (x : Core) (a : Nat) (v : Word) : Core := { x with tb := Tab.set (fun _ => 0) x.tb a v }

/-- Words put into a buffer from an address. -/
def Core.putB (x : Core) (a : Nat) : List Word → Core
  | [] => x
  | w :: t => (x.wrB a w).putB (a + 1) t

/-- Words of a buffer from an address. -/
def Core.getB (x : Core) (a n : Nat) : List Word := (List.range n).map (fun i => x.rdB (a + i))

/-- An address that a tile buffer holds. -/
def inBuffer (a : Nat) : Bool := decide (a < 48) || decide (64 ≤ a ∧ a < 112)

/-- Change one core. -/
def State.updCore (s : State) (c : Nat) (f : Core → Core) : State := s.setCore c (f (s.core c))

/-! ## Core state (R249) -/

def isAld (c : Nat) : Bool := decide (c < 4)
def State.coreState (s : State) (c : Nat) : Nat := s.fld F.CORE.STAT.STATE c
def State.setCoreState (s : State) (c n : Nat) : State := s.setFld F.CORE.STAT.STATE n c

/-- RUNNING or WAITING. -/
def State.coreRuns (s : State) (c : Nat) : Bool := s.coreState c == 2 || s.coreState c == 3

/-- A core waits with STATE WAITING (R258). -/
def State.coreWait (s : State) (c : Nat) (w : Wait) : State :=
  (s.updCore c (fun x => { x with wait := w })).setCoreState c 3

/-- It resumes. -/
def State.coreResume (s : State) (c : Nat) : State :=
  (s.updCore c (fun x => { x with wait := .none })).setCoreState c 2

/-- The number of a bank's strips, of a Reticle core's registers. -/
def rtl (c : Nat) : Nat := c - 4

/-! ## Service sets (R239, R240) -/

def reticles : List Nat := [4, 5, 6, 7, 8, 9, 10, 11]

/-- The set a Reticle core serves on its own account. -/
def State.svcOwn (s : State) (c : Nat) : Nat := (s.core c).svc.getD (F.RTL.SVC.SET.resetVal s.fuses (rtl c))

/-- Its effective set: with what it has taken over. -/
def State.svcEff (s : State) (c : Nat) : Nat := (s.core c).adopted.foldl (fun m p => m ||| p.2) (s.svcOwn c)

/-- Hand a stopped core's effective set to the first running Reticle after it. -/
def State.failover (s : State) (c : Nat) : State :=
  if !s.flag F.RTL.CTRL.FAILOVER (rtl c) then s
  else
    match (List.range 7).find? (fun i => s.coreRuns (4 + (rtl c + 1 + i) % 8)) with
    | none => s
    | some i =>
      let t := 4 + (rtl c + 1 + i) % 8
      let give := (c, s.svcOwn c) :: (s.core c).adopted
      let s := s.updCore t (fun y => { y with
        adopted := give.foldl (fun l p => Tab.put l p.1 (p.2 ||| Tab.get (fun _ => 0) l p.1)) y.adopted })
      s.updCore c (fun x => { x with svc := some 0, adopted := [] })

/-! ## Events (R232) -/

/-- The events pending for a core. -/
def State.pendingEv (s : State) (c : Nat) : Nat :=
  let work := if isAld c then !(s.core c).queue.isEmpty
    else (List.range 24).any (fun d => (s.svcEff c).testBit d && !(s.strip d).cq.isEmpty)
  ((s.core c).ev ||| (if work then 1 else 0)) ||| (if s.mbxPending c then 16 else 0)

/-- Event EV (R229). -/
def State.evTrue (s : State) (c : Nat) : Bool := s.pendingEv c &&& s.fld F.CORE.CTRL.EV_MASK c != 0

/-! ## Groups to the rings (R201, R207, R277) -/

/-- The cell status record of an entry: LOWCONF and AMB as given. -/
def statusRec (e : Word) (low : Bool) (amb : Nat) : Word × Word :=
  (BitVec.ofNat 48 (bits e 35 32 * 2 ^ 36 + bits e 43 36 * 2 ^ 28 + bits e 47 47 * 2 ^ 27 + bits e 45 45 * 2 ^ 26),
   BitVec.ofNat 48 (3 * 2 ^ 22 + (if low then 2 ^ 17 else 0) + bits e 46 46 * 2 ^ 16 + min 255 (amb / 2)))

/-- Frame that a cell's open close belongs to. -/
def State.frameOfTile (s : State) (n : Nat) : Nat := (s.dome.closes.find? (fun p => p.1 == n)).elim s.dome.frame (·.2)

/-- The group of a cell's records. -/
def State.groupOf (s : State) (x : Cell) (recs : List (Word × Word)) (c : Option Nat) : OutGrp :=
  let n := bits x.entry 15 0
  { recs := recs, tile := n, starved := x.entry.getLsbD 46, shots := bits x.entry 43 36, frame := s.frameOfTile n
    tpt := x.tpt, core := c }

/-- A group goes to the ring of the bank that holds the cell, behind those that wait. -/
def State.handOver (s : State) (g : OutGrp) : State :=
  let b := g.tile / 2048 / 6
  let alone := (s.ring b).groups.isEmpty
  let s := s.setRing b { s.ring b with groups := (s.ring b).groups ++ [g] }
  if alone then s.ringEntry b else s

/-! ## Stopping (R240, R242, R243, R245) -/

/-- Release a Reticle core's current cell (R240). -/
def State.releaseCell (s : State) (c : Nat) : State :=
  match (s.core c).cell with
  | none => s
  | some x =>
    let n := bits x.entry 15 0
    let s := (s.wrMem (48 * n + 36) (setWBit (s.rdMem (48 * n + 36)) w36Held false)).reCrc n
    let s := (s.updCore c (fun y => { y with cell := none })).cnt F.RTL.STAT.ABANDON 1 (rtl c)
    let g := s.groupOf x [statusRec x.entry true (bits (s.rdMem (48 * n + 37)) 47 36)] none
    let s := { s with dome := { s.dome with closes := s.dome.closes.filter (fun p => p.1 != n) } }
    s.handOver g

/-- With no Reticle RUNNING or WAITING, a processing fault is reported (R240, R333). -/
def State.noReticle (s : State) : State := if reticles.any s.coreRuns then s else s.report .proc

/-- A core enters STOPPED (0) or FAULT (5). -/
def State.enterStopped (s : State) (c n : Nat) : State :=
  let s := (s.updCore c (fun x => { x with wait := .none, stopReq := false })).setCoreState c n
  let s := s.semReleaseAll (coreCode c)
  if isAld c then (if n = 5 && s.scanning then s.report (.seq c) else s)
  else ((s.failover c).releaseCell c).noReticle

/-- A STOP that waited takes effect once the core's instruction has completed (R245, R278). -/
def State.stopDue (s : State) (c : Nat) : State :=
  let x := s.core c
  if x.stopReq && x.book.isNone && !decide (x.wait = .ring) then s.enterStopped c 0 else s

/-- The same for every core, after a ring has taken groups. -/
def State.stopsDue (s : State) : State := forEach allCores s State.stopDue

/-! ## Traps (R242) -/

/-- Trap causes. -/
def tILLEGAL : Nat := 1
def tADDR : Nat := 2
def tTILE : Nat := 3
def tFETCH : Nat := 4
def tSTACK : Nat := 5
def tMBXFULL : Nat := 6
def tBOOK : Nat := 7
def tCELL : Nat := 8
def tSOFT : Nat := 9

/-- CAUSE and TPC take a trap. -/
def State.noteTrap (s : State) (c cause : Nat) : State :=
  (s.setFld F.CORE.TRAP.CAUSE cause c).setFld F.CORE.TRAP.TPC (s.core c).pc c

/-- Trap entry. -/
def State.trapTo (s : State) (c cause : Nat) : State :=
  let x := s.core c
  if s.flag F.CORE.STAT.TRAP_ACTIVE c then (s.setFld F.CORE.TRAP.SEC_CAUSE cause c).enterStopped c 5
  else if !s.flag F.CORE.CTRL.TRAP_EN c then (s.noteTrap c cause).enterStopped c 5
  else if 16 ≤ x.stack.length then
    ((s.noteTrap c cause).setFld F.CORE.TRAP.SEC_CAUSE tSTACK c).enterStopped c 5
  else
    ((s.noteTrap c cause).setBit F.CORE.STAT.TRAP_ACTIVE true c).updCore c
      (fun x => { x with stack := (x.pc + 1, true) :: x.stack, pc := x.vec })

/-! ## Mail of one cycle (R278, R385) -/

/-- The core that has placed a mailbox's message in this tick. -/
def State.mbxBy (s : State) (m : Nat) : Option Nat :=
  let x := s.mbx m
  if x.msg.isEmpty || x.at_ != s.now then none
  else allCores.find? (fun c => coreCode c == bits (x.msg.getD 0 0) 47 40)

/-- The message that a removal takes: one placed by a core in the same tick is not yet there. -/
def State.mbxThere (s : State) (m : Nat) : List Word := if (s.mbxBy m).isSome then [] else (s.mbx m).msg

/-- A message that a core has placed in this tick gives way to one of a port, of Meridian or of a lower-numbered core: its
SEND has found the mailbox full. -/
def State.mbxYield (s : State) (m : Nat) (a : Accessor) : State :=
  let first (j : Nat) : Bool := match a with
    | .core c => decide (c.val < j)
    | _ => true
  match s.mbxBy m with
  | none => s
  | some j =>
    if first j then
      let s := (s.setFld F.MBX.CNT.SEQ (s.fld F.MBX.CNT.SEQ m + 65535) m).setFld F.MBX.CNT.PLACED (s.fld F.MBX.CNT.PLACED m + 65535) m
      let s := (s.setMbx m { s.mbx m with msg := [] }).cnt F.MBX.CNT.FULL 1 m
      (s.updCore j (fun x => { x with pc := x.pc - 1 })).trapTo j tMBXFULL
    else s

/-! ## Fetch (R231) -/

/-- The shared-store tile that holds the instruction at the PC. -/
def Core.codeTile (x : Core) : Nat := x.base + 1 + x.pc / 47

/-- The tile in the cache, if it is there. -/
def Core.cached (x : Core) : Option (List Word) := (x.cache.find? (fun p => p.1 == x.codeTile)).map (·.2)

/-- The tile becomes the most recently used of at most eight. -/
def Core.touch (x : Core) (ws : List Word) : Core :=
  { x with cache := ((x.codeTile, ws) :: x.cache.filter (fun p => p.1 != x.codeTile)).take 8 }

/-- Fetch the instruction at the PC: none where the fill's check fails. -/
def State.fetch (s : State) (c : Nat) : Option (Word × State) :=
  let x := s.core c
  match x.cached with
  | some ws => some (ws.getD (x.pc % 47) 0, s.setCore c (x.touch ws))
  | none =>
    let ws := s.rdTile (ctxTiles + x.codeTile)
    if tileOk ws (ctxTiles + x.codeTile) then some (ws.getD (x.pc % 47) 0, s.setCore c (x.touch ws)) else none

/-! ## Issue (R223, R230, R251) -/

/-- Which cores execute an instruction. -/
inductive Subset | common | ald | rtl
  deriving DecidableEq, Repr

def Subset.has (u : Subset) (c : Nat) : Bool :=
  match u with
  | .common => true
  | .ald => isAld c
  | .rtl => !isAld c

/-- The opcodes of R251. -/
def opcodes : List Nat :=
  [0x00, 0x01, 0x02, 0x08, 0x09, 0x0A, 0x10, 0x11, 0x12, 0x13, 0x14, 0x15, 0x16, 0x18, 0x19, 0x1A, 0x1B, 0x1C, 0x1D, 0x1E] ++
  [0x20, 0x21, 0x22, 0x23, 0x28, 0x29, 0x2A, 0x2B, 0x30, 0x31, 0x32, 0x33, 0x34, 0x35, 0x36, 0x37] ++
  [0x40, 0x41, 0x42, 0x43, 0x44, 0x45, 0x46, 0x47] ++
  [0x50, 0x51, 0x52, 0x53, 0x54, 0x55, 0x56, 0x57, 0x58, 0x59, 0x5A, 0x5B, 0x5C, 0x5D, 0x5E]

/-- The whole word of an instruction. -/
def wordOf (op : Nat) (w : BitVec 40) : Word := BitVec.ofNat 48 (op * 2 ^ 40 + w.toNat)

/-- The core can issue: RUNNING, with no instruction under way. -/
def State.canIssue (s : State) (c : Nat) : Bool :=
  s.live && s.coreState c == 2 && decide ((s.core c).wait = .none) && (s.core c).book.isNone

/-- The PC passes on. -/
def State.advance (s : State) (c : Nat) : State := s.updCore c (fun x => { x with pc := x.pc + 1 })

/-- The word at the PC issues as the instruction of an opcode. A word of an unlisted opcode, of the other subset or with an
illegal field traps; a word of another opcode is not this command's (log entry 71). `act` runs with the PC advanced and
answers a trap cause or the state after; `count` is what a trap of `act` counts. -/
def State.issue (s : State) (c op : Nat) (w : BitVec 40) (u : Subset) (legal : Bool)
    (act : State → Except Nat State) (count : State → State := id) : State :=
  if !s.canIssue c then s
  else if 47 * (s.core c).ntile ≤ (s.core c).pc then s.trapTo c tADDR
  else
    match s.fetch c with
    | none => s.trapTo c tFETCH
    | some (v, t) =>
      if !opcodes.contains (bits v 47 40) then t.trapTo c tILLEGAL
      else if v != wordOf op w then s
      else if !u.has c || !legal then t.trapTo c tILLEGAL
      else
        match act (t.advance c) with
        | .error cause => (count t).trapTo c cause
        | .ok t => t

/-- An instruction that only changes its core. -/
def State.issueCore (s : State) (c op : Nat) (w : BitVec 40) (u : Subset) (legal : Bool) (f : Core → Core) : State :=
  s.issue c op w u legal (fun s => .ok (s.updCore c f))

end Sys2Proof.Machine
end

