-- ==== Sys2Proof/Machine/Arith.lean ====
section
/-!
DEFINITION. The integer and logic instructions of spec/11_ivqua_instructions.md R253 and R254.
-/
namespace Sys2Proof.Machine

/-- NOP. -/
def execNop (c : Fin 12) (w : BitVec 40) (s : State) : Out := .next (s.issueCore c 0x00 w .common (regLegal0 w) id)

/-- HALT: the core enters HALTED; the last Reticle to halt leaves none running (R240). -/
def execHalt (c : Fin 12) (w : BitVec 40) (s : State) : Out :=
  .next (s.issue c 0x01 w .common (regLegal0 w) fun s =>
    let s := s.setCoreState c 4
    .ok (if isAld c then s else s.noReticle))

/-- TRAP. -/
def execTrap (c : Fin 12) (w : BitVec 40) (s : State) : Out :=
  .next (s.issue c 0x02 w .common (regLegal0 w) fun _ => .error tSOFT)

/-- LDI. -/
def execLdi (c : Fin 12) (w : BitVec 40) (s : State) : Out :=
  .next (s.issueCore c 0x08 w .common (immLegal w && fieldA w == 0) fun x => x.wr (fieldD w) (zxImm w))

/-- LDH. -/
def execLdh (c : Fin 12) (w : BitVec 40) (s : State) : Out :=
  .next (s.issueCore c 0x09 w .common (immLegal w && fieldA w == 0) fun x =>
    x.wr (fieldD w) ((zxImm w <<< 24) ||| (x.rd (fieldD w) &&& 0xFFFFFF)))

/-- MOV. -/
def execMov (c : Fin 12) (w : BitVec 40) (s : State) : Out :=
  .next (s.issueCore c 0x0A w .common (regLegalDA w) fun x => x.wr (fieldD w) (x.rd (fieldA w)))

/-- A sum and a difference into a register, with their flags. -/
def Core.addTo (x : Core) (d : Nat) (a b : Word) : Core := (x.addFlags a b).wr d (a + b)
def Core.subTo (x : Core) (d : Nat) (a b : Word) : Core := (x.subFlags a b).wr d (a - b)

/-- ADD. -/
def execAdd (c : Fin 12) (w : BitVec 40) (s : State) : Out :=
  .next (s.issueCore c 0x10 w .common (regLegal w) fun x => x.addTo (fieldD w) (x.rd (fieldA w)) (x.rd (fieldB w)))

/-- ADDI. -/
def execAddi (c : Fin 12) (w : BitVec 40) (s : State) : Out :=
  .next (s.issueCore c 0x11 w .common (immLegal w) fun x => x.addTo (fieldD w) (x.rd (fieldA w)) (sxImm w))

/-- SUB. -/
def execSub (c : Fin 12) (w : BitVec 40) (s : State) : Out :=
  .next (s.issueCore c 0x12 w .common (regLegal w) fun x => x.subTo (fieldD w) (x.rd (fieldA w)) (x.rd (fieldB w)))

/-- SUBI. -/
def execSubi (c : Fin 12) (w : BitVec 40) (s : State) : Out :=
  .next (s.issueCore c 0x13 w .common (immLegal w) fun x => x.subTo (fieldD w) (x.rd (fieldA w)) (sxImm w))

/-- The product of the signed low 24 bits, exact in 48 bits. -/
def mulOf (a b : Word) : Word := BitVec.ofInt 48 (s24 a * s24 b)

/-- MUL. -/
def execMul (c : Fin 12) (w : BitVec 40) (s : State) : Out :=
  .next (s.issueCore c 0x14 w .common (regLegal w) fun x =>
    (x.mulFlags (mulOf (x.rd (fieldA w)) (x.rd (fieldB w)))).wr (fieldD w) (mulOf (x.rd (fieldA w)) (x.rd (fieldB w))))

/-- CMP. -/
def execCmp (c : Fin 12) (w : BitVec 40) (s : State) : Out :=
  .next (s.issueCore c 0x15 w .common (regLegalAB w) fun x => x.subFlags (x.rd (fieldA w)) (x.rd (fieldB w)))

/-- CMPI. -/
def execCmpi (c : Fin 12) (w : BitVec 40) (s : State) : Out :=
  .next (s.issueCore c 0x16 w .common (immLegal w && fieldD w == 0) fun x => x.subFlags (x.rd (fieldA w)) (sxImm w))

/-- A logical result into a register: Z and N set. -/
def Core.logicTo (x : Core) (d : Nat) (r : Word) : Core := (x.setZN r).wr d r

/-- AND. -/
def execIand (c : Fin 12) (w : BitVec 40) (s : State) : Out :=
  .next (s.issueCore c 0x18 w .common (regLegal w) fun x => x.logicTo (fieldD w) (x.rd (fieldA w) &&& x.rd (fieldB w)))

/-- OR. -/
def execIor (c : Fin 12) (w : BitVec 40) (s : State) : Out :=
  .next (s.issueCore c 0x19 w .common (regLegal w) fun x => x.logicTo (fieldD w) (x.rd (fieldA w) ||| x.rd (fieldB w)))

/-- XOR. -/
def execIxor (c : Fin 12) (w : BitVec 40) (s : State) : Out :=
  .next (s.issueCore c 0x1A w .common (regLegal w) fun x => x.logicTo (fieldD w) (x.rd (fieldA w) ^^^ x.rd (fieldB w)))

/-- NOT. -/
def execInot (c : Fin 12) (w : BitVec 40) (s : State) : Out :=
  .next (s.issueCore c 0x1B w .common (regLegalDA w) fun x => x.logicTo (fieldD w) (~~~ x.rd (fieldA w)))

/-- The shift amount: bits [5:0] of the word or of G[b] (R254). -/
def Core.shiftBy (x : Core) (w : BitVec 40) : Nat :=
  if w.getLsbD 27 then w.toNat % 64 else (x.rd (fieldB w)).toNat % 64

/-- A shift's result into a register. -/
def Core.shiftTo (x : Core) (d : Nat) (r : Word × Bool) : Core := (x.shiftFlags r).wr d r.1

/-- SHL. -/
def execShl (c : Fin 12) (w : BitVec 40) (s : State) : Out :=
  .next (s.issueCore c 0x1C w .common (shiftLegal w) fun x => x.shiftTo (fieldD w) (shlOf (x.rd (fieldA w)) (x.shiftBy w)))

/-- SHR. -/
def execShr (c : Fin 12) (w : BitVec 40) (s : State) : Out :=
  .next (s.issueCore c 0x1D w .common (shiftLegal w) fun x => x.shiftTo (fieldD w) (shrOf (x.rd (fieldA w)) (x.shiftBy w)))

/-- SAR. -/
def execSar (c : Fin 12) (w : BitVec 40) (s : State) : Out :=
  .next (s.issueCore c 0x1E w .common (shiftLegal w) fun x => x.shiftTo (fieldD w) (sarOf (x.rd (fieldA w)) (x.shiftBy w)))

end Sys2Proof.Machine
end

