-- ==== Sys2Proof/Machine/Mirror.lean ====
section
/-!
DEFINITION. Coelostat: the control period, the horizontal tracker, search and lock, the loops, lowest-wins selection and
following-error supervision (spec/05_mirror_control.md R104 to R121).
-/
namespace Sys2Proof.Machine

/-- A control period, 10 µs. -/
def period : Inst := 200000

/-- A free whole number of either sign. -/
def State.takeInt (s : State) : Int × State :=
  let r := s.takeFree .unstated
  (if r.1 % 2 = 0 then (r.1 / 2 : Nat) else -(((r.1 + 1) / 2 : Nat) : Int), r.2)

/-! ## Phases -/

/-- Model phase at an instant, in 2^−48 turn: f is in µHz and instants in 50 ps. -/
def Model.phaseAt (m : Model) (i : Inst) : Int :=
  m.th * 65536 + m.f * (i - m.tp) * 5 * one48 / 100000000000000000

/-- 10^11 turns of 2^32: the denominator of ψ. -/
def psiDen : Int := 100000000000 * 4294967296

/-- ψ = φ − θ at t_n, in turns modulo 1, over `psiDen` (R110). -/
def State.psi (s : State) : Int := (s.mirr.phi * 4294967296 - s.mirr.model.th * 100000000000) % psiDen

/-- ψ − PH_SET over `psiDen`. -/
def State.psiErr (s : State) : Int := s.psi - s.act F.MIRR.H_PF.PH_SET * (psiDen / 65536)

/-! ## Tracker (R108, R109) -/

/-- The model phase at an instant is a whole number of 2^−48 turn and lies at 0 or 1/2 turn, where its sine is exactly 0. -/
def Model.exactAt (m : Model) (i : Inst) : Bool :=
  (m.f * (i - m.tp) * 5 * one48) % 100000000000000000 == 0 && m.phaseAt i % (one48 / 2) == 0

/-- The sums P, Q and Z of R109 in 2^−48, P without its division by A, and a bound on the error that the fixed-point sine leaves in
each: no term of a residual that is exactly 0 has any. -/
def State.sums (s : State) : Int × Int × Int × Int :=
  let m := s.mirr.model
  s.mirr.hs.foldl (fun q x =>
    let t := m.phaseAt x.1
    let r := (x.2 - m.c) * one48 - m.a * sin48 t
    let eps : Int := if r = 0 ∧ (m.a = 0 ∨ m.exactAt x.1) then 0 else 64 * m.a.natAbs + r.natAbs / 4398046511104 + 66
    (q.1 + r * cos48 t / one48, q.2.1 + r * sin48 t / one48, q.2.2.1 + r, q.2.2.2 + eps)) (0, 0, 0, 0)

/-- The model for t_n+1: updated by the samples of the period and propagated, each value rounded to one next to its exact result. With
A at 0 the division by A has no stated result, so P is a free value (log entry 51). -/
def State.trackerStep (s : State) : Model × State :=
  let m := s.mirr.model
  let q := s.sums
  if s.mirr.hs.isEmpty then
    let r := s.around .tracker (m.f * 4294967296) 100000000000 0
    ({ m with th := m.th + r.1, tp := s.mirr.tn + period }, r.2)
  else
    let p := if m.a = 0 then s.takeInt else (q.1 / m.a, s)
    let ep : Int := if m.a = 0 ∨ (q.1 = 0 ∧ q.2.2.2 = 0) then 0 else q.2.2.2 / m.a.natAbs + 2
    let f := p.2.around .tracker (p.1 * 100000000000) (twoPi48 * 2 ^ s.act F.MIRR.H_TRK.GF_SH)
      ((ep + p.1.natAbs / 562949953421312) * 100000000000)
    let f1 := m.f + f.1
    let g : Int := 2 ^ s.act F.MIRR.H_TRK.GP_SH
    -- Δθ + f × 10 µs in 2^−32 turn, over the common denominator 10^11 × 2π × 2^GP_SH
    let th := f.2.around .tracker ((p.1 * 100000000000 + f1 * twoPi48 * g) * 4294967296) (100000000000 * twoPi48 * g)
      ((ep + p.1.natAbs / 562949953421312) * 100000000000 * 4294967296)
    let a := th.2.around .tracker q.2.1 (one48 * 2 ^ s.act F.MIRR.H_TRK.GA_SH) q.2.2.2
    let c := a.2.around .tracker q.2.2.1 (one48 * 2 ^ s.act F.MIRR.H_TRK.GC_SH) (if m.a = 0 then 0 else q.2.2.2)
    ({ th := m.th + th.1, f := f1, a := m.a + a.1, c := m.c + c.1, tp := s.mirr.tn + period }, c.2)

/-! ## Lowest wins (R117 to R119) -/

/-- The lowest of four candidates and the lowest index that has it. -/
def lowest (c0 c1 c2 c3 : Int) : Int × Nat :=
  let m := min (min c0 c1) (min c2 c3)
  (m, if c0 = m then 0 else if c1 = m then 1 else if c2 = m then 2 else 3)

/-- Applied level and winner of an electrode for its main level, its last level, and the axis's current, limit and slew. -/
def State.elect (s : State) (main : Int) (last cur lim slew : Nat) : Nat × Nat :=
  let l : Int := last
  let r := lowest main (l + (s.act F.MIRR.ILIM.K_I : Int) * ((lim : Int) - cur) / 16)
    (l + (s.act F.MIRR.TLIM.K_T : Int) * (s.actS F.MIRR.TLIM.T_LIM - s.mirr.temp) / 16) (l + slew)
  ((clampI 0 65535 r.1).toNat, r.2)

/-! ## Trajectory (R115) -/

/-- Distance covered while stopping from speed v with steps of a: (v − a) + (v − 2a) + … -/
def stopDist (v a : Int) : Int :=
  let m := (v - 1) / a
  m * v - a * (m * (m + 1) / 2)

/-- The greatest speed in [lo, lo + 2^n) from which the generator still stops within d. -/
def bestSpeed : Nat → Int → Int → Int → Int
  | 0, lo, _, _ => lo
  | n + 1, lo, d, a =>
    let m := lo + 2 ^ n
    if m ≤ 0 ∨ m + stopDist m a ≤ d then bestSpeed n m d a else bestSpeed n lo d a

/-- Next speed towards a distance d ≥ 0 from speed v, under AMAX a and the speed limit vm, all in 2^−8 LSB. -/
def nextSpeed (d v a vm : Int) : Int :=
  if a = 0 then v
  else max (v - a) (min (v + a) (min vm (bestSpeed 25 (-16777216) d a)))

/-- p_cmd, speed and a_cmd of a period for a target in LSB. -/
def State.trajectory (s : State) (target : Int) : Int × Int × Int :=
  let m := s.mirr
  let d := target * 256 - m.pCmd
  let a : Int := s.act F.MIRR.V_CFG.AMAX
  let vm : Int := s.act F.MIRR.V_CFG.VMAX * 256
  let v := if 0 ≤ d then nextSpeed d m.speed a vm else -(nextSpeed (-d) (-m.speed) a vm)
  (m.pCmd + v, v, v - m.speed)

/-- p_cmd in whole LSB. -/
def cmdLsb (p : Int) : Int := roundDiv p 256

/-! ## Following error (R120, R121) -/

/-- TMR acts within 2 to 500. -/
def State.feTmr (s : State) : Nat := clampN 2 500 (s.fld F.MIRR.FE_CFG.TMR)

/-- Compare the axes with their limits for one period, H by the period's own error |A − A_cmd| and V by its own p_cmd. -/
def State.feCheck (s : State) (eH : Nat) : State :=
  let m := s.mirr
  let eV := (m.pMeas - cmdLsb m.pCmd).natAbs
  let overH := m.feHAct && decide (s.fld F.MIRR.FE_CFG.LIM_H * s.act F.MIRR.H_SET.A_SET < eH * 10000)
  let overV := decide (s.fld F.MIRR.FE_CFG.LIM_V < eV)
  let s := if m.feHAct then s.peak F.MIRR.FE_STAT.PEAK_H (min eH 16777215) else s
  let s := s.peak F.MIRR.FE_STAT.PEAK_V (min eV 16777215)
  { s with mirr := { s.mirr with
      overH := if overH then m.overH + 1 else 0, inH := if overH then 0 else m.inH + 1
      overV := if overV then m.overV + 1 else 0, inV := if overV then 0 else m.inV + 1 } }

/-- What the period that ends here has completed. -/
def State.periodEnd (s : State) : State :=
  let m := s.mirr
  let n := s.feTmr
  { s with mirr := { m with
      lockDone := m.lockDone || decide (max 1 (s.fld F.MIRR.H_RAMP.LOCK_N) ≤ m.lockCnt)
      overDoneH := decide (n ≤ m.overH), overDoneV := decide (n ≤ m.overV)
      inDoneH := decide (n ≤ m.inH), inDoneV := decide (n ≤ m.inV) } }

/-! ## Parking and starting (R107, R112) -/

/-- The loops are stopped: drives at the park levels, loop states cleared. A fault of the period that ends here is still to be told
of (R126). -/
def State.park (s : State) : State :=
  let h := s.fld F.MIRR.PARK.PARK_H
  let v := s.fld F.MIRR.PARK.PARK_V
  let s := { s with mirr := { tn := s.mirr.tn, temp := s.mirr.temp, vLast := s.mirr.vLast, pMeas := s.mirr.pMeas
                              lH := h, lVP := v, lVN := v
                              overDoneH := s.mirr.running && s.mirr.overDoneH && !s.mirr.feH
                              overDoneV := s.mirr.running && s.mirr.overDoneV && !s.mirr.feV } }
  let s := ((s.setBit F.MIRR.STAT.ACTIVE false).setBit F.MIRR.STAT.H_CAPT false).setBit F.MIRR.STAT.H_LOCKED false
  let s := (s.setBit F.MIRR.STAT.V_INPOS false).setBit F.MIRR.STAT.VHV_LOW false
  let s := ((s.setFld F.MIRR.DAC_H.U 0).setFld F.MIRR.DAC_H.L_H h).setFld F.MIRR.DAC_V.VP v
  ((s.setFld F.MIRR.DAC_V.VN v).setFld F.MIRR.H_NCO.F_NCO 0).setFld F.MIRR.V_POS.P_CMD 0

/-- Ends of the search window in µHz, clipped to 1,600 Hz to 2,600 Hz. -/
def State.searchHi (s : State) : Int :=
  clampI 1600000000 2600000000 (((s.fld F.MIRR.H_SRCH.F_START : Int) + s.fld F.MIRR.H_SRCH.SPAN) * 10000)
def State.searchLo (s : State) : Int :=
  clampI 1600000000 2600000000 (((s.fld F.MIRR.H_SRCH.F_START : Int) - s.fld F.MIRR.H_SRCH.SPAN) * 10000)

/-- The resonance search starts; loops that were stopped start with it. -/
def State.searchStart (s : State) : State :=
  let s := { s with mirr := { s.mirr with
    running := true, restart := false, searching := true, captured := false, capPeriods := 0, lockCnt := 0
    lockDone := false, feHAct := false, feH := false, overH := 0, inH := 0, sweeps := [], fnco := s.searchHi
    model := { s.mirr.model with tp := s.mirr.tn } } }
  ((s.setBit F.MIRR.STAT.ACTIVE true).setBit F.MIRR.STAT.H_CAPT false).setBit F.MIRR.STAT.H_LOCKED false

/-! ## Electrode codes (R106) -/

/-- Codes of HP and HN at update u, 0 to 19, of the running period, 0.5 µs apart: BIAS_H ± (U / 2) sin 2πφ_u, rounded and
clipped, with the bias that came with U; until a period's first results, and parked, both at the park level. -/
def State.hCodes (s : State) (u : Nat) : Int × Int :=
  if s.mirr.driven then
    let phi := s.mirr.phi + s.mirr.fnco * u / 20
    let bias : Int := s.mirr.bias
    let x := (s.fld F.MIRR.DAC_H.U : Int) * sin48 (phi * one48 / 100000000000)
    let code (v : Int) : Int := clampI 0 65535 (roundDiv v (2 * one48))
    (code (bias * (2 * one48) + x), code (bias * (2 * one48) - x))
  else (s.mirr.lH, s.mirr.lH)

/-! ## The boundary (R104) -/

/-- The results of the period that ends take effect. -/
def State.applyRes (s : State) : State :=
  match s.mirr.res with
  | none => s
  | some r =>
    let s := { s with mirr := { s.mirr with
      res := none, model := r.model, phi := (s.mirr.phi + s.mirr.fnco) % 100000000000, fnco := r.fnco
      lH := r.lH, lVP := r.lVP, lVN := r.lVN, bias := r.bias, driven := true } }
    let s := ((s.setFld F.MIRR.DAC_H.U r.u).setFld F.MIRR.DAC_H.L_H r.lH).setFld F.MIRR.DAC_V.VP r.lVP
    let s := ((s.setFld F.MIRR.DAC_V.VN r.lVN).setFld F.MIRR.WIN.WIN_HP r.winHP).setFld F.MIRR.WIN.WIN_HN r.winHP
    let s := (s.setFld F.MIRR.WIN.WIN_VP r.winVP).setFld F.MIRR.WIN.WIN_VN r.winVN
    let s := if r.cur then s.cnt F.MIRR.LIMCNT.CUR else s
    let s := if r.temp then s.cnt F.MIRR.LIMCNT.TEMP else s
    if r.slew then s.cnt F.MIRR.LIMCNT.SLEW else s

/-- The published model and the NCO in their registers; where a value is finer than its field the rounding is free. -/
def State.showModel (s : State) : State :=
  let m := s.mirr.model
  let s := (s.setFldS F.MIRR.H_MODEL0.AMP m.a).setFldS F.MIRR.H_MODEL0.OFFSET m.c
  let p := s.roundFree m.th 65536
  let s := (p.2.setFldS F.MIRR.H_MODEL1.PHASE p.1).setFldS F.MIRR.H_MODEL1.FREQ m.f
  let q := s.roundFree s.psi (psiDen / 65536)
  (q.2.setFldS F.MIRR.H_NCO.PSI q.1).setFldS F.MIRR.H_NCO.F_NCO s.mirr.fnco

/-- Latches of t_n: senses, temperature, and the committed Mirror group (R104, R126). -/
def State.latchPeriod (s : State) (vhv iH iV : Nat) : State :=
  let s := ((s.setFld F.MIRR.SENSE.VHV vhv).setFld F.MIRR.SENSE.I_H iH).setFld F.MIRR.SENSE.I_V iV
  let s := if s.ripe .mirror then s.copyGroup .mirror else s
  let r := if s.act F.MIRR.TLIM.HK_IN < 24 then (Tab.get (fun _ => 0) s.afe.vals (s.act F.MIRR.TLIM.HK_IN), s) else s.takeInt
  { r.2 with mirr := { r.2.mirr with temp := r.1, pMeas := r.2.mirr.vLast } }

/-- RESONANCE_CAPTURE (R112 step 2). -/
def State.tryCapture (s : State) : State :=
  let m := s.mirr
  if m.searching && decide (s.act F.MIRR.H_SET.A_SET ≤ 32 * m.model.a) && decide (s.psiErr ≤ 0) then
    let s := (s.setBit F.MIRR.STAT.H_CAPT true).setFldS F.MIRR.H_RES.F_CAPT m.fnco
    { s with mirr := { s.mirr with searching := false, captured := true, capPeriods := 0, aCmd := m.model.a
                                   uInt := s.fld F.MIRR.H_RAMP.U_SRCH * 16777216 } }
  else s

/-- SEARCH_FAIL (R112 step 3). -/
def State.searchFailed (s : State) : Bool := s.mirr.searching && decide (s.mirr.fnco ≤ s.searchLo)

/-- The lock conditions of R113 in this period. -/
def State.inLock (s : State) : Bool :=
  let m := s.mirr
  let set : Int := s.act F.MIRR.H_SET.A_SET
  m.captured && m.aCmd == set &&
  decide (s.psiErr.natAbs * 3600 ≤ s.fld F.MIRR.H_RAMP.LOCK_PH * psiDen.natAbs) &&
  decide ((m.model.a - set).natAbs * 10000 ≤ s.fld F.MIRR.FE_CFG.LIM_H * set.natAbs)

/-- NCO frequency for the next period: the search falls, the loop follows the lag (R110, R112). -/
def State.nextNco (s : State) : Int × State :=
  let m := s.mirr
  if m.captured then
    let r := s.roundFree (-(s.act F.MIRR.H_PF.KF : Int) * 360000 * s.psiErr) psiDen
    (clampI 1600000000 2600000000 (m.fnco + r.1), r.2)
  else (max s.searchLo (m.fnco - max 1 (s.fld F.MIRR.H_SRCH.RATE) * 10), s)

/-- A_cmd after this period (R111). -/
def State.nextACmd (s : State) : Int :=
  let set : Int := s.act F.MIRR.H_SET.A_SET
  let step : Int := max 1 (s.act F.MIRR.H_RAMP.RAMP)
  s.mirr.aCmd + clampI (-step) step (set - s.mirr.aCmd)

/-- U_int as updated, and U_main, both in 2^−24 code (R111, R112 step 1). -/
def State.hDrive (s : State) : Int × Int :=
  let m := s.mirr
  if m.captured then
    let e := m.aCmd - m.model.a
    let u := m.uInt + s.act F.MIRR.H_AMP.KI_A * e
    (u, clampI 0 (65535 * 16777216) (u + s.act F.MIRR.H_AMP.KP_A * e * 256))
  else (m.uInt, s.fld F.MIRR.H_RAMP.U_SRCH * 16777216)

/-- The horizontal loops and the selection for the H pair: level, winner and state. -/
def State.hLoop (s : State) : (Nat × Nat) × State :=
  let d := s.hDrive
  let r := s.roundFree ((s.act F.MIRR.BIAS.BIAS_H : Int) * 33554432 + d.2) 33554432
  let w := r.2.elect r.1 s.mirr.lH (s.fld F.MIRR.SENSE.I_H) (s.act F.MIRR.ILIM.I_LIM_H) (s.act F.MIRR.SLEW.SLEW_H)
  let s := r.2
  (w, { s with mirr := { s.mirr with uInt := if w.2 = 0 then d.1 else s.mirr.uInt, aCmd := s.nextACmd } })

/-- g of R116 as a fraction, with whether it is clipped at 2.0. -/
def State.hvGain (s : State) : Int × Int × Bool :=
  let nom : Int := s.act F.MIRR.VHV_CFG.NOM
  let v : Int := s.fld F.MIRR.SENSE.VHV
  if 2 * v < nom ∨ v = 0 then (2, 1, true) else if 2 * nom < v then (1, 2, false) else (nom, v, false)

/-- The vertical target: VPOS of the owner, or the committed TARGET (R114). -/
def State.vTarget (s : State) : Int :=
  if s.fld F.MIRR.V_CFG.OWNER < 4 then s.mirr.vpos.getD s.mirr.target else s.actS F.MIRR.V_CMD.TARGET

/-- The vertical loop and the selections for VP and VN (R115, R116). -/
def State.vLoop (s : State) : (Nat × Nat) × (Nat × Nat) × State :=
  let target := s.vTarget
  let tr := s.trajectory target
  let m := s.mirr
  let e := cmdLsb tr.1 - m.pMeas
  let i := m.iV + e
  let d := ((s.act F.MIRR.V_PID.KP : Int) * e + s.act F.MIRR.V_PID.KD * (e - m.ePrev)) * 256 +
    s.act F.MIRR.V_PID.KI * i + s.act F.MIRR.V_FF.KA * tr.2.2 * 16
  let g := s.hvGain
  let den := 2097152 * g.2.1
  let bias : Int := s.act F.MIRR.BIAS.BIAS_V
  let p := s.roundFree (bias * den + g.1 * d) den
  let n := p.2.roundFree (bias * den - g.1 * d) den
  let s := n.2
  let cur := s.fld F.MIRR.SENSE.I_V
  let lim := s.act F.MIRR.ILIM.I_LIM_V
  let slew := s.act F.MIRR.SLEW.SLEW_V
  let wp := s.elect (clampI 0 65535 p.1) m.lVP cur lim slew
  let wn := s.elect (clampI 0 65535 n.1) m.lVN cur lim slew
  let s := { s with mirr := { m with
    target := target, vpos := none, pCmd := tr.1, speed := tr.2.1, ePrev := e
    iV := if wp.2 = 0 ∧ wn.2 = 0 then i else m.iV } }
  let s := (s.setBit F.MIRR.STAT.VHV_LOW g.2.2).setFldS F.MIRR.V_POS.P_CMD (cmdLsb tr.1)
  let s := s.setBit F.MIRR.STAT.V_INPOS
    (tr.1 == target * 256 && decide ((m.pMeas - target).natAbs ≤ s.act F.MIRR.V_CFG.INPOS * 16))
  (wp, wn, s)

/-- What a period with the loops running computes for its end. The amplitude is clipped to its 16 bits (log entry 133). -/
def State.compute (s : State) : State :=
  let eH := (s.mirr.model.a - s.mirr.aCmd).natAbs
  let s := { s with mirr := { s.mirr with lockCnt := if s.inLock then s.mirr.lockCnt + 1 else 0
                                          capPeriods := s.mirr.capPeriods + 1 } }
  let t := s.trackerStep
  let f := t.2.nextNco
  let h := f.2.hLoop
  let v := h.2.vLoop
  let s := v.2.2.feCheck eH
  let bias := s.act F.MIRR.BIAS.BIAS_H
  let any (k : Nat) : Bool := h.1.2 == k || v.1.2 == k || v.2.1.2 == k
  let s := { s with mirr := { s.mirr with
    res := some { model := t.1, fnco := f.1, lH := h.1.1, lVP := v.1.1, lVN := v.2.1.1
                  winHP := h.1.2, winVP := v.1.2, winVN := v.2.1.2, cur := any 1, temp := any 2, slew := any 3
                  u := min 65535 (2 * (h.1.1 - bias)), bias := bias } } }
  { s with mirr := { s.mirr with hs := [] } }

/-- An arming failure: back to IDLE with its reason (R298). -/
def State.armFail (s : State) (n : Nat) : State := (s.setFld F.DEV.MODE_STAT.ARM_ERR n).enterMode .idle

/-- One control-period boundary. -/
def State.boundary (s : State) (vhv iH iV : Nat) : State :=
  let s := s.latchPeriod vhv iH iV
  let s := s.setFldS F.MIRR.V_POS.P_MEAS s.mirr.pMeas
  if !(s.dev.mode = .armed || s.scanning) then (if s.mirr.running then s.periodEnd else s).park
  else
    let s := s.applyRes.periodEnd
    let s := if s.mirr.restart then s.searchStart else s
    if !s.mirr.running then s
    else
      let s := s.showModel.tryCapture
      if s.searchFailed then (s.setBit F.MIRR.STAT.SRCH_FAIL true).armFail 1
      else
        let s := s.compute
        if s.dev.mode = .armed && s.axisBroken then s.armFail 3 else s

/-- The bridges have delivered their outputs of an instant, which Coelostat latches there (R104, R149). -/
def State.outputsIn (s : State) (t : Inst) : Bool :=
  !s.afe.running || bridgeList.all (fun n => decide (t ≤ s.sampleAt (s.bridge n).k))

/-- With the front end stopped its group takes effect at a control-period boundary, an output instant of every preset (R136, R285). -/
def State.commitStopped (s : State) : State := if !s.afe.running && s.ripe .frontEnd then s.commitFrontEnd else s

/-- CONTROL_PERIOD_BOUNDARY with one sample each of VHV_SENSE, HVI_H and HVI_V, after the outputs of its instant (R104, R149). -/
def execControlPeriodBoundary (vhv iH iV : BitVec 12) (s : State) : Out :=
  whenLive s fun s => onlyIf (s.due (s.mirr.tn + period) && s.outputsIn (s.mirr.tn + period)) s fun s =>
    (({ s with mirr := { s.mirr with tn := s.mirr.tn + period } }).boundary vhv.toNat iH.toNat iV.toNat).commitStopped

/-! ## Lock and faults -/

/-- H_LOCK: the lock conditions have held for LOCK_N periods; the sweeps start to count from the model's half-turn (R113). -/
def execHLock (s : State) : Out :=
  whenLive s fun s =>
    onlyIf (s.mirr.running && s.mirr.lockDone && !s.flag F.MIRR.STAT.H_LOCKED) s fun s =>
      let h := (2 * s.mirr.model.phaseAt s.now + one48 / 2) / one48
      let s := (s.setBit F.MIRR.STAT.H_LOCKED true).setFldS F.MIRR.SWEEP.DIR (h % 2)
      { s with mirr := { s.mirr with feHAct := true, half := h, sweeps := [], overH := 0, inH := 0 } }

/-- The time for locking after capture is over: A_SET / RAMP + 2 × LOCK_N periods + 50 ms (R113). capPeriods counts the periods begun
since the capture, so that one less have passed. -/
def State.lockLate (s : State) : Bool :=
  let n : Int := s.mirr.capPeriods - 1 - 2 * max 1 (s.fld F.MIRR.H_RAMP.LOCK_N) - 5000
  decide ((s.act F.MIRR.H_SET.A_SET : Int) ≤ n * max 1 (s.act F.MIRR.H_RAMP.RAMP))

/-- LOCK_TIMEOUT: LOCK_FAIL sets and the device returns to IDLE, where the drives park (R113, R298). -/
def execLockTimeout (s : State) : Out :=
  whenLive s fun s =>
    onlyIf (s.dev.mode = .armed && s.mirr.captured && !s.flag F.MIRR.STAT.H_LOCKED && !s.mirr.lockDone && s.lockLate) s
      fun s => (s.setBit F.MIRR.STAT.LOCK_FAIL true).armFail 2

/-- FOLLOWING_ERROR_FAULT: FE sets and a mirror fault is reported (R120, R121), also of the period in which the device entered SAFE
(R126). -/
def execFollowingErrorFault (x : Axis) (s : State) : Out :=
  whenLive s fun s =>
    match x with
    | .h => if s.mirr.overDoneH && !s.mirr.feH then
        (({ s with mirr := { s.mirr with feH := true, overDoneH := false, inDoneH := false, inH := 0 } }).setBit
          F.MIRR.STAT.FE_H true).report (.follow .h) |>.dropLsr
      else s
    | .v => if s.mirr.overDoneV && !s.mirr.feV then
        (({ s with mirr := { s.mirr with feV := true, overDoneV := false, inDoneV := false, inV := 0 } }).setBit
          F.MIRR.STAT.FE_V true).report (.follow .v) |>.dropLsr
      else s

/-- FE_RECOVERY: an ACT 1 axis has stayed within its limit for TMR periods (R121). -/
def execFeRecovery (x : Axis) (s : State) : Out :=
  whenLive s fun s =>
    match x with
    | .h => if s.mirr.feH && s.mirr.inDoneH && s.flag F.MIRR.FE_CFG.ACT_H then { s with mirr := { s.mirr with feH := false } }
      else s
    | .v => if s.mirr.feV && s.mirr.inDoneV && s.flag F.MIRR.FE_CFG.ACT_V then { s with mirr := { s.mirr with feV := false } }
      else s

end Sys2Proof.Machine
end

