-- ==== Sys2Proof/Machine/Transit.lean ====
section
/-!
DEFINITION. Transit: sweep boundaries with the commits and frames they bring, and column events (spec/05_mirror_control.md
R122 to R125, spec/08_cell_contexts.md R194, spec/12_scan_programs.md R284 to R286).
-/
namespace Sys2Proof.Machine

/-! ## Copies of groups with what they bring -/

/-- EPH_SWAP (R248): the stores exchange if READY is set, else CMT_ERR sets; SWAP clears in both copies, but for a write of this tick,
which acts after the copy (R284). -/
def State.ephSwap (s : State) : State :=
  if s.actFlag F.ALD.EPH_CTRL.SWAP then
    let s := if s.flag F.ALD.EPH_STAT.READY then
        let t := { s with eph := s.ephStd, ephStd := s.eph }
        ((t.setBit F.ALD.EPH_STAT.INFORCE true).setFld F.ALD.EPH_STAT.ACTIVE_TILE s.ephTile).setBit
          F.ALD.EPH_STAT.READY false
      else s.setBit F.ALD.EPH_STAT.CMT_ERR true
    let s := s.setForce F.ALD.EPH_CTRL.SWAP 0
    if (Tab.find? s.hot (F.ALD.EPH_CTRL.SWAP.key 0 0)).isSome then s else s.setFld F.ALD.EPH_CTRL.SWAP 0
  else s

/-- A width step of Meridian's counts with the copy that puts it in force (R396, worked example). -/
def State.countAgeStep (s : State) : State :=
  match s.bg.ageStep with
  | 0 => s
  | 1 => (s.cnt F.BGND.AGE_CNT.UP).updBg (fun x => { x with ageStep := 0 })
  | _ => (s.cnt F.BGND.AGE_CNT.DOWN).updBg (fun x => { x with ageStep := 0 })

/-- The Firing copy: the budget keeps to the refill in force before it and to the new ceiling; SEED and the mask table load
where their registers have been written; the column stores exchange (R68, R70, R90, R248). -/
def State.commitFiring (s : State) : State :=
  let s := s.settleBudget.copyGroup .firing
  let s := if s.fire.dithWritten then
      let x := seedLoad (s.act F.FIRE.DITH_CFG.SEED)
      { s with fire := { s.fire with dithWritten := false, lfsr := x } }.setFld F.FIRE.DITH_STAT.STATE x
    else s
  let s := if s.mon.maskWritten then { s with mon := { s.mon with maskWritten := false, load := some s.now } } else s
  s.settleBudget.ephSwap.countAgeStep.refreshEdges

/-- The Window copy, and the Cell copy: what edges still to leave take of them is taken again (R102, R171). -/
def State.commitWindow (s : State) : State := (s.copyGroup .window).refreshEdges
def State.commitCell (s : State) : State := (s.copyGroup .cell).refreshEdges

/-- The Rejection copy: ports that a bank's ROUTE no longer names hold none of its slots (R208). -/
def State.commitRejection (s : State) : State :=
  forEach bankNums (s.copyGroup .rejection) (fun s b =>
    ([0, 1].filter (fun o => !(s.routed b).contains o)).foldl (fun s o => s.ringLeave o b) s)

/-- The interval of the window-contamination monitor restarts on every bank (R210). -/
def State.wcRestart (s : State) : State :=
  { s with wc := { ev := [], parts := [], begin_ := bankNums.map (fun b => (b, s.now)) } }

/-- COMMIT_IMMEDIATE (R285): a pending commit whose boundary cannot occur takes effect, in a tick after the one that made it (log
entry 134). -/
def execCommitImmediate (g : Fin 7) (s : State) : Out :=
  whenLive s fun s =>
    match grpOf g with
    | .firing => onlyIf (s.ripe .firing && !s.flag F.MIRR.STAT.H_LOCKED) s State.commitFiring
    | .window => onlyIf (s.ripe .window && !s.flag F.MIRR.STAT.H_LOCKED) s State.commitWindow
    | .cell => onlyIf (s.ripe .cell && !s.scanning) s State.commitCell
    | .rejection => onlyIf (s.ripe .rejection && !s.scanning) s State.commitRejection
    | _ => s

/-! ## Sweep boundary -/

/-- V_A moves towards the value due by at most 20 mV (R152). -/
def State.moveVa (s : State) (d v : Nat) : State :=
  let now := s.fld F.STRIP.BIAS_STAT.VA d
  let w := clampN (now - 20) (now + 20) v
  let s := s.setFld F.STRIP.BIAS_STAT.VA w d
  s.setStrip d { s.strip d with vaNext := if w = v then none else some v }

/-- The step of V_A at a sweep boundary; with TRACK cleared it keeps its value (R152, R393). -/
def State.applyVa (s : State) (d : Nat) : State :=
  match (s.strip d).vaNext with
  | none => s
  | some v => if s.flag F.STRIP.BIAS_CFG.TRACK d then s.moveVa d v else s.setStrip d { s.strip d with vaNext := none }

/-- SPADs found hot are retired at the sweep boundary; with EN cleared none is (R394). -/
def State.retireHot (s : State) (d : Nat) : State :=
  let l := Tab.get (fun _ => []) s.bg.hotDue d
  if l.isEmpty then s
  else if !s.flag F.BGND.HOT_CFG.EN then { s with bg := { s.bg with hotDue := Tab.del s.bg.hotDue d } }
  else
    let s := s.setStrip d { s.strip d with retired := (s.strip d).retired ++ l }
    let s := { s with bg := { s.bg with hotDue := Tab.del s.bg.hotDue d } }
    (s.cnt F.BGND.HOT_STRIP.RET l.length d).cnt F.BGND.HOT_STAT.RETIRED l.length

/-- The member of a list of segments with the lowest use, the lower-numbered first. -/
def leastUsed (use : Nat → Nat) : List Nat → Option Nat
  | [] => none
  | n :: t =>
    match leastUsed use t with
    | none => some n
    | some k => if use k < use n then some k else some n

/-- RSETj.LEAST of an enabled set (R395). -/
def State.rsetLeast (s : State) (j : Nat) : State :=
  if s.flag F.BGND.RSET.EN j then
    let b := s.fld F.BGND.RSET.BANK j
    let l := (List.range 12).filter (fun i => s.bit F.BGND.RSET.MEMBERS i j && (s.act F.FIRE.SEG_EN.EN).testBit (12 * b + i))
    match leastUsed (fun i => s.fld F.BGND.SEGUSE.LIT (12 * b + i)) l with
    | some i => s.setFld F.BGND.RSET.LEAST (2 ^ i) j
    | none => s.setFld F.BGND.RSET.LEAST 0 j
  else s

def stripNums : List Nat := List.range 24

/-- FRAME_BOUNDARY (R194, R204, R210, R338): pending closes, the Cell and Rejection groups, the frame number, the FRAME
events, the KIND 0 headers, and the verdict that falls due 2.5 ms later. -/
def State.frameBoundary (s : State) : State :=
  let f := s.dome.frame
  let s := forEach stripNums s (fun s d => s.frameStrip f d)
  let s := if s.ripe .cell then s.commitCell else s
  let s := if s.ripe .rejection then s.commitRejection.wcRestart else s
  let s := forEach stripNums s State.frameNext
  let s := s.coreEvents allCores .frame
  let s := forEach bankNums s (fun s b => s.headerCause b 0 (some (s.now - hdrLead)))
  { s with
    dome := { s.dome with frame := f + 1, lastB := s.now, verdicts := s.dome.verdicts ++ [(f, s.now + 50000000)] }
    out := { s.out with prev := s.out.sweeps, sweeps := 0, whole := true } }

/-- The sweep that ends is the middle one of its frame: KIND 1 (R204). -/
def State.halfFrame (s : State) : State :=
  if s.out.whole && s.out.sweeps == (s.out.prev + 1) / 2 then
    forEach bankNums s (fun s b => s.headerCause b 1 (some (s.now - hdrLead)))
  else s

/-! ## Crossings (R123) -/

/-- Column i of a sweep in its order. -/
def TSweep.col (w : TSweep) : Nat := if w.half % 2 = 0 then w.idx else 1023 - w.idx

/-- α_c − C of a column in force. -/
def State.colAngle (s : State) (c : Nat) : Int := signed 24 (bits (s.ephWord c 0) 23 0) - s.mirr.model.c

/-- A column is reachable. -/
def State.reachable (s : State) (c : Nat) : Bool :=
  decide ((s.colAngle c).natAbs ≤ s.mirr.model.a - s.act F.MIRR.TRANSIT_CFG.GUARD * 256)

/-- The next reachable column of a sweep, with the number of unreachable ones before it. -/
def State.nextReach (s : State) : Nat → TSweep → Nat → TSweep × Nat
  | 0, w, n => (w, n)
  | k + 1, w, n =>
    if w.idx < 1024 ∧ !s.reachable w.col then State.nextReach s k { w with idx := w.idx + 1 } (n + 1) else (w, n)

/-- The crossing instant of a column in a sweep: within 50 ps of the model's (R123). -/
def State.crossing (s : State) (w : TSweep) : Inst × State :=
  let m := s.mirr.model
  let a := asin48 (s.colAngle w.col * one48 / m.a)
  let c := w.half * (one48 / 2)
  let th := if w.half % 2 = 0 then c + a else c - a
  if m.f = 0 ∨ m.a = 0 then s.takeInt
  else
    let r := s.near .crossing ((th - m.th * 65536) * 20000000000000000) (one48 * m.f)
    (m.tp + r.1 + s.actS F.MIRR.TRANSIT_CFG.TDLY, r.2)

/-- Drop the sweeps that have no column left to post, counting the columns that could not be reached. -/
def State.flushSweeps (s : State) : List TSweep → State
  | [] => s
  | w :: t =>
    let r := s.nextReach 1024 w 0
    if r.1.idx < 1024 then { s with mirr := { s.mirr with sweeps := w :: t } }
    else
      let s := s.cnt F.MIRR.TRANSIT_STAT.UNREACHED r.2
      State.flushSweeps { s with mirr := { s.mirr with sweeps := t } } t

/-- The model phase has passed the end of the running half-turn (R122). -/
def State.sweepDue (s : State) : Bool :=
  s.flag F.MIRR.STAT.H_LOCKED && decide ((2 * s.mirr.half + 1) * one48 ≤ 4 * s.mirr.model.phaseAt s.now)

/-- The sweep that begins: the columns of earlier sweeps that no longer come are counted, COUNT and DIR advance (R122). -/
def State.sweepAdvance (s : State) : State :=
  let s := s.flushSweeps s.mirr.sweeps
  let s := (s.cnt F.MIRR.SWEEP.COUNT).setFldS F.MIRR.SWEEP.DIR ((s.mirr.half + 1) % 2)
  { s with mirr := { s.mirr with half := s.mirr.half + 1 } }

/-- The Firing and Window boundary, and what else acts at a sweep boundary (R284, R167, R389, R394, R395). -/
def State.sweepCommits (s : State) : State :=
  let s := if s.ripe .firing then s.commitFiring else s
  let s := if s.ripe .window then s.commitWindow else s
  let s := (forEach stripNums s (fun s d => ((s.applyVa d).retireHot d).applyStart d)).refreshEdges
  (forEach [0, 1, 2, 3, 4, 5, 6, 7] s State.rsetLeast).coreEvents allCores .sweep

/-- With an Ephemeris in force the sweep has columns to post (R122, R125). -/
def State.sweepColumns (s : State) : State :=
  if s.flag F.ALD.EPH_STAT.INFORCE then
    { s with mirr := { s.mirr with
        sweeps := s.mirr.sweeps ++ [{ half := s.mirr.half, count := s.fld F.MIRR.SWEEP.COUNT, idx := 0 }] } }
  else s

/-- The frame's sweeps are counted while frames run, and a CLOSE request ends the frame here (R194, R204). -/
def State.sweepFrames (s : State) : State :=
  if s.scanning then
    let s := ({ s with out := { s.out with sweeps := s.out.sweeps + 1 } }).halfFrame
    if s.dev.close then { s.frameBoundary with dev := { s.frameBoundary.dev with close := false } } else s
  else { s with dev := { s.dev with close := false } }

/-- A sweep boundary, if one is due: it acts before any posting or judgement of its tick (R122, R126, R194, R286). -/
def State.sweepFirst (s : State) : State :=
  if s.sweepDue then s.sweepAdvance.sweepCommits.sweepColumns.sweepFrames else s

/-- SWEEP_BOUNDARY (R122). -/
def execSweepBoundary (s : State) : Out := whenLive s State.sweepFirst

/-- An event joins the queue of Alidade core b; a 17th discards the oldest. -/
def State.postTo (s : State) (e : ColEv) (b : Nat) : State :=
  let c := s.core b
  if c.queue.length < 16 then s.setCore b { c with queue := c.queue ++ [e] }
  else (s.setCore b { c with queue := c.queue.drop 1 ++ [e] }).cnt F.MIRR.TRANSIT_OVF.OVF 1 0 b

/-- Post one column. -/
def State.postColumn (s : State) (w : TSweep) (t : Inst) (late : Bool) : State :=
  let s := if late then s.cnt F.MIRR.TRANSIT_STAT.LATEPOST else s
  let d := s.ditherStep
  let e : ColEv := { col := w.col, dir := w.half % 2 != 0, sweep := w.count % 65536, tcol := t, d := d.1
                     word1 := s.ephWord w.col 1, at_ := s.raw }
  let s := forEach [0, 1, 2, 3] d.2 (fun s b => s.postTo e b)
  { s with mirr := { s.mirr with lastT := t } }

/-- The next reachable column is posted, once its posting instant has come (R124). -/
def State.postNext (s : State) : State :=
  if s.flag F.MIRR.STAT.H_LOCKED && s.flag F.ALD.EPH_STAT.INFORCE then
    let s1 := s.flushSweeps s.mirr.sweeps
    match s1.mirr.sweeps with
    | [] => s
    | w :: rest =>
      let r := s1.nextReach 1024 w 0
      let x := s1.crossing r.1
      let t := max x.1 (s1.mirr.lastT + 1)
      let post := t - 16 * (clampN 250 5000 (s1.act F.MIRR.TRANSIT_CFG.LEAD) : Int)
      if s1.due post then
        let s := x.2.cnt F.MIRR.TRANSIT_STAT.UNREACHED r.2
        let s := { s with mirr := { s.mirr with sweeps := { r.1 with idx := r.1.idx + 1 } :: rest } }
        s.postColumn r.1 t (decide (post + 16 ≤ s.now))
      else s
  else s

/-- COLUMN_EVENT_POST: a sweep boundary of the tick acts first, and a model that is to be published in it is in force (R126). -/
def execColumnEventPost (s : State) : Out :=
  whenLive s fun s => onlyIf (!s.due (s.mirr.tn + period)) s fun s => s.sweepFirst.postNext

end Sys2Proof.Machine
end

