-- ==== Sys2Proof/Machine/CoreCtl.lean ====
section
/-!
DEFINITION. Starting, loading, stopping and watching the cores, and the verification of Ephemeris tables
(spec/10_ivqua_model.md R243 to R247, spec/12_scan_programs.md R280, R283).
-/
namespace Sys2Proof.Machine

/-! ## START and STOP (R245) -/

/-- A START is refused. -/
def State.startRefused (s : State) (c : Nat) : Bool :=
  !(s.coreState c == 0 || s.coreState c == 4 || s.coreState c == 5) || s.flag F.CORE.CTRL.PROG_LOCK c ||
  (isAld c && (s.scanning || s.dev.mode = .boot))

/-- A STOP is refused. -/
def State.stopRefused (s : State) (c : Nat) : Bool := isAld c && s.scanning

/-- An accepted START: the cell is released, the core is cleared, and LOADING begins. -/
def State.startCore (s : State) (c : Nat) : State :=
  let s := if isAld c then s else s.releaseCell c
  let s := (((s.setFld F.CORE.TRAP.CAUSE 0 c).setFld F.CORE.TRAP.SEC_CAUSE 0 c).setFld F.CORE.TRAP.TPC 0 c).setBit
    F.CORE.STAT.TRAP_ACTIVE false c
  let s := s.updCore c (fun x =>
    { x with stack := [], zf := false, nf := false, cf := false, vf := false, cache := [], cur := none, booked := false
             cell := none, g := [], base := s.fld F.CORE.PROG.BASE c, start := some s.now, startLag := s.lagAt s.now })
  s.setCoreState c 1

/-- An accepted STOP: at once, or when the instruction under way has completed. -/
def State.stopCore (s : State) (c : Nat) : State :=
  if s.coreState c = 0 then s
  else (s.updCore c (fun x => { x with stopReq := true })).stopDue c

/-- The watchdog's register: arming starts its span (R243). -/
def State.setWd (s : State) (c n : Nat) : State :=
  let s1 := if s.fld F.ALD.CTRL.WD c = 0 ∧ n ≠ 0 then s.updCore c (fun x => { x with wd := s.now }) else s
  s1.setFld F.ALD.CTRL.WD n c

/-- A write of a core's CTRL: refused whole where its START or its STOP is. -/
def State.wrCoreCtrl (s : State) (c : Nat) (v : Word) : WRes :=
  if (v.getLsbD 0 && s.startRefused c) || (v.getLsbD 1 && s.stopRefused c) then (s, some .refused)
  else
    let start := v.getLsbD 0
    let s := (s.setFld F.CORE.CTRL.EV_MASK (bits v 47 40) c).setBit F.CORE.CTRL.TRAP_EN (v.getLsbD 5) c
    let s := if isAld c then s.setWd c (bits v 39 24) else s.setBit F.RTL.CTRL.FAILOVER (v.getLsbD 7) (rtl c)
    let s := if v.getLsbD 6 then s.setBit F.CORE.CTRL.PROG_LOCK true c else s
    let s := if v.getLsbD 4 then s.coreEvent c .host else s
    let s := if v.getLsbD 1 then s.stopCore c else s
    (if start then s.startCore c else s, none)

/-- Whether two runs of tiles meet. -/
def overlap (a n b m : Nat) : Bool := decide (0 < n ∧ 0 < m ∧ a < b + m ∧ b < a + n)

/-- The first check of R245 that an image fails, 0 for none. -/
def State.imageErr (s : State) (c base : Nat) : Nat :=
  let ws := s.rdTile (ctxTiles + base)
  let h := ws.getD 0 0
  let n := bits h 27 16
  if !tileOk ws (ctxTiles + base) then 1
  else if bits h 47 32 ≠ 0x1B7A then 2
  else if bits h 31 28 ≠ (if isAld c then 0 else 1) then 3
  else if n < 1 ∨ 1024 < n ∨ 16383 < base + n then 4
  else if 47 * n ≤ bits h 15 0 ∨ 47 * n ≤ bits (ws.getD 1 0) 15 0 then 5
  else if overlap base (n + 1) (s.fld F.CORE.STT_WIN.BASE c) (s.fld F.CORE.STT_WIN.COUNT c) then 6
  else if (List.range n).all (fun k => tileOk (s.rdTile (ctxTiles + base + 1 + k)) (ctxTiles + base + 1 + k)) then 0
  else 1

/-- CORE_LOAD_DONE. -/
def execCoreLoadDone (c : Fin 12) (s : State) : Out :=
  whenLive s fun s => onlyIf (s.coreState c == 1) s fun s =>
    let b := (s.core c).base
    let e := s.imageErr c b
    if e = 0 then
      let h := s.rdMem (tileBase (ctxTiles + b))
      (s.updCore c (fun x =>
        { x with pc := bits h 15 0, ntile := bits h 27 16, vec := bits (s.rdMem (tileBase (ctxTiles + b) + 1)) 15 0
                 wait := .none })).setCoreState c 2
    else (s.setFld F.CORE.STAT.LOAD_ERR e c).enterStopped c 0

/-- WATCHDOG_EXPIRY (R243). -/
def execWatchdogExpiry (c : Fin 12) (s : State) : Out :=
  whenLive s fun s =>
    let x := s.core c
    let wd := s.fld F.ALD.CTRL.WD c
    onlyIf (isAld c && wd != 0 && !x.wdExp && s.due (x.wd + 200000 * (wd : Int))) s fun s =>
      let s := (s.updCore c (fun x => { x with wdExp := true })).setBit F.ALD.STAT.WD_EXP true c
      if s.scanning then s.report (.seq c) else s

/-! ## Ephemeris tables (R246, R247) -/

/-- A write of ALD0.EPH_LOAD: GO is refused while a verification runs or a committed SWAP awaits its boundary. -/
def State.wrEphLoad (s : State) (v : Word) : WRes :=
  if v.getLsbD 16 then
    if s.flag F.ALD.EPH_STAT.BUSY || (s.pend .firing && s.flag F.ALD.EPH_CTRL.SWAP) then (s, some .refused)
    else
      let s := (s.setFld F.ALD.EPH_LOAD.TILE (bits v 13 0)).setBit F.ALD.EPH_STAT.BUSY true
      ({ s.setBit F.ALD.EPH_STAT.READY false with ephTile := bits v 13 0 }, none)
  else (s.setFld F.ALD.EPH_LOAD.TILE (bits v 13 0), none)

/-- The check of one column after the angle of the one before (R16, R247, R280): an ERR, 0 for none. -/
def colErr (prev : Option Int) (w0 w1 : Word) : Nat :=
  if bits w0 47 24 ≠ 0 ∨ bits w1 23 21 ≠ 0 then 2
  else if prev.elim false (fun p => decide (signed 24 (bits w0 23 0) ≤ p)) then 3
  else if bits w1 20 8 = 0 ∨ 4096 < bits w1 20 8 ∨ 252 < bits w1 7 0 then 4
  else 0

/-- The columns of a tile, in ascending order: the ERR and column of the first that fails. -/
def tileCols (ws : List Word) (first : Nat) : List Nat → Option Int → Option (Nat × Nat)
  | [], _ => none
  | i :: t, prev =>
    let e := colErr prev (ws.getD (2 * i) 0) (ws.getD (2 * i + 1) 0)
    if e ≠ 0 then some (e, first + i)
    else tileCols ws first t (some (signed 24 (bits (ws.getD (2 * i) 0) 23 0)))

/-- Columns of tile k of a table: 23, and 12 in the last. -/
def tileColumns (k : Nat) : Nat := if k < 44 then 23 else 12

/-- One tile of a table: its ERR and FAIL_COL, if it fails. -/
def ephTileErr (ws : List Word) (tag k : Nat) (prev : Option Int) : Option (Nat × Nat) :=
  let n := tileColumns k
  if !tileOk ws tag then some (1, 23 * k)
  else
    match tileCols ws (23 * k) (List.range n) prev with
    | some e => some e
    | none => if ((ws.drop (2 * n)).take (47 - 2 * n)).all (· == 0) then none else some (2, 23 * k)

/-- Copy a tile's columns into the standby store. -/
def State.ephCopy (s : State) (ws : List Word) (k : Nat) : State :=
  forEach (List.range (2 * tileColumns k)) s fun s i =>
    { s with ephStd := Tab.set (fun _ => 0) s.ephStd (46 * k + i) (ws.getD i 0) }

/-- The tiles one by one from tile k: each is read, copied and checked. -/
def State.ephVerify : Nat → Nat → Option Int → State → Option (Nat × Nat) × State
  | 0, _, _, s => (none, s)
  | f + 1, k, prev, s =>
    let tag := ctxTiles + s.ephTile + k
    let ws := s.rdTile tag
    let s := s.ephCopy ws k
    match ephTileErr ws tag k prev with
    | some e => (some e, s)
    | none => State.ephVerify f (k + 1) (some (signed 24 (bits (ws.getD (2 * tileColumns k - 2) 0) 23 0))) s

/-- EPH_VERIFY_DONE. -/
def execEphVerifyDone (s : State) : Out :=
  whenLive s fun s => onlyIf (s.flag F.ALD.EPH_STAT.BUSY) s fun s =>
    let r := if 16383 < s.ephTile + 44 then (some (5, 0), s) else s.ephVerify 45 0 none
    let s := r.2.setBit F.ALD.EPH_STAT.BUSY false
    match r.1 with
    | none => (s.setBit F.ALD.EPH_STAT.READY true).setFld F.ALD.EPH_STAT.ERR 0
    | some (e, col) => (s.setFld F.ALD.EPH_STAT.ERR e).setFld F.ALD.EPH_STAT.FAIL_COL col

/-! ## Commits (R283) -/

/-- A write of DEV.COMMIT: a host or Meridian makes the commits; the Dome is not among those that do (R283). -/
def State.wrCommit (s : State) (a : Accessor) (v : Word) : WRes :=
  (if a = .dome then s else forEach [0, 1, 2, 3, 4, 5, 6] s (fun s g => if v.getLsbD g then s.makeCommit (grpOf g) else s), none)

end Sys2Proof.Machine
end

