-- ==== Sys2Proof/Machine/Dome.lean ====
section
/-!
DEFINITION. The Dome: reactions to faults, DEGRADED and its exit, the periodic and entry checks, the zone verdicts, the SOUT
outputs and the test-pulsed inputs (spec/14_safety.md R328 to R349).
-/
namespace Sys2Proof.Machine

/-! ## The fault table (R331, R333) -/

/-- The FLT bit of a fault. -/
def Report.fld : Report → Fld
  | .eye => F.SAFE.FLT.EYE | .pulse => F.SAFE.FLT.PULSE | .lpf _ => F.SAFE.FLT.LPF | .follow _ => F.SAFE.FLT.MIRROR
  | .tpll => F.SAFE.FLT.TPLL | .ref => F.SAFE.FLT.REF | .spll => F.SAFE.FLT.SPLL | .lpll => F.SAFE.FLT.LPLL
  | .bridge _ => F.SAFE.FLT.BRIDGE | .strip _ => F.SAFE.FLT.STRIP | .receiver => F.SAFE.FLT.RECEIVER
  | .seq _ => F.SAFE.FLT.SEQ | .proc => F.SAFE.FLT.PROC | .port _ => F.SAFE.FLT.PORT | .supBk _ => F.SAFE.FLT.SUP_BK
  | .supDual _ => F.SAFE.FLT.SUP_DUAL | .sin _ => F.SAFE.FLT.SIN | .sinX _ => F.SAFE.FLT.SIN_X | .tp => F.SAFE.FLT.TP
  | .sout => F.SAFE.FLT.SOUT | .frame => F.SAFE.FLT.FRAME | .lockstep => F.SAFE.FLT.LOCKSTEP
  | .domeChk => F.SAFE.FLT.DOMECHK

/-- ACT of an axis's following-error fault (R121). -/
def State.feAct (s : State) : Axis → Bool
  | .h => s.flag F.MIRR.FE_CFG.ACT_H
  | .v => s.flag F.MIRR.FE_CFG.ACT_V

/-- Both bridges of the axis of bridge n are broken. -/
def State.pairBroken (s : State) (n : Nat) : Bool :=
  s.bit F.AFE.BR_STAT.BRK (2 * (n / 2)) && s.bit F.AFE.BR_STAT.BRK (2 * (n / 2) + 1)

/-- The unit of a confined fault, by number: banks 0 to 3, axes H 4 and V 5, backup inputs 6, ports A 7 and B 8 (R331). -/
def State.unitOf (s : State) : Report → Option Nat
  | .strip d => some (d / 6)
  | .seq b => some b
  | .follow x => if s.feAct x then some (if x = .h then 4 else 5) else none
  | .bridge n => if s.pairBroken n then none else some (4 + n / 2)
  | .supBk _ => some 6
  | .port p => if p < 2 then some (7 + p) else none
  | _ => none

/-- The field of DEG_STAT, and its bit, that shows a unit. -/
def unitFld : Nat → Fld × Nat
  | 4 => (F.SAFE.DEG_STAT.AXIS_H, 0) | 5 => (F.SAFE.DEG_STAT.AXIS_V, 0) | 6 => (F.SAFE.DEG_STAT.BK, 0)
  | 7 => (F.SAFE.DEG_STAT.PORT_A, 0) | 8 => (F.SAFE.DEG_STAT.PORT_B, 0) | b => (F.SAFE.DEG_STAT.DROP, b)

def unitNums : List Nat := [0, 1, 2, 3, 4, 5, 6, 7, 8]
def State.unitOn (s : State) (u : Nat) : Bool := s.bit (unitFld u).1 (unitFld u).2
def State.setUnit (s : State) (u : Nat) : State := s.orBit (unitFld u).1 (unitFld u).2

/-- A fault takes the device to SAFE from its mode (R333). -/
def State.safeClass (s : State) : Report → Bool
  | .follow x => !s.feAct x
  | .bridge n => s.scanning && s.pairBroken n
  | .proc => s.scanning
  | .strip _ | .seq _ | .port _ | .supBk _ | .sout => false
  | _ => true

/-! ## Reactions (R331, R333, R348) -/

/-- Set FLT bits; an EVENT FAULT tells of the ones that were not set. -/
def State.raiseFlts (s : State) (l : List Fld) : State :=
  let t := l.foldl (fun s F => s.setBit F true) s
  if l.all (fun F => s.flag F) then t else t.faultEvent

/-- Enter DEGRADED, or stay there, with more units faulted; with two units SECOND sets and the device enters SAFE. -/
def State.confine (s : State) (us : List Nat) : State :=
  let all := unitNums.filter (fun u => us.contains u || (s.dev.mode = .degraded && s.unitOn u))
  if us.isEmpty then s
  else if 1 < all.length then (s.raiseFlts [F.SAFE.FLT.SECOND]).safeDecision
  else
    let t := (us.foldl State.setUnit s).setBit F.SAFE.DEG_STAT.ACKED false
    if t.dev.mode = .degraded then t else t.enterMode .degraded

/-- The reports of one tick together. -/
def State.reactTo (s : State) (rs : List Report) : State :=
  let t := s.raiseFlts (rs.map Report.fld)
  let t := if rs.any (fun r => r == .sout) then t.outputsUpdate else t
  if rs.any s.safeClass then t.safeDecision
  else if s.scanning then t.confine (rs.filterMap s.unitOf)
  else t

/-- DOME_FAULT_REACTION (R333, R348): the faults reported in the tick of the oldest report. -/
def execDomeFaultReaction (s : State) : Out :=
  whenLive s fun s =>
    match s.dome.reports with
    | [] => s
    | r :: _ =>
      let now := s.dome.reports.filter (fun q => q.2 == r.2)
      { s with dome := { s.dome with reports := s.dome.reports.filter (fun q => q.2 != r.2) } }.reactTo (now.map Prod.fst)

/-- At the entry to IDLE the flags set in BOOT are judged as the IDLE column says (R333). -/
def State.bootJudge (s : State) : State :=
  let l : List Report := [.eye, .pulse, .lpf 0, .tpll, .ref, .spll, .lpll, .receiver, .supDual 0, .sin 0, .sinX 0, .tp,
    .lockstep, .domeChk]
  if l.any (fun r => s.flag r.fld) then s.safeDecision else s

/-- LOCKSTEP_MISMATCH (R329). -/
def execLockstepMismatch (s : State) : Out :=
  whenLive s fun s =>
    let s := (((s.setBit F.SAFE.STAT.LOCKSTEP_OK false).dropLsr.outputOff 0).outputOff 1)
    (s.raiseFlts [F.SAFE.FLT.LOCKSTEP]).report .lockstep

/-! ## Contacts (R345, R346) -/

def State.contact (s : State) (c : Nat) : Contact := Tab.get (fun _ => {}) s.dome.sin c
def State.setContact (s : State) (c : Nat) (x : Contact) : State :=
  { s with dome := { s.dome with sin := Tab.put s.dome.sin c x } }

/-- Pair k is checked; it is checked and its opening stops emission. -/
def State.pairUsed (s : State) (k : Nat) : Bool := s.fld F.SAFE.SIN_CFG.FUNC 0 k != 0
def State.pairAct (s : State) (k : Nat) : Bool := s.pairUsed k && s.flag F.SAFE.SIN_CFG.ACT 0 k
def State.pairClosed (s : State) (k : Nat) : Bool := !(s.contact (2 * k)).open_ && !(s.contact (2 * k + 1)).open_
/-- Every pair with ACT 1 is closed. -/
def State.contactsOk (s : State) : Bool := [0, 1, 2, 3].all (fun k => !s.pairAct k || s.pairClosed k)

/-- Report the checked pairs with ACT 1 that are open, if there is one. -/
def State.contactJudge (s : State) : State :=
  match [0, 1, 2, 3].find? (fun k => s.pairAct k && !s.pairClosed k) with
  | some k => s.report (.sin k)
  | none => s

/-- A channel of pair k opens or closes: the levels shown, and since when the pair disagrees. -/
def State.contactSet (s : State) (k : Nat) (chB op : Bool) : State :=
  let c := 2 * k + (if chB then 1 else 0)
  let s := s.setContact c { open_ := op, fails := 0 }
  let show_ (F : Fld) (b : Bool) (s : State) : State := if b then s.orBit F k else s.clrBit F k
  let a := !(s.contact (2 * k)).open_
  let b := !(s.contact (2 * k + 1)).open_
  let s := show_ F.SAFE.SIN_STAT.A_CL a (show_ F.SAFE.SIN_STAT.B_CL b (show_ F.SAFE.SIN_STAT.CLOSED (a && b) s))
  let old := Tab.find? s.dome.disc k
  { s with dome := { s.dome with disc := if a == b then Tab.del s.dome.disc k
                                         else if old.isSome then s.dome.disc else Tab.put s.dome.disc k s.now } }

/-- CONTACT_OPEN. -/
def execContactOpen (k : Fin 4) (chB : Bool) (s : State) : Out :=
  whenLive s fun s =>
    let s := s.contactSet k chB true
    if s.pairAct k then s.report (.sin k) else s

/-- CONTACT_CLOSED. -/
def execContactClosed (k : Fin 4) (chB : Bool) (s : State) : Out :=
  whenLive s fun s => s.contactSet k chB false

/-- CONTACT_DISCREPANCY. -/
def execContactDiscrepancy (k : Fin 4) (s : State) : Out :=
  whenLive s fun s =>
    match Tab.find? s.dome.disc k with
    | some t =>
      let lim : Inst := t + (max 1 (s.fld F.SAFE.SIN_CFG.DISC_T) : Nat) * (10 * ms)
      if s.pairUsed k && decide (lim < s.now) then (s.orBit F.SAFE.SIN_STAT.DISC k).report (.sinX k) else s
    | none => s

/-- One gap check of one channel: closed, it reads low in its own source's gap and high in the other's. -/
def State.gapCheck (s : State) (src : Bool) (ins : BitVec 8) (c : Nat) : State :=
  let x := s.contact c
  let own := src == (c % 2 == 1)
  if !s.pairUsed (c / 2) || x.open_ then s
  else if ins.getLsbD c == !own then s.setContact c { x with fails := 0 }
  else if x.fails = 0 then s.setContact c { x with fails := 1 }
  else ((s.setContact c { x with fails := 2 }).orBit F.SAFE.SIN_STAT.CROSS (c / 2)).report (.sinX (c / 2))

/-- The gap of the Dome's cycle that runs, TPA's even and TPB's odd, counted from reset (R345). -/
def State.tpGap (s : State) : Nat := (s.now / (5 * ms)).toNat

/-- The level of TPA, or of TPB: low for 200 µs from 0 ms, or from 5 ms, in every 10 ms, and in reset and FROZEN (R345). -/
def State.tpLevel (s : State) (src : Bool) : Bool :=
  s.live && !(decide (s.tpGap % 2 = if src then 1 else 0) && decide (s.now % (5 * ms) < 200 * us))

/-- TP_GAP: `src` names TPB, `ins` are the inputs 150 µs into the gap, bit 2k SINkA and bit 2k + 1 SINkB; each gap is checked once. -/
def execTpGap (src : Bool) (ins : BitVec 8) (s : State) : Out :=
  whenLive s fun s =>
    onlyIf (decide (s.dome.tpN ≤ s.tpGap) && decide (s.tpGap % 2 = if src then 1 else 0) && s.due (s.tpGap * (5 * ms) + 150 * us)) s
      fun s =>
        forEach [0, 1, 2, 3, 4, 5, 6, 7] { s with dome := { s.dome with tpN := s.tpGap + 1 } } (fun s c => s.gapCheck src ins c)

/-- TP_OVERCURRENT. -/
def execTpOvercurrent (src : Bool) (s : State) : Out :=
  whenLive s fun s => (s.setBit (if src then F.SAFE.TP_STAT.OVC_B else F.SAFE.TP_STAT.OVC_A) true).report .tp

/-! ## LSR_EN (R334) -/

/-- A fault of a row is active: from its report until its FLT bit is cleared (R333). -/
def State.active (s : State) (F : Fld) : Bool := s.flag F || s.dome.reports.any (fun q => q.1.fld == F)

/-- The FLT bits of the rows that give an LSR_EN time and have no exception in R334. -/
def lsrFlts : List Fld :=
  [F.SAFE.FLT.EYE, F.SAFE.FLT.PULSE, F.SAFE.FLT.LPF, F.SAFE.FLT.TPLL, F.SAFE.FLT.REF, F.SAFE.FLT.SPLL, F.SAFE.FLT.LPLL,
   F.SAFE.FLT.RECEIVER, F.SAFE.FLT.PROC, F.SAFE.FLT.SUP_DUAL, F.SAFE.FLT.SIN, F.SAFE.FLT.SIN_X, F.SAFE.FLT.TP, F.SAFE.FLT.FRAME,
   F.SAFE.FLT.LOCKSTEP, F.SAFE.FLT.DOMECHK, F.SAFE.FLT.DEG_TMO, F.SAFE.FLT.SECOND]

/-- The FLT bits of confined faults (R331). -/
def confinedFlts : List Fld :=
  [F.SAFE.FLT.STRIP, F.SAFE.FLT.SEQ, F.SAFE.FLT.BRIDGE, F.SAFE.FLT.MIRROR, F.SAFE.FLT.PORT, F.SAFE.FLT.SUP_BK]

/-- No fault is active whose row gives an LSR_EN time. -/
def State.lsrFaultFree (s : State) : Bool :=
  !(lsrFlts.any s.active || (s.active F.SAFE.FLT.BRIDGE && s.axisBroken) ||
    (s.active F.SAFE.FLT.MIRROR && (s.mirr.feH || s.mirr.feV)))

/-- The conditions under which the Dome drives LSR_EN high; a following error keeps it low until the axis recovers (R121). -/
def State.lsrMay (s : State) : Bool :=
  s.scanning && s.flag F.FIRE.EYE_CFG.LOCK && s.lsrFaultFree && s.contactsOk && !s.mirr.feH && !s.mirr.feV

/-- LSR_EN_RAISE. -/
def execLsrEnRaise (s : State) : Out :=
  whenLive s fun s => onlyIf s.lsrMay s fun s =>
    { s with fire := { s.fire with lsrEn := true }, dome := { s.dome with cmd := true } }

/-! ## DEGRADED (R300, R332) -/

/-- DEGRADED_TMAX has expired (R332). -/
def State.tmaxDue (s : State) : Bool :=
  s.dev.mode = .degraded && s.due (s.dome.degAt + (clampN 1 100 (s.fld F.SAFE.DEG_CFG.TMAX) : Nat) * (100 * ms))

/-- A write of DEG_CTRL: ACK by a host or Meridian, refused while an FLT bit is set; a fault reported and an expiry due in its tick
act first (R348). Outside DEGRADED there is nothing to acknowledge. -/
def State.wrDegCtrl (s : State) (v : Word) : WRes :=
  if v.getLsbD 0 then
    if s.fltWord ≠ 0 ∨ !s.dome.reports.isEmpty ∨ s.tmaxDue then (s, some .refused)
    else (if s.dev.mode = .degraded then s.setBit F.SAFE.DEG_STAT.ACKED true else s, none)
  else (s, none)

/-- DEGRADED_EXIT: ACK has been accepted, no confined fault is active, and DEGRADED_TMAX has not expired (R332, R348). -/
def execDegradedExit (s : State) : Out :=
  whenLive s fun s =>
    onlyIf (s.dev.mode = .degraded && s.flag F.SAFE.DEG_STAT.ACKED && !confinedFlts.any s.active && !s.tmaxDue) s fun s =>
      s.enterMode (if s.onBackup then .holdover else .scan)

/-- DEG_TMAX_EXPIRY. -/
def execDegTmaxExpiry (s : State) : Out :=
  whenLive s fun s => onlyIf s.tmaxDue s fun s => (s.raiseFlts [F.SAFE.FLT.DEG_TMO]).safeDecision

/-! ## Periodic checks (R335) -/

/-- A check of the Dome's own that passes or fails, by its bit. -/
def State.checkBit (s : State) (k : Nat) (failed : Bool) : State :=
  let n := s.dome.failing
  let w := if n.testBit k then n - 2 ^ k else n
  { s with dome := { s.dome with failing := if failed then w + 2 ^ k else w } }

/-- Some close queue holds an entry. -/
def State.closeWaiting (s : State) : Bool := (List.range 24).any (fun d => !(s.strip d).cq.isEmpty)

/-- DOME_PERIODIC_CHECK: the calibration age and the progress are judged from the state. -/
def execDomePeriodicCheck (c : DomeCheck) (failed : Bool) (s : State) : Out :=
  whenLive s fun s =>
    let dome (k : Nat) : State := if failed then (s.checkBit k true).report .domeChk else s.checkBit k false
    match c with
    | .refRatio => dome 0
    | .lsrReadback => dome 1
    | .zoneSelfTest => dome 4
    | .calAge => forEach ((List.range 24).filter (fun d => s.flag F.STRIP.RX_STAT.STALE d)) s (fun s d => s.report (.strip d))
    | .progress =>
      if s.closeWaiting && s.due (s.dome.lastCupd + 5 * ms) then (s.checkBit 3 true).report .proc else s.checkBit 3 false

/-! ## SCAN entry (R297, R336) -/

/-- The rows of strip d lie in an enabled zone. -/
def State.zoneStrip (s : State) (d : Nat) : Bool :=
  zoneNums.any (fun z => s.flag F.SAFE.ZONE_A.EN z &&
    decide (s.fld F.SAFE.ZONE_A.R0 z ≤ 2 * d + 1 ∧ 2 * d ≤ s.fld F.SAFE.ZONE_A.R1 z))

/-- Check 3 for zone z. -/
def State.zoneSound (s : State) (z : Nat) : Bool :=
  !s.flag F.SAFE.ZONE_A.EN z ||
  decide (s.fld F.SAFE.ZONE_A.C0 z ≤ s.fld F.SAFE.ZONE_A.C1 z ∧ s.fld F.SAFE.ZONE_A.R0 z ≤ s.fld F.SAFE.ZONE_A.R1 z ∧
    s.fld F.SAFE.ZONE_B.RMIN z < s.fld F.SAFE.ZONE_B.RMAX z ∧ s.fld F.SAFE.ZONE_C.OUT z ≠ 0)

/-- No fault is active but latched confined ones. -/
def State.onlyLatched (s : State) : Bool :=
  s.lsrFaultFree && !s.active F.SAFE.FLT.MIRROR && !s.active F.SAFE.FLT.SEQ && !s.active F.SAFE.FLT.SOUT && !s.axisBroken

/-- The code of the first check that fails, 0 for none. -/
def State.entryCheck (s : State) (e : EntryEnv) : Nat :=
  if !s.onlyLatched then 1
  else if !e.selfTest || !s.flag F.SAFE.STAT.LOCKSTEP_OK then 2
  else if !zoneNums.all s.zoneSound then 3
  else if (List.range 24).any (fun d => s.zoneStrip d && s.actFlag F.STRIP.CELL_CFG.ZSKIP d) then 4
  else if !s.contactsOk then 5
  else if e.readback ≠ 0 then 6
  else if !e.lsrFollows then 7
  else 0

/-- The units whose latched faults take the device to DEGRADED at entry. -/
def State.latchedUnits (s : State) : List Nat :=
  unitNums.filter (fun u =>
    if u < 4 then s.bankFaulted u
    else if u < 6 then s.flag F.SAFE.FLT.BRIDGE &&
      (s.bit F.AFE.BR_STAT.BRK (2 * (u - 4)) || s.bit F.AFE.BR_STAT.BRK (2 * (u - 4) + 1))
    else if u = 6 then s.flag F.SAFE.FLT.SUP_BK
    else s.flag F.SAFE.FLT.PORT && s.flag F.LINK.STAT.FAULT (u - 7))

/-- SCAN_ENTRY_CHECKS_DONE. A tick in which an RWL write has been accepted is not that of the entry: one that meets the entry is
refused (R408). Latched faults of two units meet R331 at the entry (log entry 63). -/
def execScanEntryChecksDone (env : EntryEnv) (s : State) : Out :=
  whenLive s fun s => onlyIf (s.dev.mode = .armed && s.flag F.DEV.MODE_STAT.BUSY && s.dev.rwlAt != some s.raw) s fun s =>
    let e := s.entryCheck env
    if e ≠ 0 then
      ((s.setBit F.DEV.MODE_STAT.BUSY false).setFld F.DEV.MODE_STAT.PEND_TO 0).setFld F.SAFE.ENTRY_STAT.ERR e
    else if s.latchedFault then
      if 1 < s.latchedUnits.length then (s.raiseFlts [F.SAFE.FLT.SECOND]).safeDecision
      else (s.latchedUnits.foldl State.setUnit s).enterMode .degraded
    else s.enterMode (if s.onBackup then .holdover else .scan)

/-! ## Zones (R338 to R340) -/

/-- The tile's cell lies in zone z. -/
def State.tileInZone (s : State) (z n : Nat) : Bool := s.inZone z (n % 2048 / 2) (2 * (n / 2048) + n % 2)

/-- Show a bit of a map. -/
def State.showBit (s : State) (F : Fld) (k : Nat) (b : Bool) : State := if b then s.orBit F k else s.clrBit F k

/-- The verdict of one enabled zone for frame f. -/
def State.zoneJudge (s : State) (f z : Nat) : State :=
  if !s.flag F.SAFE.ZONE_A.EN z then (s.clrBit F.SAFE.SF2_STAT.OCC z).clrBit F.SAFE.SF2_STAT.INCOMP z
  else
    let inc := s.dome.closes.any (fun p => decide (p.2 ≤ f) && s.tileInZone z p.1)
    let occ := inc || s.dome.hits.contains (z, f)
    let s := (s.showBit F.SAFE.SF2_STAT.OCC z occ).showBit F.SAFE.SF2_STAT.INCOMP z inc
    let s := if inc then (s.cnt F.SAFE.ZONE_STAT.INCOMP_CNT 1 z).cnt F.SAFE.SF2_CNT.INCOMPLETE else s
    let s := if occ then s.cnt F.SAFE.ZONE_STAT.OCC_CNT 1 z else s
    let x : Zone := Tab.get (fun _ => {}) s.dome.zones z
    let x : Zone := if occ then { occ := x.occ + 1, clr := 0 }
      else { occ := 0, clr := if s.dome.fromFrame ≤ f then x.clr + 1 else x.clr }
    let s := { s with dome := { s.dome with zones := Tab.put s.dome.zones z x } }
    if max 1 (s.fld F.SAFE.SF2_CFG.N_CONF) ≤ x.occ then s.orBit F.SAFE.SF2_STAT.INTR z
    else if max 1 (s.fld F.SAFE.SF2_CFG.N_REL) ≤ x.clr then s.clrBit F.SAFE.SF2_STAT.INTR z
    else s

/-- ZONE_VERDICT: the oldest verdict that is due. -/
def execZoneVerdict (s : State) : Out :=
  whenLive s fun s =>
    match s.dome.verdicts with
    | (f, t) :: rest => onlyIf (s.due t) s fun s =>
      let s := (forEach zoneNums s (fun s z => s.zoneJudge f z)).cnt F.SAFE.SF2_STAT.VERDICTS
      { s with dome := { s.dome with verdicts := rest, hits := s.dome.hits.filter (fun p => decide (f < p.2)) } }.outputsUpdate
    | [] => s

/-- FRAME_TIMEOUT. -/
def execFrameTimeout (s : State) : Out :=
  whenLive s fun s =>
    let t : Inst := s.dome.lastB + (max 1 (s.fld F.SAFE.SF2_CFG.FRAME_MAX) : Nat) * 2000000
    onlyIf (s.scanning && s.due t) s fun s =>
      ((((s.outputOff 0).outputOff 1).cnt F.SAFE.SF2_CNT.FTMO).raiseFlts [F.SAFE.FLT.FRAME]).safeDecision

/-! ## Dynamic outputs (R342 to R344) -/

/-- An output toggles. -/
def State.soutOn (s : State) (j : Nat) : Bool := s.bit F.SAFE.SOUT_STAT.ON j

/-- The slot under way is one of output j's. -/
def State.inSlot (s : State) (j : Nat) : Bool := s.dome.gap.elim false (fun ch => ch / 2 == j)

/-- Channel ch is held low for its test gap. -/
def State.gapped (s : State) (ch : Nat) : Bool := s.dome.gapOn && s.dome.gap == some ch

/-- The readback of one channel at the end of a half-period. -/
def State.readCheck (s : State) (levels : BitVec 4) (ch : Nat) : State :=
  if s.soutOn (ch / 2) && !s.gapped ch then
    let n := Tab.get (fun _ => 0) s.dome.mism ch
    let n := if levels.getLsbD ch == s.dome.levels.testBit ch then 0 else n + 1
    { s with dome := { s.dome with mism := Tab.put s.dome.mism ch n } }
  else if levels.getLsbD ch then s
  else
    let m := s.dome.offHigh
    { s with dome := { s.dome with offHigh := if m.testBit ch then m - 2 ^ ch else m } }

/-- A slot that has run its time ends, and a gap taken in it is judged. -/
def State.slotEnd (s : State) : State :=
  match s.dome.gap with
  | some ch =>
    if s.due s.dome.gapEnd then
      let s := if s.dome.gapOn then s.showBit F.SAFE.SOUT_STAT.GAP_OK ch (!s.dome.gapHigh) else s
      { s with dome := { s.dome with gap := none, gapOn := false, gapHigh := false } }
    else s
  | none => s

/-- The next half-period of output j: it toggles on, starts with channel A high, or stays off. -/
def State.halfPeriod (s : State) (j : Nat) : State :=
  let a := if s.gapped (2 * j) then s.dome.levels.testBit (2 * j + 1) else !s.dome.levels.testBit (2 * j)
  if s.soutOn j then
    (s.setLevel (2 * j) (a && !s.gapped (2 * j))).setLevel (2 * j + 1) (!a && !s.gapped (2 * j + 1))
  else if s.demandOf j && !s.inSlot j && !s.flag F.DEV.BOOT_STAT.OPEN && s.flag F.SAFE.STAT.LOCKSTEP_OK then
    ((s.orBit F.SAFE.SOUT_STAT.ON j).setLevel (2 * j) true).setLevel (2 * j + 1) false
  else s

/-- SOUT_HALF_PERIOD: `levels` are the readbacks at the end of the half-period, bit order of SOUT_STAT.FLT. The boundaries stand
10 µs apart from reset on, and each acts once (R342). -/
def execSoutHalfPeriod (levels : BitVec 4) (s : State) : Out :=
  whenLive s fun s => onlyIf (s.due (s.dome.halfN * (10 * us))) s fun s =>
    let s := { s with dome := { s.dome with halfN := (s.now / (10 * us)).toNat + 1 } }
    let s := forEach [0, 1, 2, 3] s (fun s ch => s.readCheck levels ch)
    (s.slotEnd.halfPeriod 0).halfPeriod 1

/-- The slot of the Dome's 100 ms cycle that is next or runs: a channel's every 25 ms, in the order of the channels (R343). -/
def State.slotNow (s : State) : Nat := (s.now / (25 * ms)).toNat

/-- SOUT_TEST_GAP: a channel's slot of 300 µs starts; `readHigh` says whether any sample from 50 µs into it reads high. -/
def execSoutTestGap (ch : Fin 4) (readHigh : Bool) (s : State) : Out :=
  whenLive s fun s =>
    let begin_ : Inst := s.slotNow * (25 * ms)
    onlyIf (decide (s.dome.slotN ≤ s.slotNow) && decide (s.slotNow % 4 = ch.val) && decide (s.now < begin_ + 300 * us)) s fun s =>
    let on := s.soutOn (ch.val / 2)
    let s := { s with dome := { s.dome with gap := some ch.val, gapEnd := begin_ + 300 * us, gapOn := on, gapHigh := readHigh
                                            slotN := s.slotNow + 1 } }
    if on then (s.setLevel ch.val false).cnt F.SAFE.SOUT_CNT.GAPS else s

/-- SOUT_READBACK_FAILURE: three mismatched half-periods of a toggling channel, a high sample in a gap, or 100 µs high while
off. -/
def execSoutReadbackFailure (ch : Fin 4) (s : State) : Out :=
  whenLive s fun s =>
    let j := ch.val / 2
    let on := s.soutOn j
    let gap := s.gapped ch.val
    let bad := if gap then s.dome.gapHigh else !on || decide (3 ≤ Tab.get (fun _ => 0) s.dome.mism ch.val)
    onlyIf bad s fun s =>
      let s := if gap then
          { s with dome := { s.dome with gapOn := false } }.clrBit F.SAFE.SOUT_STAT.GAP_OK ch.val
        else s
      let s := if on || s.dome.offHigh.testBit ch.val then s
        else { s with dome := { s.dome with offHigh := s.dome.offHigh + 2 ^ ch.val } }
      ((s.orBit F.SAFE.SOUT_STAT.FLT ch.val).outputOff j).report .sout

/-! ## Clearing flags (R349) -/

/-- The source flag of an FLT bit is clear, or its condition no longer holds. -/
def State.sourceClear (s : State) (k : Nat) : Bool :=
  let reticle := (List.range 8).any (fun i => let st := s.fld F.CORE.STAT.STATE (4 + i); st == 2 || st == 3)
  match k with
  | 0 => !s.flag F.FIRE.EYE_STAT.VIOL5 && !s.flag F.FIRE.EYE_STAT.VIOL100
  | 1 => !s.flag F.MON.MASK_STAT.VIOL
  | 2 => s.fld F.MON.START_STAT.LPF == 0
  | 3 => !s.flag F.MIRR.STAT.FE_H && !s.flag F.MIRR.STAT.FE_V
  | 4 => !s.flag F.TIME.PLL_STAT.TPLL_LOL
  | 5 => !s.flag F.TIME.PLL_STAT.REF_LOSS
  | 6 => !s.flag F.TIME.PLL_STAT.SPLL_LOL
  | 7 => !s.flag F.TIME.PLL_STAT.LPLL_LOL
  | 8 => s.fld F.AFE.BR_STAT.BRK == 0
  | 9 => (List.range 24).all (fun d => !s.flag F.STRIP.RX_STAT.FAULT d && !s.flag F.STRIP.RX_STAT.STALE d)
  | 10 => (List.range 4).all (fun c => !s.flag F.ALD.STAT.WD_EXP c && s.fld F.CORE.STAT.STATE c != 5)
  | 11 => reticle && !s.dome.failing.testBit 3
  | 12 => !s.flag F.LINK.STAT.FAULT 0 && !s.flag F.LINK.STAT.FAULT 1
  | 13 => s.fld F.DEV.SUP_STAT.BK_FLT == 0
  | 14 => s.fld F.DEV.SUP_STAT.DUAL == 0
  | 15 => s.contactsOk
  | 16 => s.fld F.SAFE.SIN_STAT.CROSS == 0 && s.fld F.SAFE.SIN_STAT.DISC == 0
  | 17 => !s.flag F.SAFE.TP_STAT.OVC_A && !s.flag F.SAFE.TP_STAT.OVC_B
  | 18 => s.fld F.SAFE.SOUT_STAT.FLT == 0
  | 19 => !s.scanning
  | 20 => s.flag F.SAFE.STAT.LOCKSTEP_OK
  | 21 => s.dome.failing &&& 0x13 == 0
  | 22 => s.dev.mode != .degraded
  | 23 => decide (s.latchedUnits.length ≤ 1)
  | _ => (List.range 24).any (fun d => !s.flag F.STRIP.RX_STAT.BIAS_ERR d)

/-- The fields of SAFE.FLT by bit. -/
def fltFlds : List Fld := fldsSAFE.filter (fun F => F.base == 0x1000801)

/-- A write of SAFE.FLT clears each bit written 1 whose source is clear; one that sets in the same tick ends set (R8). -/
def State.wrFlt (s : State) (v : Word) : WRes :=
  (fltFlds.foldl (fun t F => if v.getLsbD F.lo && s.sourceClear F.lo && s.since F == 0 then t.setBit F false else t) s, none)

/-- A write of SOUT_STAT: a bit of FLT clears only while its channel's off check passes. -/
def State.wrSoutStat (s : State) (v : Word) : WRes :=
  (forEach [0, 1, 2, 3] s (fun t ch =>
    if v.getLsbD (8 + ch) && !s.dome.offHigh.testBit ch && !(s.since F.SAFE.SOUT_STAT.FLT).testBit ch then t.clrBit F.SAFE.SOUT_STAT.FLT ch else t), none)

end Sys2Proof.Machine
end

