-- ==== Sys2Proof/Machine/Modes.lean ====
section
/-!
DEFINITION. Supplies and their switch-over, reset, and freeze (spec/13_modes_startup.md R312 to R322).
-/
namespace Sys2Proof.Machine

/-- A millisecond of always-on time. -/
def aonMs : Nat := 10000000

/-! ## Supplies (R312 to R316) -/

def State.setRailNum (s : State) (k : Nat) (f : Rail → Rail) : State := s.setRail k (f (s.rail k))

/-- Time on backup so far, any rail (SUP_CNT.BK_MS). -/
def State.bkTime (s : State) : Nat := s.dev.bkAcc + if s.onBackup then s.aon - s.dev.bkAt else 0

/-- A rail runs on its main or its backup input from now on; the time on backup is kept. -/
def State.setInput (s : State) (k : Nat) (bk : Bool) : State :=
  let t := s.setRailNum k (fun r => { r with onBk := bk, was := if r.was.any (fun p => p.1 == s.aon) then r.was else some (s.aon, r.onBk) })
  if !s.onBackup && t.onBackup then { t with dev := { t.dev with bkAt := s.aon, supChg := true } }
  else if s.onBackup && !t.onBackup then { t with dev := { t.dev with bkAcc := s.bkTime, supChg := true } }
  else { t with dev := { t.dev with supChg := true } }

/-- The input that a rail ran on when this tick began. -/
def State.ranOn (s : State) (k : Nat) : Bool :=
  match (s.rail k).was with
  | some p => if p.1 = s.aon then p.2 else (s.rail k).onBk
  | none => (s.rail k).onBk

/-- A rail goes onto backup: SWITCH counts, but in reset. -/
def State.switchOver (s : State) (k : Nat) : State :=
  let s := s.setInput k true
  if s.dev.inReset then s else s.cnt F.DEV.SUP_CNT.SWITCH

/-- With both inputs out of window a rail stays on the input that it was running on, also where both have left in one tick and the
first to leave had made it switch (R315, R424). -/
def State.stayOn (s : State) (k : Nat) : State :=
  if s.ranOn k = (s.rail k).onBk then s
  else
    let wasOver := (s.rail k).onBk
    let s := s.setInput k (s.ranOn k)
    if wasOver && !s.dev.inReset then s.uncnt F.DEV.SUP_CNT.SWITCH else s

/-- The input that a rail runs on, as its inputs stand. A backup that leaves its window while the main input is in window hands over to
it at once (R424); a main input that returns to a rail on a lost backup is taken after RET (R314, log entry 95). -/
def State.railJudge (s : State) (k : Nat) : State :=
  let r := s.rail k
  if !r.mOk && !r.bOk then s.stayOn k
  else if !r.onBk && !r.mOk && s.bit F.DEV.SUP_CFG.BK_USE k then s.switchOver k
  else if r.onBk && !r.bOk && r.bSince == s.aon then s.setInput k false
  else s

/-- Faults of a rail's inputs as they stand: the backup in use out of window while the rail runs on main, and both out (R315). -/
def State.supplyFaults (s : State) (k : Nat) : State :=
  let r := s.rail k
  let s := if !r.bOk && !r.onBk && s.bit F.DEV.SUP_CFG.BK_USE k && !s.bit F.DEV.SUP_STAT.BK_FLT k then
      (s.orBit F.DEV.SUP_STAT.BK_FLT k).report (.supBk k)
    else s
  if !r.mOk && !r.bOk && !s.bit F.DEV.SUP_STAT.DUAL k then (s.orBit F.DEV.SUP_STAT.DUAL k).report (.supDual k) else s

/-- What the inputs' changes of a tick lead to: HOLDOVER is entered from SCAN with the first rail on backup, and left with the last
back on main; the power cap follows; the faults show (R315, R316). In reset and in FROZEN this waits. -/
def State.supplySettle (s : State) : State :=
  if !s.live then s
  else
    let s := { s with dev := { s.dev with supChg := false } }
    let s := if s.dev.mode = .scan && s.onBackup then s.enterMode .holdover
      else if s.dev.mode = .holdover && !s.onBackup then s.enterMode .scan
      else s.capUpdate
    forEach [0, 1, 2, 3] s State.supplyFaults

/-- While the power-on reset is timing, an input that leaves its window restarts its rail's count (R424). -/
def State.porRestart (s : State) (k : Nat) : State :=
  if s.dev.por then s.setRailNum k (fun r => { r with mSince := s.aon, bSince := s.aon }) else s

/-- The change of an input is to be settled at the end of its tick (R424, log entry 136). -/
def State.supplyChanged (s : State) : State := { s with dev := { s.dev with supChg := true } }

/-- SUPPLY_INPUT_OUT_OF_WINDOW (R313, R315, R424). The supplies are watched in every mode, in reset and in FROZEN. -/
def execSupplyInputOutOfWindow (rail : Fin 4) (backup : Bool) (s : State) : Out :=
  let s := s.setRailNum rail.val (fun r => if !backup then { r with mOk := false }
                                           else if r.bOk then { r with bOk := false, bSince := s.aon } else r)
  .next (((s.porRestart rail.val).railJudge rail.val).supplyChanged)

/-- SUPPLY_INPUT_IN_WINDOW: the input is in window from now. -/
def execSupplyInputInWindow (rail : Fin 4) (backup : Bool) (s : State) : Out :=
  let s := s.setRailNum rail.val (fun r => if backup then { r with bOk := true, bSince := s.aon }
                                           else { r with mOk := true, mSince := s.aon })
  .next (s.railJudge rail.val).supplyChanged

/-- SUPPLY_SWITCH_BACK (R314, R316). -/
def execSupplySwitchBack (rail : Fin 4) (s : State) : Out :=
  let r := s.rail rail.val
  if r.onBk && r.mOk && decide (r.mSince + max 1 (s.fld F.DEV.SUP_CFG.RET) * aonMs ≤ s.aon) then
    .next (s.setInput rail.val false)
  else .next s

/-- The inputs are judged anew, at a write of SUP_CFG, at the end of a reset and at the resume from FROZEN. -/
def State.supplyJudge (s : State) : State := (forEach [0, 1, 2, 3] s State.railJudge).supplySettle

/-- The supplies show again after FROZEN (R424). -/
def State.thawSupplies (s : State) : State := { s with dev := { s.dev with frzRails := none } }.supplyJudge

/-! ## Reset (R317 to R320) -/

/-- Addresses of the registers that the always-on domain keeps: RST_CAUSE and AON_STAT. -/
def aonRegs : List Nat := [0x1000004, 0x1000018]

/-- A freeze that has ended shows in AON_STAT (R322). -/
def State.showFreeze (s : State) : State :=
  if s.dev.frzDone then { s.setBit F.DEV.AON_STAT.FRZ_DONE true with dev := { s.dev with frzDone := false } } else s

/-- What a reset leaves: the queue and the free values of the model, the fuses, the always-on domain, the supplies and the
test access port; the LFSR is loaded with the fuse's SEED (R68). -/
def State.afterReset (s : State) : State :=
  { pending := s.pending, fuses := s.fuses, aon := s.aon, free := s.free, tap := s.tap
    regs := s.regs.filter (fun p => aonRegs.contains (p.1 / 64))
    fire := { lfsr := seedLoad s.fuses.seed }
    dev := { rails := s.dev.rails, por := s.dev.por, pin := s.dev.pin, inReset := true
             parkH := s.dev.parkH, parkV := s.dev.parkV, bkAt := s.aon } }

/-- A reset starts for a cause; one that holds the device only takes the cause up. -/
def State.startReset (s : State) (cause : Fld) : State :=
  if s.dev.inReset then s.setBit cause true else s.showFreeze.afterReset.setBit cause true

/-- POWER_ON_RESET: the rail's inputs must be in window for 1 ms anew. -/
def execPowerOnReset (rail : Fin 4) (s : State) : Out :=
  let s := { s.setRailNum rail.val (fun r => { r with mSince := s.aon, bSince := s.aon }) with
             dev := { (s.setRailNum rail.val (fun r => { r with mSince := s.aon, bSince := s.aon })).dev with por := true } }
  .next (s.startReset F.DEV.RST_CAUSE.POR)

/-- RESET_N_ASSERT: the line has been low for 1 µs. -/
def execResetNAssert (s : State) : Out :=
  let pin := s.dev.pin.orElse (fun _ => some (s.aon - 10000))
  .next ({ s with dev := { s.dev with pin := pin } }.startReset F.DEV.RST_CAUSE.PIN)

/-- RESET_N_RELEASE: the length of the hold, and whether it exceeded 8 s (R318). -/
def execResetNRelease (s : State) : Out :=
  match s.dev.pin with
  | none => .next s
  | some t =>
    let s := s.setFld F.DEV.AON_STAT.RST_HOLD (min 65535 ((s.aon - t) / aonMs))
    let s := if 8000 * aonMs < s.aon - t then s.setBit F.DEV.AON_STAT.RST_STUCK true else s
    .next { s with dev := { s.dev with pin := none } }

/-- DOME_RESET. -/
def execDomeReset (s : State) : Out := whenLive s fun s => s.startReset F.DEV.RST_CAUSE.DOME

/-- A write of RST_CTRL (R320). -/
def State.wrRstCtrl (s : State) (v : Word) : WRes :=
  if bits v 47 32 = 0x4B52 ∧ v.getLsbD 0 then (s.startReset F.DEV.RST_CAUSE.SOFT, none) else (s, some .refused)

/-- A rail has had one input in window for 1 ms. -/
def Rail.settled (r : Rail) (aon : Nat) : Bool :=
  (r.mOk && decide (r.mSince + aonMs ≤ aon)) || (r.bOk && decide (r.bSince + aonMs ≤ aon))

/-- RESET_END (R302, R319): BOOT is entered, BOOTSEL sampled, and the supplies are judged as they stand. -/
def execResetEnd (bootsel : BitVec 2) (s : State) : Out :=
  let por := s.dev.por && !(List.range 4).all (fun k => (s.rail k).settled s.aon)
  if s.dev.inReset && !por && s.dev.pin.isNone then
    .next (({ s with dev := { s.dev with inReset := false, por := false, bkAcc := 0, bkAt := s.aon } }.setFld F.DEV.BOOT_STAT.SEL bootsel.toNat).supplyJudge)
  else .next s

/-! ## Freeze (R321, R322) -/

/-- An accepted freeze: emission stops, the drives take the always-on park levels, the outputs and the links stop, and the
mode becomes FROZEN. -/
def State.freezeNow (s : State) (src : Nat) : State :=
  let s := ((s.dropLsr.outputOff 0).outputOff 1).portsStop
  let s := (s.cnt F.DEV.MODE_STAT.SEQ).coreEvents allCores .mode
  let s := (s.setBit F.DEV.MODE_STAT.BUSY false).setFld F.DEV.MODE_STAT.PEND_TO 0
  let s := if s.dev.mode = .degraded then s.leaveDegraded else s
  { s with
    fire := { s.fire with blocked := true, pulses := [], trim := [] }
    mirr := { s.mirr with lH := s.dev.parkH, lVP := s.dev.parkV, lVN := s.dev.parkV, driven := false }
    dev := { s.dev with mode := .frozen, frzSrc := src, frzDone := true, frzRails := some s.dev.rails } }

/-- A freeze request from a source: 1 pin, 2 link, 3 capture. -/
def State.freezeReq (s : State) (src : Nat) : State :=
  if s.flag F.DEV.DBG_CFG.FREEZE_EN && s.live then s.freezeNow src else s.cnt F.DEV.AON_STAT.FRZ_IGN

/-- FREEZE_PIN: without PIN_EN the fall is no request. -/
def execFreezePin (s : State) : Out := .next (if s.flag F.DEV.DBG_CFG.PIN_EN then s.freezeReq 1 else s)

/-- A write of FRZ_CTRL: only a host requests a freeze. -/
def State.wrFrzCtrl (s : State) (a : Accessor) (v : Word) : WRes :=
  (if v.getLsbD 0 && (a == .portA || a == .portB) then s.freezeReq 2 else s, none)

/-- CAPTURE_RECORD_WRITTEN (R95, R101). -/
def execCaptureRecordWritten (xs : List (BitVec 10)) (s : State) : Out :=
  whenLive s fun s =>
    match s.mon.trig with
    | some t =>
      if 16 * (s.mon.lastPost + 1) ≤ s.now then
        let s := s.capWrite xs t
        if s.flag F.MON.CAP_CFG.FRZ_REQ && s.flag F.DEV.DBG_CFG.FREEZE_EN then s.freezeReq 3 else s
      else s
    | none => s

end Sys2Proof.Machine
end

