-- ==== Sys2Proof/Machine/Output.lean ====
section
/-!
DEFINITION. The output unit's commands: entry into the rings, the stall timer, a new ring, the window-contamination monitor and
the frames that carry points (spec/09_rejection_points.md R204 to R210, spec/15_gloelink.md R357).
-/
namespace Sys2Proof.Machine

/-- RING_GROUP_ENTRY (R207, R209): what waits enters in order; a sweep boundary due in this tick acts first (R221). -/
def execRingGroupEntry (b : Fin 4) (s : State) : Out := whenLive s fun s => (s.sweepFirst.ringEntry b.val).stopsDue

/-- RING_STALL_TIMEOUT (R209): no slot has been freed for STALL ms while something waits. -/
def execRingStallTimeout (b : Fin 4) (s : State) : Out :=
  whenLive s fun s =>
    let x := s.ring b.val
    match x.waitAt with
    | some t =>
      onlyIf (s.due (max t x.lastFree + (max 1 (s.fld F.BANK.RING_CFG.STALL b.val) : Nat) * ms)) s fun s =>
        ((s.setBit F.BANK.RING_STAT.DISC true b.val).ringEntry b.val).stopsDue
    | none => s

/-- Frames in flight carry no slot of a ring that is set up anew: every routed port's hold on it ends (R206). -/
def Port.loseRing (x : Port) (b : Nat) : Port :=
  { x with unacked := x.unacked.map (fun f => if f.ring.any (fun r => r.1 == b) then { f with ring := none } else f) }

/-- The ring is emptied and starts at slot 0 of its new tiles; a rebase header precedes what enters next (R206). -/
def State.ringEmpty (s : State) (b : Nat) : State :=
  let x := s.ring b
  let n := (x.slots.filter (fun i => !i.hdr)).length
  let s := s.ringDiscarded b n
  let s := s.setRing b { s.ring b with head := 0, tail := 0, slots := [], sent := [], acked := [], moved := true, lastFree := s.now }
  forEach portNums s (fun s p => s.updPort p (fun y => y.loseRing b))

/-- A write of RING_CFG: NTILE 4 to 4,096 within the shared store, else refused (R206); ROUTE is staged. -/
def State.wrRingCfg (s : State) (b : Nat) (v : Word) : WRes :=
  let base := bits v 45 32
  let n := bits v 29 16
  if n < 4 || 4096 < n || 16383 < base + n - 1 then (s, some .refused)
  else
    let new := decide (base ≠ s.fld F.BANK.RING_CFG.BASE b ∨ n ≠ s.fld F.BANK.RING_CFG.NTILE b)
    let s := (s.setFld F.BANK.RING_CFG.BASE base b).setFld F.BANK.RING_CFG.NTILE n b
    let s := (s.setFld F.BANK.RING_CFG.STALL (bits v 15 8) b).stage F.BANK.RING_CFG.ROUTE (bits v 1 0) b
    (if new then s.ringEmpty b else s, none)

/-- WC_INTERVAL_END. -/
def execWcIntervalEnd (b : Fin 4) (s : State) : Out := whenLive s fun s => s.wcEnd b.val

/-- The two words of the ring slot numbered q since the ring was set up. -/
def State.slotWords (s : State) (b q : Nat) : List Word :=
  let k := q % s.ringSize b
  let a := tileBase (ctxTiles + s.fld F.BANK.RING_CFG.BASE b + k / 23) + 2 * (k % 23)
  [s.rdMem a, s.rdMem (a + 1)]

/-- The frame that is due for host port o: an HDR frame with one header, or a POINT frame with a run of records. -/
def State.streamFrame (s : State) (b o : Nat) : Option TxF :=
  match s.unsent b o with
  | [] => none
  | i :: t =>
    let n := if i.hdr then 4 else (recordRun (i :: t) i.pos 31).length
    let words := (List.range n).flatMap (fun k => s.slotWords b (i.pos + k))
    some { cls := 1, ring := some (b, i.pos + n),
           words := s.frame (if i.hdr then tHDR else tPOINT) o (b * 2 ^ 22 + i.pos % s.ringSize b) words }

/-- POINT_FRAME_SEND: `p` is the host port that the stream goes to, the frame's ORIG (R371). -/
def execPointFrameSend (p : Fin 2) (b : Fin 4) (s : State) : Out :=
  whenLive s fun s =>
    let q := s.portOf p.val
    onlyIf (s.streamReady b.val p.val && s.canSend q 1) s fun s =>
      match s.streamFrame b.val p.val with
      | none => s
      | some f =>
        let x := s.ring b.val
        let s := s.setRing b.val { x with sent := Tab.put x.sent p.val ((f.ring.map Prod.snd).getD 0) }
        ((s.updPort q (fun x => { x with lastC := false })).sendNow q f).pump q

end Sys2Proof.Machine
end

