-- ==== Sys2Proof/Machine/Gloe.lean ====
section
/-!
DEFINITION. Gloelink ports: block lock, bring-up, credits, acknowledgement and retry, port faults, and the frames of the chain
(spec/15_gloelink.md R350 to R371, R374).
-/
namespace Sys2Proof.Machine

/-! ## Forms of frames (R355) -/

/-- Bits of a word that must be 0 are 0. -/
def zeroBits (w : Word) (hi lo : Nat) : Bool := bits w hi lo == 0

/-- The body has LEN words. -/
def lenOk (f : List Word) : Bool := f.length == frLen f + 1

/-- A word address in [24:0] of body word 1. -/
def frAddr (f : List Word) : Nat := bits (f.getD 1 0) 24 0

/-- Addresses of the regions of R401. -/
def inRegs (a : Nat) : Bool := decide (0x1000000 ≤ a ∧ a < 0x2000000)
def inMem (a : Nat) : Bool := decide (a < 0x240000 ∨ (0x800000 ≤ a ∧ a < 0x8C0000))

/-- A frame of a type that a host may send, or of the chain, is well formed. -/
def frameOk (f : List Word) : Bool :=
  let t := frType f
  let h := f.getD 0 0
  let a := f.getD 1 0
  lenOk f &&
  if t = tREG_RD then frLen f == 1 && zeroBits h 15 6 && frTs f 5 0 != 63 && zeroBits a 47 25 && inRegs (frAddr f)
  else if t = tMEM_RD then frLen f == 1 && zeroBits h 15 6 && frTs f 5 0 != 63 && zeroBits a 47 25 && inMem (frAddr f)
  else if t = tREG_WR then decide (2 ≤ frLen f) && zeroBits h 15 0 && zeroBits a 47 25 && inRegs (frAddr f)
  else if t = tMEM_WR then decide (2 ≤ frLen f) && zeroBits h 15 0 && zeroBits a 47 25 && inMem (frAddr f)
  else if t = tMBX then
    zeroBits h 7 3 && ((frTs f 15 12 == 0 && frLen f == frTs f 2 0 + 1) || (frTs f 15 12 == 1 && frLen f == 0))
  else if t = tSEM then frTs f 15 12 == 0 && zeroBits h 11 5 && frLen f == 0
  else if t = tFLOW then frLen f == 1 && zeroBits h 39 33 && zeroBits h 23 16 && zeroBits a 47 32
  else if t = tTRAIN then
    frLen f == 2 && zeroBits h 39 33 && zeroBits h 23 0 && zeroBits a 27 2 && zeroBits a 0 0 && zeroBits (f.getD 2 0) 47 24
  else if t = tCHAIN then frLen f == 1 && zeroBits h 23 0 && zeroBits a 47 4
  else false

/-! ## Lanes and bring-up (R350, R362, R363, R369) -/

/-- BLOCK_LOCK: after 64 consecutive valid sync headers; on an inverted pair all of them come inverted (R350). -/
def execBlockLock (p : PortRun) (s : State) : Out :=
  whenLive s fun s => onlyIf (!(s.port p.port.val).lock) s fun s =>
    match runLock p.rx with
    | some inverted =>
      ((s.updPort p.port.val (fun x => { x with lock := true, badAt := [] })).setBit F.LINK.STAT.RX_INV inverted
        p.port.val).sendTrain p.port.val
    | none => s

/-- Block lock is lost. -/
def State.loseLock (s : State) (p : Nat) : State :=
  if s.fld F.LINK.STAT.STATE p = 0 then s.updPort p (fun x => { x with lock := false }) else s.portDown p 1

/-- What a port has received in a run of blocks. -/
def State.heardOn (s : State) (p : Nat) (rx : LineRun) : List (Bool × Payload) := runReceived rx (s.flag F.LINK.STAT.RX_INV p)

/-- BLOCK_LOCK_LOSS: after 16 invalid sync headers within 64 blocks. -/
def execBlockLockLoss (p : PortRun) (s : State) : Out :=
  whenLive s fun s =>
    onlyIf ((s.port p.port.val).lock && decide (16 ≤ runBad p.rx (s.flag F.LINK.STAT.RX_INV p.port.val))) s fun s =>
      s.loseLock p.port.val

/-- Invalid sync headers of n blocks that have come by now; a block lasts 6.4 ns (R350, R351). -/
def State.countBad (s : State) (p n : Nat) : State :=
  let x := s.port p
  let bad := x.badAt.filter (fun t => decide (s.now - 8192 < t)) ++ List.replicate n s.now
  let s := s.setPort p { x with badAt := bad }
  if x.lock && decide (16 ≤ bad.length) then s.loseLock p else s

/-- A port that has had its eighth good TRAIN frame with RXOK: it enters CREDIT, unless the chain leaves it in TRAIN (R369). -/
def State.trained (s : State) (p : Nat) : State :=
  let x := s.port p
  if p = 0 ∧ x.role = 2 ∧ x.pos = 3 then s
  else if p = 1 ∧ s.chainPos ≠ 0 then s
  else if p = 2 ∧ s.chainPos = 3 then s.setFld F.LINK.STAT.DN_CAUSE 7 2
  else (s.setFld F.LINK.STAT.STATE 2 p).sendFlow p

/-- The receiver asks for frames to be sent again, and good TRAIN frames count afresh (R360, R362). -/
def State.nak (s : State) (p : Nat) : State :=
  s.updPort p (fun x =>
    let y := { x with good := 0 }
    if s.linkUp p then { y with nakOwed := x.nakOwed || x.nakOk, nakOk := false } else y)

/-- A malformed frame that is no request is discarded and counted (R355). -/
def State.malformed (s : State) (p : Nat) : State := (s.cnt F.LINK.ERR_CNT0.CRC 1 p).nak p

/-- TRAIN. A TRAIN frame on a port in CREDIT or UP takes it down (R363 cause 4). -/
def execTrain (p : Fin 3) (f : List Word) (s : State) : Out :=
  whenLive s fun s =>
    let st := s.fld F.LINK.STAT.STATE p.val
    onlyIf ((s.port p.val).lock && frType f == tTRAIN && st != 0) s fun s =>
      if !frameOk f then s.malformed p.val
      else if 2 ≤ st then s.portDown p.val 4
      else
        let a := f.getD 1 0
        let s := s.updPort p.val (fun x => { x with good := min 8 (x.good + 1), trained := true, role := bits a 31 30,
                                                     pos := bits a 29 28 })
        if (s.port p.val).good = 8 ∧ a.getLsbD 1 then s.trained p.val else s.sendTrain p.val

/-- FLOW: the partner's buffers and FREED counts; in CREDIT it completes the bring-up (R361, R362). -/
def execFlow (p : Fin 3) (f : List Word) (s : State) : Out :=
  whenLive s fun s => onlyIf (frType f == tFLOW && frameOk f && decide (2 ≤ s.fld F.LINK.STAT.STATE p.val)) s fun s =>
    let a := f.getD 1 0
    let s := (s.setFld F.LINK.CREDIT.P_BUF0 (frTs f 15 8) p.val).setFld F.LINK.CREDIT.P_BUF1 (frTs f 7 0) p.val
    if s.linkUp p.val then
      (s.updPort p.val (fun x => { x with pFreed0 := bits a 31 16, pFreed1 := bits a 15 0 })).pump p.val
    else s.portUp p.val (bits a 31 16) (bits a 15 0)

/-- FLOW_SEND. -/
def execFlowSend (p : Fin 3) (s : State) : Out :=
  whenLive s fun s => onlyIf (decide (2 ≤ s.fld F.LINK.STAT.STATE p.val)) s fun s =>
    s.sendFlow p.val

/-- A write of LINKp.CTRL: EN starts or stops the port, RETRAIN takes it down and trains it again. -/
def State.wrLinkCtrl (s : State) (p : Nat) (v : Word) : WRes :=
  let st := s.fld F.LINK.STAT.STATE p
  let s := (s.setFld F.LINK.CTRL.EV_EN (bits v 47 40) p).setBit F.LINK.CTRL.EN (v.getLsbD 0) p
  (if !v.getLsbD 0 then (if st = 0 then s else s.portDown p 6)
   else if st = 0 then s.startTrain p
   else if v.getLsbD 1 then s.portDown p 3 else s, none)

/-! ## Acknowledgement and retry (R359, R360) -/

/-- The acknowledgements of received blocks are taken up: AV says whether ACK is valid. -/
def State.takeAcks (s : State) (p : Nat) (bs : List Payload) : State :=
  bs.foldl (fun s b => if blkAv b then s.release p (blkAck b) else s) s

/-- ACK_RECEIVED. -/
def execAckReceived (p : Fin 3) (rx : LineRun) (s : State) : Out :=
  whenLive s fun s => (s.takeAcks p.val (heard (s.heardOn p.val rx))).pump p.val

/-- NAK_RECEIVED: what is acknowledged is released; everything after it is sent again, before any frame that waits (R358). -/
def execNakReceived (p : Fin 3) (rx : LineRun) (s : State) : Out :=
  whenLive s fun s =>
    let bs := heard (s.heardOn p.val rx)
    onlyIf (s.linkUp p.val && bs.any blkNak) s fun s =>
      (((s.cnt F.LINK.ERR_CNT1.NAK 1 p.val).takeAcks p.val bs).replay p.val).pump p.val

/-- ACK_TIMEOUT: the oldest frame has waited 20 µs; the eighth time in a row takes the port down. -/
def execAckTimeout (p : Fin 3) (s : State) : Out :=
  whenLive s fun s =>
    let x := s.port p.val
    onlyIf (s.linkUp p.val && !x.unacked.isEmpty && s.due (x.oldAt + 20 * us)) s fun s =>
      let s := (s.cnt F.LINK.ERR_CNT1.TMO 1 p.val).setPort p.val { x with tmo := x.tmo + 1 }
      if 8 ≤ x.tmo + 1 then s.portDown p.val 2 else s.replay p.val

/-! ## Port faults (R368) and owners that are gone (R374) -/

/-- PORT_FAULT: port B of a chained device raises none (R369). -/
def execPortFault (p : Fin 3) (s : State) : Out :=
  whenLive s fun s =>
    let due : Inst := (s.port p.val).downAt + (max 1 (s.fld F.LINK.FLT_CFG.DOWN_T p.val) : Nat) * ms
    onlyIf (s.flag F.LINK.FLT_CFG.REQ p.val && !s.linkUp p.val && !s.flag F.LINK.STAT.FAULT p.val && s.due due &&
        !(p.val == 1 && s.chainPos != 0)) s fun s =>
      let s := (s.setBit F.LINK.STAT.FAULT true p.val).portEvent
      if p.val < 2 then s.report (.port p.val) else s

/-- A write of LINKp.STAT: FAULT clears only while the port is UP or not required, and not where it sets in the same tick
(R8). -/
def State.wrLinkStat (s : State) (p : Nat) (v : Word) : WRes :=
  (if v.getLsbD 8 && (s.linkUp p || !s.flag F.LINK.FLT_CFG.REQ p) && s.since F.LINK.STAT.FAULT p == 0 then s.setBit F.LINK.STAT.FAULT false p else s, none)

/-- SEM_HOLD_EXPIRY: the semaphores of the hosts that reach the device through this port. -/
def execSemHoldExpiry (p : Fin 3) (s : State) : Out :=
  whenLive s fun s =>
    let due : Inst := (s.port p.val).downAt + (max 1 (s.fld F.LINK.FLT_CFG.SEM_HOLD p.val) : Nat) * ms
    onlyIf (!s.linkUp p.val && s.due due) s fun s => (s.hostsOf p.val).foldl (fun s o => s.semReleaseAll (o + 1)) s

/-- A write of MBXm.ACK: ACKC clears ACK, then ACK sets it. -/
def State.wrMbxAck (s : State) (m : Nat) (v : Word) : WRes :=
  let s := if v.getLsbD 1 then s.mbxSetAck m false else s
  (if v.getLsbD 0 then s.mbxSetAck m true else s, none)

/-! ## The chain (R370, R371) -/

/-- CHAIN, received on port C. -/
def execChain (p : Fin 3) (f : List Word) (s : State) : Out :=
  whenLive s fun s => onlyIf (p.val == 2 && frType f == tCHAIN && frameOk f) s fun s =>
    s.rxAccept 2 f fun s =>
      ({ s with net := { s.net with below := bits (f.getD 1 0) 3 0 } }.chainUpdate false).freed 2 0

/-- The types of frames that travel up the chain. -/
def upType (t : Nat) : Bool := t = tRESP || t = tERR || t = tPOINT || t = tHDR || t = tEVENT || t = tSEM

/-- Body words of an EVENT; of an ALMANAC its record (R382, R397). -/
def eventLen (code : Nat) : Option Nat :=
  if code = 1 then some 1 else if code = 2 then some 2 else if code = 3 then some 12 else if code = 4 then some 2
  else if code = 5 then some 1 else if code = 6 then some 3 else none

/-- A frame that travels up the chain is well formed. -/
def upOk (f : List Word) : Bool :=
  let t := frType f
  let h := f.getD 0 0
  lenOk f &&
  if t = tRESP then zeroBits h 15 0
  else if t = tERR then frLen f == 1 && zeroBits h 7 6 && zeroBits (f.getD 1 0) 47 25
  else if t = tPOINT then decide (2 ≤ frLen f ∧ frLen f ≤ 62) && frLen f % 2 == 0 && zeroBits h 21 17
  else if t = tHDR then frLen f == 8 && zeroBits h 21 17
  else if t = tEVENT then eventLen (frTs f 23 16) == some (frLen f) && zeroBits h 15 0
  else if t = tSEM then frTs f 15 12 == 1 && zeroBits h 11 5 && frLen f == 0
  else false

/-- A frame from below goes out of the port that ORIG names, at a chained device out of its port A. -/
def State.forwardUp (s : State) (f : List Word) : State :=
  let c := s.frClass f
  let fwd := if frType f = tRESP ∨ frType f = tERR then s.net.fwd.erase (frOrig f, frHop f, frRid f) else s.net.fwd
  { s with net := { s.net with fwd := fwd } }.queueFrame (s.portOf (frOrig f)) c f

/-- UPSTREAM_FRAME_FORWARD: a malformed one is discarded (R355). -/
def execUpstreamFrameForward (f : List Word) (s : State) : Out :=
  whenLive s fun s => onlyIf (upType (frType f)) s fun s =>
    if upOk f then s.rxAccept 2 f fun s => s.forwardUp f
    else if s.linkUp 2 then s.malformed 2 else s

end Sys2Proof.Machine
end

