-- ==== Sys2Proof/Machine/View.lean ====
section
/-!
DEFINITION. What a register shows: the blocks of spec/17_register_map.md R403, and the fields that the device forms from its
state rather than holds. `State.view` has no side effect.
-/
namespace Sys2Proof.Machine

/-! ## Blocks (R402, R403) -/

/-- The blocks in the order of their BLK bits: base, instances, stride, registers of an instance. -/
def blocks : List (Nat × Nat × Nat × Nat) :=
  [(0x1000000, 1, 96, 96), (0x1000100, 1, 96, 96), (0x1000200, 1, 160, 160), (0x1000400, 1, 128, 128),
   (0x1000500, 1, 192, 192), (0x1000600, 1, 224, 224), (0x1000800, 1, 128, 128), (0x1000900, 3, 64, 64)] ++
  [(0x1000A00, 16, 8, 8), (0x1000A80, 32, 1, 1), (0x1000B00, 1, 96, 96), (0x1000C00, 4, 64, 48),
   (0x1000D00, 8, 32, 24), (0x1001000, 4, 64, 64), (0x1002000, 24, 64, 40), (0x1010000, 768, 4, 4)]

/-- Whether an address is a register of a block. -/
def inBlock (k : Nat × Nat × Nat × Nat) (a : Nat) : Bool :=
  decide (k.1 ≤ a ∧ a < k.1 + k.2.1 * k.2.2.1 ∧ (a - k.1) % k.2.2.1 < k.2.2.2)

/-- The number of the block that holds an address; none where it is not allocated. -/
def blockOf (a : Nat) : Option Nat := (List.range 16).find? (fun i => inBlock (blocks.getD i (0, 0, 1, 0)) a)

/-- The instance of its block that holds an address. -/
def blockInst (i a : Nat) : Nat := (a - (blocks.getD i (0, 0, 1, 0)).1) / (blocks.getD i (0, 0, 1, 1)).2.2.1

/-- The fields of a block. -/
def blockFlds : Nat → List Fld
  | 0 => fldsDEV | 1 => fldsTIME | 2 => fldsFIRE | 3 => fldsMON | 4 => fldsMIRR | 5 => fldsAFE | 6 => fldsSAFE
  | 7 => fldsLINK | 8 => fldsMBX | 9 => fldsSEM | 10 => fldsBGND | 11 => fldsCORE ++ fldsALD | 12 => fldsCORE ++ fldsRTL
  | 13 => fldsBANK | 14 => fldsSTRIP | 15 => fldsCHAN
  | _ => []

/-- The fields of an address, with instance and element. -/
def fldsAt (a : Nat) : List (Fld × Nat × Nat) :=
  ((blockOf a).elim [] blockFlds).flatMap (fun F => (F.hits a).map (fun p => (F, p.1, p.2)))

/-! ## Fields formed from the state -/

/-- A number with bit k for each truth value of a list. -/
def bitMap (l : List Bool) : Nat := l.foldr (fun b n => 2 * n + if b then 1 else 0) 0

/-- DEV (R298, R299, R313, R316); in FROZEN the rails as they stood at the freeze (R424). -/
def State.showDev (s : State) (a : Nat) : List (Fld × Nat) :=
  let rail (k : Nat) : Rail := Tab.get (fun _ => {}) (s.dev.frzRails.getD s.dev.rails) k
  let rails (f : Rail → Bool) : Nat := bitMap ((List.range 4).map (fun k => f (rail k)))
  if a = 0x1000001 then
    [ (F.DEV.MODE_STAT.LATCHED, n1 s.latchedFault), (F.DEV.MODE_STAT.ON_BACKUP, n1 (rails Rail.onBk != 0)),
      (F.DEV.MODE_STAT.ARMED_OK, n1 s.armedOk), (F.DEV.MODE_STAT.MODE, s.dev.mode.code) ]
  else if a = 0x1000008 then
    [(F.DEV.SUP_STAT.B_OK, rails Rail.bOk), (F.DEV.SUP_STAT.M_OK, rails Rail.mOk), (F.DEV.SUP_STAT.ON_BK, rails Rail.onBk)]
  else if a = 0x100000A then [(F.DEV.SUP_CNT.BK_MS, s.bkTime / aonMs)]
  else []

/-- FIRE (R67, R70, R74, R78). -/
def State.showFire (s : State) (a : Nat) : List (Fld × Nat) :=
  if a = 0x1000201 then
    [(F.FIRE.STAT.LSR_EN, n1 s.fire.lsrEn), (F.FIRE.STAT.READY, bitMap ((List.range 4).map s.bankReady))]
  else if a = 0x100020B then [(F.FIRE.GOV_STAT.BUDGET, s.budgetNow / 20000)]
  else if 0x1000260 ≤ a ∧ a < 0x1000290 then
    [ (F.FIRE.EYE_SUM.SUM100, min 4294967295 (s.sum100 (a - 0x1000260) / 25600)),
      (F.FIRE.EYE_SUM.SUM5, min 65535 (s.sum5 (a - 0x1000260) / 256)) ]
  else []

/-- MON (R99, R100): between another unit's rising edges its level on ARM_BUS is free. -/
def State.showMon (s : State) (a : Nat) : List (Fld × Nat) :=
  if a = 0x1000429 then
    (F.MON.MU_STAT.TRIG_ANY, n1 (s.mon.anyEnd.isSome || decide (s.now < s.mon.otherEnd))) ::
    (if s.fld F.MON.MU_CFG.ROLE ≠ 1 ∧ s.mon.busSeen = true then
      [(F.MON.MU_STAT.ARM_BUS, Config.free .armBus s.raw % 2)] else [])
  else []

/-- AFE (R143, R144). -/
def State.showAfe (s : State) (a : Nat) : List (Fld × Nat) :=
  if a = 0x1000673 then [(F.AFE.HK_STAT.PAUSED, n1 s.hkPaused)]
  else if a = 0x10006A1 then [(F.AFE.TDAC_STAT.ACTIVE, n1 (s.flag F.AFE.TDAC_CFG.EN))] else []

/-- SAFE (R337, R339, R349). -/
def State.showSafe (s : State) (a : Nat) : List (Fld × Nat) :=
  if a = 0x1000800 then
    [ (F.SAFE.STAT.LOCKED, s.fld F.SAFE.SF2_CFG.LOCK), (F.SAFE.STAT.ACTIVE, n1 (s.fltWord != 0)),
      (F.SAFE.STAT.LSR_CMD, n1 s.dome.cmd), (F.SAFE.STAT.SF2_RUN, n1 (s.flag F.SAFE.SF2_CFG.EN && s.scanning)),
      (F.SAFE.STAT.SOUT_ON, s.fld F.SAFE.SOUT_STAT.ON) ]
  else if a = 0x1000804 then [(F.SAFE.DEG_STAT.ELAPSED, s.degElapsed)]
  else if a = 0x100080C then [(F.SAFE.SOUT_STAT.DEMAND, bitMap [s.demandOf 0, s.demandOf 1])]
  else if 0x1000820 ≤ a ∧ a < 0x1000840 ∧ a % 4 = 3 then
    [(F.SAFE.ZONE_STAT.INTR, n1 (s.bit F.SAFE.SF2_STAT.INTR ((a - 0x1000820) / 4)))]
  else []

/-- Credits of a class that are left. -/
def creditLeft (buf sent freed : Nat) : Nat := buf - (sent + 65536 - freed) % 65536

/-- Load of a port: blocks of the last ms, in 0.01 % of 156,250 (R351, R383). -/
def State.linkLoad (s : State) (p : Nat) : Nat :=
  min 10000 (((s.port p).log.filter (fun e => decide (s.now - ms < e.1))).foldl (fun a e => a + e.2) 0 * 10000 / 156250)

/-- LINKp. -/
def State.showLink (s : State) (p o : Nat) : List (Fld × Nat) :=
  let x := s.port p
  if o = 6 then
    [ (F.LINK.CREDIT.AVAIL0, creditLeft (s.fld F.LINK.CREDIT.P_BUF0 p) x.sent0 x.pFreed0),
      (F.LINK.CREDIT.AVAIL1, creditLeft (s.fld F.LINK.CREDIT.P_BUF1 p) x.sent1 x.pFreed1),
      (F.LINK.CREDIT.UNACK, x.unacked.length) ]
  else if o = 8 then [(F.LINK.LOAD.LOAD, s.linkLoad p)]
  else []

/-- MBXm (R377, R378). -/
def State.showMbx (s : State) (m o : Nat) : List (Fld × Nat) :=
  let x := s.mbx m
  if o = 0 then
    [ (F.MBX.STAT.STAMP, bits (x.msg.getD 0 0) 47 24), (F.MBX.STAT.FULL, n1 !x.msg.isEmpty), (F.MBX.STAT.LEN, x.msg.length) ]
  else if o = 1 then
    [(F.MBX.AGE.AGE, if x.msg.isEmpty then 0 else min 4294967295 ((s.now - x.at_) / us).toNat)]
  else []

/-- BGND (R392, R396). -/
def State.showBgnd (s : State) (a : Nat) : List (Fld × Nat) :=
  let ds := List.range 24
  let w := s.act F.FIRE.PULSE_CFG.WIDTH
  if a = 0x1000B04 then
    [ (F.BGND.CAL_SUM.AGE_MAX, (ds.map s.calAge).foldl max 0),
      (F.BGND.CAL_SUM.RET_CH, (ds.map (fun d => s.fld F.STRIP.RX_STAT.RET_CH d)).foldl (· + ·) 0),
      (F.BGND.CAL_SUM.STALE, bitMap (ds.map (fun d => s.flag F.STRIP.RX_STAT.STALE d))) ]
  else if a = 0x1000B08 then
    [(F.BGND.AGE_STAT.LIMIT, n1 (w == s.fld F.BGND.AGE_CFG.W_MIN || w == s.fld F.BGND.AGE_CFG.W_MAX))]
  else []

/-- The core of an ALD or RTL block's instance. -/
def coreOf (blk i : Nat) : Nat := if blk = 11 then i else 4 + i

/-- Core cycles since START, whose lengths follow the spread; 0 before the first START (R44, R249). -/
def State.cycles (s : State) (c : Nat) : Nat :=
  (s.core c).start.elim 0 (fun t => coreCycles t s.now (s.core c).startLag (s.lagAt s.now))

/-- ALDb and RTLk (R232, R235, R238 to R240, R249, R250). -/
def State.showCore (s : State) (blk i o : Nat) : List (Fld × Nat) :=
  let c := coreOf blk i
  let x := s.core c
  if o = 3 then [(F.CORE.PC.PC, x.pc)]
  else if o = 5 then [(F.CORE.EVT.PENDING, s.pendingEv c)]
  else if blk = 11 then
    if o = 1 then [(F.ALD.STAT.QLEN, x.queue.length)]
    else if o = 9 then [(F.ALD.CYCLES.CYCLES, s.cycles c)]
    else if o = 10 then
      match x.wait with
      | .sync m => [(F.ALD.SYNC.WAITING, 1), (F.ALD.SYNC.MASK, m)]
      | _ => []
    else if o = 11 then [(F.ALD.WIN.L_CNT, x.win)]
    else if 0x10 ≤ o ∧ o < 0x20 then [(F.ALD.GREG.G, (x.rd (o - 0x10)).toNat)]
    else []
  else
    if o = 1 then [(F.RTL.STAT.CUR, n1 x.cell.isSome)]
    else if o = 7 then [(F.RTL.SVC.EFF, s.svcEff c)]
    else if 8 ≤ o then [(F.RTL.GREG.G, (x.rd (o - 8)).toNat)]
    else []

/-- BANKb (R206, R207, R209). -/
def State.showBank (s : State) (b o : Nat) : List (Fld × Nat) :=
  let x := s.ring b
  if o = 1 then [(F.BANK.RING_STAT.FILL, x.fill), (F.BANK.RING_STAT.STALLED, n1 x.waitAt.isSome)]
  else if o = 2 then
    [(F.BANK.RING_PTR.WR, x.head % s.ringSize b), (F.BANK.RING_PTR.RD, x.tail % s.ringSize b)]
  else []

/-- STRIPd (R153, R167, R169, R187, R191, R193). -/
def State.showStrip (s : State) (d o : Nat) : List (Fld × Nat) :=
  let x := s.strip d
  if o = 0 then [(F.STRIP.RX_STAT.READY, n1 (s.stripReady d))]
  else if o = 0x0E then [(F.STRIP.CAL_STAT.AGE, s.calAge d)]
  else if o = 0x12 then [(F.STRIP.CTX_STAT.PEND, x.ovf.length), (F.STRIP.CTX_STAT.QLEN, x.cq.length)]
  else if o = 0x18 then [(F.STRIP.CQ_HEAD.ENTRY, ((oldestOf x.cq).elim 0 (fun e => e.entry.toNat)))]
  else []

/-- VISIT_STAT: the visit slots that are open and their columns. -/
def State.visitStat (s : State) (d : Nat) : Word :=
  let open_ := (List.range 4).filter (fun v => (Tab.find? (s.strip d).visits v).isSome)
  BitVec.ofNat 48 (open_.foldl (fun w v => w + 2 ^ (44 + v) + (s.visit d v).col * 2 ^ (10 * v)) 0)

/-- The fields of an allocated address that are formed from the state. -/
def State.shown (s : State) (blk a : Nat) : List (Fld × Nat) :=
  let i := blockInst blk a
  let o := (a - (blocks.getD blk (0, 0, 1, 0)).1) % (blocks.getD blk (0, 0, 1, 0)).2.2.1
  match blk with
  | 0 => s.showDev a
  | 2 => s.showFire a
  | 3 => s.showMon a
  | 5 => s.showAfe a
  | 6 => s.showSafe a
  | 7 => s.showLink i o
  | 8 => s.showMbx i o
  | 10 => s.showBgnd a
  | 11 => s.showCore 11 i o
  | 12 => s.showCore 12 i o
  | 13 => s.showBank i o
  | 14 => s.showStrip i o
  | _ => []

/-- What an allocated register shows to a reader of an accessor code, where no latch of an accessor comes in. Code 0 is the
test access port's. -/
def State.view (s : State) (code blk a : Nat) : Word :=
  if a = 0x1000120 then s.timeNow
  else if a = 0x1000121 then BitVec.ofNat 48 s.epoch
  else if blk = 9 then s.semWord (a - 0x1000A80) code
  else if blk = 14 ∧ (a - 0x1002000) % 64 = 0x13 then s.visitStat ((a - 0x1002000) / 64)
  else s.wordWith (blockFlds blk) a (s.shown blk a)

end Sys2Proof.Machine
end

