-- ==== Sys2Proof/Machine/Background.lean ====
section
/-!
DEFINITION. Background activity: scrubbing, breakdown tracking, the hot-SPAD test, laser ageing and the Almanac
(spec/16_background.md R389 to R398).
-/
namespace Sys2Proof.Machine

/-- Background activity has begun: IDLE has been entered since reset (R397). -/
def State.bgOn (s : State) : Bool := s.bg.almAt.isSome

/-! ## Scrubbing (R390, R391) -/

/-- Length of a pass. -/
def State.passLen (s : State) : Int := (clampN 500 2000 (s.fld F.BGND.SCRUB_CFG.PASS) : Nat) * ms

/-- A context tile is held in an open visit, or in one that still writes back. -/
def State.tileHeld (s : State) (d n : Nat) : Bool :=
  let holds (x : Visit) : Bool := cellTile d x.col 0 == n || cellTile d x.col 1 == n
  (s.strip d).visits.any (fun p => holds p.2) || (s.strip d).ending.any holds

/-- The scrubber's check of a context tile that no visit holds. -/
def State.scrubCtx (s : State) (n : Nat) : State :=
  let r := s.checkTile n
  if r.1 then r.2 else r.2.cnt F.BGND.SCRUB_CNT.CTX

/-- The first item from a position on, or the next slot to be written. -/
def Ring.skipTo (x : Ring) (q : Nat) : Nat :=
  match x.slots.find? (fun i => decide (q ≤ i.pos)) with
  | some i => i.pos
  | none => x.head

/-- An item touches tile m of a ring. -/
def State.touches (s : State) (b m : Nat) (i : Slot2) : Bool :=
  (List.range (if i.hdr then 4 else 1)).any (fun k =>
    s.fld F.BANK.RING_CFG.BASE b + (i.pos + k) % s.ringSize b / 23 == m)

/-- A failing ring tile: the items in it that some port has still to send are freed as discarded (R391). -/
def State.scrubRing (s : State) (b m : Nat) : State :=
  let x := s.ring b
  let from_ := x.sent.foldl (fun a p => min a p.2) x.head
  let gone (i : Slot2) : Bool := s.touches b m i && decide (from_ ≤ i.pos)
  let lost := x.slots.filter gone
  if lost.isEmpty then s
  else
    let y := { x with slots := x.slots.filter (fun i => !gone i) }
    let up (l : Tab Nat) : Tab Nat := l.map (fun p => (p.1, y.skipTo p.2))
    ((s.setRing b { y with sent := up y.sent, acked := up y.acked }).ringDiscarded b
      (lost.filter (fun i => !i.hdr)).length).ringFree b false

/-- The scrubber's check of a shared-store tile. -/
def State.scrubShared (s : State) (m : Nat) : State :=
  if tileOk (s.rdTile (ctxTiles + m)) (ctxTiles + m) then s
  else
    let s := (s.cnt F.BGND.SCRUB_CNT.SS).updBg (fun x => { x with ssFail := x.ssFail + 1 })
    let s := (s.setFld F.BGND.SCRUB_LOG.TILE m).setBit F.BGND.SCRUB_LOG.VALID true
    forEach (bankNums.filter (fun b =>
      decide (s.fld F.BANK.RING_CFG.BASE b ≤ m ∧ m < s.fld F.BANK.RING_CFG.BASE b + s.fld F.BANK.RING_CFG.NTILE b)))
      s (fun s b => s.scrubRing b m)

/-- The context tiles of one place in the pass, one on each strip. -/
def State.scrubStrips (s : State) (j : Nat) : State :=
  forEach (List.range 24) s (fun s d =>
    let n := 2048 * d + j
    if s.tileHeld d n then s.updBg (fun x => { x with retry := x.retry ++ [(n, s.now + 20 * us, 0)] }) else s.scrubCtx n)

/-- SCRUB_TILE_CHECK: the next place of the pass. -/
def execScrubTileCheck (s : State) : Out :=
  whenLive s fun s =>
    let k := s.bg.scrubK
    onlyIf (s.bgOn && s.due (s.bg.scrubAt + k * s.passLen / 16384)) s fun s =>
      let s := s.scrubShared k
      let s := if k % 8 = 0 then s.scrubStrips (k / 8) else s
      if k + 1 < 16384 then s.updBg (fun x => { x with scrubK := k + 1 })
      else (s.cnt F.BGND.SCRUB_STAT.PASSES).updBg (fun x => { x with scrubK := 0, scrubAt := x.scrubAt + s.passLen })

/-- SCRUB_RETRY: a skipped tile is tried again, at most four times. -/
def execScrubRetry (s : State) : Out :=
  whenLive s fun s =>
    match s.bg.retry with
    | [] => s
    | (n, t, k) :: l => onlyIf (s.due t) s fun s =>
        let s := s.updBg (fun x => { x with retry := l })
        if !s.tileHeld (n / 2048) n then s.scrubCtx n
        else if k + 1 < 4 then s.updBg (fun x => { x with retry := x.retry ++ [(n, s.now + 20 * us, k + 1)] })
        else s.cnt F.BGND.SCRUB_STAT.SKIP

/-! ## Breakdown tracking (R152, R393) -/

/-- A multiple of 2 nearest to a quotient, on the side that the spec leaves open. -/
def State.toEven (s : State) (a n : Int) : Int × State :=
  let q := 2 * (a / (2 * n))
  if a % (2 * n) = 0 then (q, s) else (q + 2 * ((s.takeFree .unstated).1 % 2 : Nat), (s.takeFree .unstated).2)

/-- A measured V_BD joins the last 16. -/
def State.noteVbd (s : State) (d vbd : Nat) : State :=
  let l := (vbd :: Tab.get (fun _ => []) s.bg.vbd d).take 16
  let s := s.updBg (fun x => { x with vbd := Tab.put x.vbd d l, vbdAt := Tab.put x.vbdAt d s.now })
  let r := s.toEven (l.foldl (· + ·) 0 : Nat) l.length
  r.2.setFld F.STRIP.BIAS_STAT.VBD r.1.toNat d

/-- The V_A that tracking requires; one outside 0 V to 8 V is a bias failure, and the spec states no V_A then. -/
def State.trackVa (s : State) (d vspad : Nat) : State :=
  let need : Int := (vspad : Int) - s.fld F.STRIP.BIAS_STAT.VBD d - clampN 1000 5000 (s.fld F.STRIP.BIAS_CFG.VEX d)
  let r := s.toEven need 1
  let bad := decide (need < 0 ∨ 8000 < need)
  let s := if bad then (s.takeFree .unstated).2 else r.2
  let v := if bad then (r.2.takeFree .unstated).1 % 4001 * 2 else r.1.toNat
  let s := if bad && !s.flag F.STRIP.RX_STAT.BIAS_ERR d then s.setBiasErr [d] else s
  if (s.strip d).vaFirst then s.setStrip d { s.strip d with vaNext := some v }
  else (s.setFld F.STRIP.BIAS_STAT.VA v d).setStrip d { s.strip d with vaNext := none }

/-- BREAKDOWN_MEASUREMENT: at once at power-up, then every 1 ms. -/
def execBreakdownMeasurement (d : Fin 24) (vbd vspad : BitVec 16) (s : State) : Out :=
  whenLive s fun s =>
    let due := !(s.strip d).vaFirst || s.due (Tab.get (fun _ => 0) s.bg.vbdAt d + ms)
    onlyIf (s.flag F.STRIP.RX_STAT.POWERED d && due) s fun s =>
      let s := s.noteVbd d vbd.toNat
      let s := if s.flag F.STRIP.BIAS_CFG.TRACK d then s.trackVa d vspad.toNat else s
      s.setStrip d { s.strip d with vaFirst := true }

/-! ## Hot SPADs (R394) -/

/-- A list of counts in rising order. -/
def insertUp (n : Nat) : List Nat → List Nat
  | [] => [n]
  | m :: t => if n ≤ m then n :: m :: t else m :: insertUp n t
def sortUp (l : List Nat) : List Nat := l.foldr insertUp []

/-- SPAD n of a domain, as the receiver numbers SPADs: 256 v + u. -/
def spadOf (d n : Nat) : Nat := 256 * (4 * d + n / 256) + n % 256

/-- A sum of 64 windows is hot: 1.28 ms at ABS kcps, and MULT times the median of its group. -/
def State.isHot (s : State) (sums : List Nat) (n : Nat) : Bool :=
  let l := sortUp sums
  decide (s.fld F.BGND.HOT_CFG.ABS * 128 ≤ n * 100) &&
  decide (s.fld F.BGND.HOT_CFG.MULT * (l.getD 31 0 + l.getD 32 0) ≤ 2 * n)

/-- A SPAD found hot in NPASS passes in a row is to be retired, unless the domain has reached its limit. -/
def State.hotFound (s : State) (d n : Nat) : State :=
  let due := Tab.get (fun _ => []) s.bg.hotDue d
  let p := spadOf d n
  if (s.strip d).retired.contains p || due.contains p then s
  else if (s.strip d).retired.length + due.length < 20 then
    s.updBg (fun x => { x with hotDue := Tab.put x.hotDue d (due ++ [p]) })
  else (s.cnt F.BGND.HOT_STRIP.CAP 1 d).cnt F.BGND.HOT_STAT.CAP

/-- The verdict on one SPAD of a group that has been counted. -/
def State.hotJudge (s : State) (d g : Nat) (sums : List Nat) (k : Nat) : State :=
  let key := 1024 * d + 64 * g + k
  let run := if s.isHot sums (sums.getD k 0) then Tab.get (fun _ => 0) s.bg.hotRun key + 1 else 0
  if max 1 (s.fld F.BGND.HOT_CFG.NPASS) ≤ run then
    (s.updBg (fun x => { x with hotRun := Tab.del x.hotRun key })).hotFound d (64 * g + k)
  else s.updBg (fun x => { x with hotRun := Tab.set (fun _ => 0) x.hotRun key run })

/-- A group has had its 64 windows: its SPADs are judged and the next group follows. -/
def State.hotGroupEnd (s : State) (d : Nat) (sums : List Nat) : State :=
  let g := Tab.get (fun _ => 0) s.bg.hotGrp d
  let s := forEach (List.range 64) s (fun s k => s.hotJudge d g sums k)
  let s := s.updBg (fun x => { x with hotGrp := Tab.set (fun _ => 0) x.hotGrp d ((g + 1) % 16), hotWin := Tab.del x.hotWin d
                                      hotSum := Tab.del x.hotSum d })
  if g = 15 ∧ d = 0 then s.cnt F.BGND.HOT_STAT.PASSES else s

/-- The sweep whose hot-SPAD window ends on a bank's strips: 20 µs from 5 µs after its last part left flight, none having fired
since. -/
def State.hotWindow (s : State) (b : Nat) : Option Nat :=
  match Tab.find? s.bg.flightEnd b with
  | some e => if s.inFlight b = 0 ∧ e.1 + 25 * us ≤ s.now then some e.2 else none
  | none => none

/-- HOT_SPAD_TEST_WINDOW: the end of a window, one in a sweep. -/
def execHotSpadTestWindow (d : Fin 24) (counts : List Nat) (s : State) : Out :=
  whenLive s fun s =>
    let w := s.hotWindow (d.val / 6)
    onlyIf (s.flag F.BGND.HOT_CFG.EN && s.flag F.MIRR.STAT.H_LOCKED && w.isSome && Tab.find? s.bg.hotSweep d != w) s fun s =>
      let old := Tab.get (fun _ => []) s.bg.hotSum d
      let sums := (List.range 64).map (fun k => old.getD k 0 + counts.getD k 0)
      let n := Tab.get (fun _ => 0) s.bg.hotWin d + 1
      let s := s.updBg (fun x => { x with hotSweep := Tab.put x.hotSweep d (w.getD 0), hotWin := Tab.put x.hotWin d n
                                          hotSum := Tab.put x.hotSum d sums })
      if n = 64 then s.hotGroupEnd d sums else s

/-! ## Laser ageing (R396) -/

/-- A width step of Meridian's under its semaphore. -/
def State.ageApply (s : State) (w dir : Nat) : State :=
  let n := s.fld F.BGND.AGE_CFG.SEM
  let r := s.semClaim n .meridian
  if r.1 = 0 then
    ((((r.2.stage F.FIRE.PULSE_CFG.WIDTH w).updBg (fun x => { x with ageStep := dir })).makeCommit .firing).semRelease n)
  else s.cnt F.BGND.AGE_CNT.SEMBUSY

/-- The step that an interval's mean calls for. -/
def State.ageJudge (s : State) (e : Nat) : State :=
  let r := s.fld F.BGND.AGE_STAT.E_REF
  let db := s.fld F.BGND.AGE_CFG.DB
  let w := s.act F.FIRE.PULSE_CFG.WIDTH
  if r = 0 then s
  else if e * 1000 < r * (1000 - db) ∧ w < s.fld F.BGND.AGE_CFG.W_MAX then s.ageApply (w + 1) 1
  else if r * (1000 + db) < e * 1000 ∧ s.fld F.BGND.AGE_CFG.W_MIN < w then s.ageApply (w - 1) 2
  else s

/-- The mean of an interval's tiles; how a mean is rounded the spec leaves open. -/
def State.ageMean (s : State) : Nat × State :=
  let q := s.mon.ageSum / s.mon.ageN
  if s.mon.ageSum % s.mon.ageN = 0 then (q, s)
  else (q + (s.takeFree .unstated).1 % 2, (s.takeFree .unstated).2)

/-- AGEING_INTERVAL_END. -/
def execAgeingIntervalEnd (s : State) : Out :=
  whenLive s fun s =>
    let ivl : Int := (max 1 (s.fld F.BGND.AGE_CFG.IVL) : Nat) * 1000 * ms
    onlyIf (s.bgOn && s.due (s.bg.ageAt + ivl)) s fun s =>
      let on := s.flag F.BGND.AGE_CFG.AUTO && s.flag F.MON.AVG_CFG.EN
      let had := s.mon.ageN != 0
      let r := if on && had then s.ageMean else (0, s)
      let cap := s.bg.capNow && on && had
      let s := r.2.updBg (fun x =>
        { x with ageAt := x.ageAt + ivl, capNow := x.capNext || (x.capNow && !cap), capNext := false })
      let s := { s with mon := { s.mon with ageSum := 0, ageN := 0 } }
      if !on then s
      else if !had then s.setBit F.BGND.AGE_STAT.NODATA true
      else
        let s := (s.setBit F.BGND.AGE_STAT.NODATA false).setFld F.BGND.AGE_STAT.E_MEAN r.1
        if cap then s.setFld F.BGND.AGE_STAT.E_REF r.1 else s.ageJudge r.1

/-! ## Almanac (R397, R398) -/

/-- A word from its fields: value, highest and lowest bit; a count saturates. -/
def packWord (l : List (Nat × Nat × Nat)) : Word :=
  BitVec.ofNat 48 (l.foldl (fun w p => w + min p.1 (2 ^ (p.2.1 + 1 - p.2.2) - 1) * 2 ^ p.2.2) 0)

/-- Words 1 to 6 of a record. -/
def State.almanacHead (s : State) : List Word :=
  let temp (v : Int) : Nat := unsigned 24 v
  [ s.timeNow, packWord [(s.epoch, 47, 16), (s.fld F.BGND.ALM_STAT.ASEQ, 15, 0)],
    packWord ([0, 1, 2, 3].map (fun k => (s.fld F.SAFE.SIN_CFG.FUNC 0 k, 2 * k + 41, 2 * k + 40)) ++
      [ (s.fld F.SAFE.SIN_STAT.CLOSED, 39, 36), (s.fld F.SAFE.DEG_STAT.DROP, 35, 32), (s.fltWord.toNat, 31, 7),
        (s.dev.mode.code, 2, 0) ]),
    BitVec.ofNat 48 (s.heldAt fldsDEV 0x1000018),
    packWord [(temp (Tab.get (fun _ => 0) s.afe.temps 23), 47, 24), (temp s.mirr.temp, 23, 0)],
    packWord [(s.bg.fired, 47, 24), (s.bg.skipped, 23, 0)] ]

/-- Words 7 to 12. -/
def State.almanacTail (s : State) : List Word :=
  let ds := List.range 24
  let vbd := ds.map (fun d => s.fld F.STRIP.BIAS_STAT.VBD d)
  let vex := ds.map (fun d => s.fld F.STRIP.BIAS_STAT.VEX_M d)
  [ packWord [(s.bg.points, 47, 24), (s.bg.discarded, 23, 0)],
    packWord [(s.bg.ctxFail, 47, 32), (s.bg.ssFail, 31, 16), (s.fld F.BGND.SCRUB_STAT.PASSES, 15, 0)],
    packWord [((ds.map s.calAge).foldl max 0, 47, 32),
      ((ds.map (fun d => s.fld F.STRIP.RX_STAT.RET_CH d)).foldl (· + ·) 0, 31, 24), (s.fld F.BGND.HOT_STAT.RETIRED, 23, 12)],
    packWord [(vbd.foldl min 65535, 47, 32), (vbd.foldl max 0, 31, 16), (vex.foldl min 65535, 15, 0)],
    packWord [(s.fld F.BGND.AGE_STAT.E_MEAN, 47, 32), (s.act F.FIRE.PULSE_CFG.WIDTH, 31, 24),
      (bitMap ((List.range 4).map (fun k => (s.rail k).onBk)), 23, 20)],
    packWord [(s.linkLoad 0, 41, 28), (s.linkLoad 1, 27, 14), (s.linkLoad 2, 13, 0)] ]

/-- ALMANAC_RECORD: the record counts in ASEQ and bears that number; its own counts start afresh. -/
def execAlmanacRecord (s : State) : Out :=
  whenLive s fun s =>
    match s.bg.almAt with
    | none => s
    | some t =>
      let next : Inst := t + (max 1 (s.fld F.BGND.ALM_CFG.IVL) : Nat) * 10 * ms
      onlyIf (s.due next) s fun s =>
        let s := s.cnt F.BGND.ALM_STAT.ASEQ
        let r := s.sendEvent 3 2 (s.almanacHead ++ s.almanacTail)
        let s := if r.2 then r.1 else r.1.cnt F.BGND.ALM_STAT.UNSENT
        s.updBg (fun x => { x with almAt := some next, fired := 0, skipped := 0, points := 0, discarded := 0, ctxFail := 0
                                   ssFail := 0 })

end Sys2Proof.Machine
end

