-- ==== Sys2Proof/Machine/Crypto.lean ====
section
/-!
DEFINITION. SHA-256 and the verification of an ECDSA P-256 signature, which the boot checks use (spec/13_modes_startup.md R304).
The spec names both and defines neither: they are as FIPS 180-4 and FIPS 186-4 have them (log entry 88).
-/
namespace Sys2Proof.Machine

/-! ## SHA-256 -/

/-- The round constants. -/
def shaK : List Nat :=
  [0x428A2F98, 0x71374491, 0xB5C0FBCF, 0xE9B5DBA5, 0x3956C25B, 0x59F111F1, 0x923F82A4, 0xAB1C5ED5] ++
  [0xD807AA98, 0x12835B01, 0x243185BE, 0x550C7DC3, 0x72BE5D74, 0x80DEB1FE, 0x9BDC06A7, 0xC19BF174] ++
  [0xE49B69C1, 0xEFBE4786, 0x0FC19DC6, 0x240CA1CC, 0x2DE92C6F, 0x4A7484AA, 0x5CB0A9DC, 0x76F988DA] ++
  [0x983E5152, 0xA831C66D, 0xB00327C8, 0xBF597FC7, 0xC6E00BF3, 0xD5A79147, 0x06CA6351, 0x14292967] ++
  [0x27B70A85, 0x2E1B2138, 0x4D2C6DFC, 0x53380D13, 0x650A7354, 0x766A0ABB, 0x81C2C92E, 0x92722C85] ++
  [0xA2BFE8A1, 0xA81A664B, 0xC24B8B70, 0xC76C51A3, 0xD192E819, 0xD6990624, 0xF40E3585, 0x106AA070] ++
  [0x19A4C116, 0x1E376C08, 0x2748774C, 0x34B0BCB5, 0x391C0CB3, 0x4ED8AA4A, 0x5B9CCA4F, 0x682E6FF3] ++
  [0x748F82EE, 0x78A5636F, 0x84C87814, 0x8CC70208, 0x90BEFFFA, 0xA4506CEB, 0xBEF9A3F7, 0xC67178F2]

/-- The initial hash value. -/
def shaInit : List Nat :=
  [0x6A09E667, 0xBB67AE85, 0x3C6EF372, 0xA54FF53A, 0x510E527F, 0x9B05688C, 0x1F83D9AB, 0x5BE0CD19]

/-- A 32-bit word rotated right by n. -/
def rotr (x n : Nat) : Nat := x / 2 ^ n + x % 2 ^ n * 2 ^ (32 - n)
def sha3 (x y z : Nat) : Nat := Nat.xor (Nat.xor x y) z

/-- The message schedule, newest word first: n more words. -/
def shaWords : Nat → List Nat → List Nat
  | 0, w => w
  | n + 1, w =>
    let a := w.getD 1 0
    let b := w.getD 14 0
    shaWords n ((sha3 (rotr a 17) (rotr a 19) (a / 2 ^ 10) + w.getD 6 0 + sha3 (rotr b 7) (rotr b 18) (b / 2 ^ 3) +
      w.getD 15 0) % 2 ^ 32 :: w)

/-- One round, with its constant and its word. -/
def shaRound (v : List Nat) (k w : Nat) : List Nat :=
  match v with
  | [a, b, c, d, e, f, g, h] =>
    let ch := Nat.xor (Nat.land e f) (Nat.land (4294967295 - e) g)
    let maj := sha3 (Nat.land a b) (Nat.land a c) (Nat.land b c)
    let t := h + sha3 (rotr e 6) (rotr e 11) (rotr e 25) + ch + k + w
    [(t + sha3 (rotr a 2) (rotr a 13) (rotr a 22) + maj) % 2 ^ 32, a, b, c, (d + t) % 2 ^ 32, e, f, g]
  | _ => v

/-- One block of 16 words into the hash value. -/
def shaBlock (h ws : List Nat) : List Nat :=
  let w := (shaWords 48 ws.reverse).reverse
  List.zipWith (fun x y => (x + y) % 2 ^ 32) h ((shaK.zip w).foldl (fun v p => shaRound v p.1 p.2) h)

/-- Bytes as a number, most significant first. -/
def bytesNum (bs : List Nat) : Nat := bs.foldl (fun a b => a * 256 + b) 0

/-- n blocks of 64 bytes into the hash value. -/
def shaBlocks : Nat → List Nat → List Nat → List Nat
  | 0, h, _ => h
  | n + 1, h, bs =>
    shaBlocks n (shaBlock h ((List.range 16).map (fun i => bytesNum ((bs.drop (4 * i)).take 4)))) (bs.drop 64)

/-- SHA-256 of a byte string, as a number. -/
def sha256 (bs : List Nat) : Nat :=
  let n := (bs.length + 72) / 64
  let len := (List.range 8).map (fun i => 8 * bs.length / 256 ^ (7 - i) % 256)
  let padded := bs ++ [0x80] ++ List.replicate (64 * n - bs.length - 9) 0 ++ len
  (shaBlocks n shaInit padded).foldl (fun a x => a * 2 ^ 32 + x) 0

/-! ## The curve P-256 -/

/-- The field, the order of the base point, the coefficient b, and the base point. -/
def p256p : Nat := 0xFFFFFFFF00000001000000000000000000000000FFFFFFFFFFFFFFFFFFFFFFFF
def p256n : Nat := 0xFFFFFFFF00000000FFFFFFFFFFFFFFFFBCE6FAADA7179E84F3B9CAC2FC632551
def p256b : Nat := 0x5AC635D8AA3A93E7B3EBBD55769886BC651D06B0CC53B0F63BCE3C3E27D2604B
def p256g : Nat × Nat :=
  (0x6B17D1F2E12C4247F8BCE6E563A440F277037D812DEB33A0F4A13945D898C296,
    0x4FE342E2FE1A7F9B8EE7EB4A7C0F9E162BCE33576B315ECECBB6406837BF51F5)

/-- Difference modulo m of numbers below it. -/
def subMod (m a b : Nat) : Nat := (a + m - b) % m

/-- x ^ e modulo m, by the low n bits of e. -/
def powMod (m : Nat) : Nat → Nat → Nat → Nat
  | 0, _, _ => 1 % m
  | n + 1, x, e => (if e % 2 = 1 then x else 1) * powMod m n (x * x % m) (e / 2) % m

/-- The inverse modulo a prime. -/
def invMod (m x : Nat) : Nat := powMod m 256 x (m - 2)

/-- A point (X / Z², Y / Z³); Z is 0 at infinity. -/
structure EcPt where
  x : Nat
  y : Nat
  z : Nat
  deriving DecidableEq, Repr

/-- The point at infinity. -/
def ecInf : EcPt := ⟨1, 1, 0⟩

/-- Twice a point. -/
def ecDbl (a : EcPt) : EcPt :=
  let p := p256p
  let yy := a.y * a.y % p
  let s := 4 * a.x * yy % p
  let zz := a.z * a.z % p
  let m := 3 * subMod p a.x zz * (a.x + zz) % p
  let x := subMod p (m * m % p) (2 * s % p)
  ⟨x, subMod p (m * subMod p s x % p) (8 * yy * yy % p), 2 * a.y * a.z % p⟩

/-- The sum of two points. -/
def ecAdd (a b : EcPt) : EcPt :=
  let p := p256p
  if a.z = 0 then b
  else if b.z = 0 then a
  else
    let za := a.z * a.z % p
    let zb := b.z * b.z % p
    let u := a.x * zb % p
    let h := subMod p (b.x * za % p) u
    let s := a.y * b.z * zb % p
    let r := subMod p (b.y * a.z * za % p) s
    if h = 0 then (if r = 0 then ecDbl a else ecInf)
    else
      let hh := h * h % p
      let hhh := h * hh % p
      let v := u * hh % p
      let x := subMod p (subMod p (r * r % p) hhh) (2 * v % p)
      ⟨x, subMod p (r * subMod p v x % p) (s * hhh % p), a.z * b.z * h % p⟩

/-- The low n bits of k, as a multiple of a point, behind what the higher bits have made. -/
def ecMul (a : EcPt) (k : Nat) : Nat → EcPt → EcPt
  | 0, acc => acc
  | n + 1, acc => ecMul a k n (if k.testBit n then ecAdd (ecDbl acc) a else ecDbl acc)

/-! ## Verification -/

/-- The key's coordinates are a point of the curve. -/
def onCurve (x y : Nat) : Bool :=
  decide (x < p256p ∧ y < p256p) && y * y % p256p == (x * x * x + (p256p - 3) * x + p256b) % p256p

/-- A signature r ‖ s of a message verifies under a key X ‖ Y, each 64 bytes. -/
def ecdsaOk (key sig msg : List Nat) : Bool :=
  let qx := bytesNum (key.take 32)
  let qy := bytesNum (key.drop 32)
  let r := bytesNum (sig.take 32)
  let s := bytesNum (sig.drop 32)
  let n := p256n
  if !onCurve qx qy || r = 0 || n ≤ r || s = 0 || n ≤ s then false
  else
    let w := invMod n s
    let u := ecMul ⟨p256g.1, p256g.2, 1⟩ (sha256 msg * w % n) 256 ecInf
    let v := ecMul ⟨qx, qy, 1⟩ (r * w % n) 256 ecInf
    let t := ecAdd u v
    let zi := invMod p256p t.z
    t.z != 0 && t.x * (zi * zi % p256p) % p256p % n == r

end Sys2Proof.Machine
end

