-- ==== Sys2Proof/Machine/Boot.lean ====
section
/-!
DEFINITION. The boot image, its checks and the host load (spec/13_modes_startup.md R302 to R309).
-/
namespace Sys2Proof.Machine

/-- A boot image as its words are numbered: tile t, word w at 48 t + w. -/
abbrev Image := Nat → Word

/-- The words of an image read from flash. -/
def flashImage (ws : List Word) : Image := fun k => ws.getD k 0

/-- The words of a host's image, staged from a tile on; past the end of the store the spec states none (log entry 80). -/
def State.stagedImage (s : State) (src : Nat) : Image := fun k =>
  if src + k / 48 < ssTiles then s.rdMem (ssBase + 48 * src + k)
  else BitVec.ofNat 48 (Config.free .unstated (s.free + k))

/-! ## The manifest (R303) -/

/-- NSEC; the descriptor of section i: TYPE, DEST, NTILE. -/
def nsec (m : Image) : Nat := bits (m 0) 7 0
def secType (m : Image) (i : Nat) : Nat := bits (m (1 + i)) 47 44
def secDest (m : Image) (i : Nat) : Nat := bits (m (1 + i)) 41 28
def secTiles (m : Image) (i : Nat) : Nat := bits (m (1 + i)) 27 14

/-- Tiles of the first i sections. -/
def tilesBefore (m : Image) (i : Nat) : Nat := (List.range i).foldl (fun a k => a + secTiles m k) 0

/-- Tiles of the image, manifest included. -/
def imageTiles (m : Image) : Nat := 1 + tilesBefore m (min 16 (nsec m))

/-- Sections of a type. -/
def sectionsOf (m : Image) (t : Nat) : List Nat := (List.range (min 16 (nsec m))).filter (fun i => secType m i == t)

/-- The 0 fields of the manifest; word 47 of a host's manifest holds its check word (log entry 81). -/
def zeroFields (m : Image) (host : Bool) : Bool :=
  zeroBits' (m 0) 15 8 && (List.range 16).all (fun i =>
    if nsec m ≤ i then m (1 + i) == 0
    else zeroBits' (m (1 + i)) 43 42 && zeroBits' (m (1 + i)) 13 0 && (secType m i == 2 || secDest m i == 0)) &&
  zeroBits' (m 27) 15 0 && zeroBits' (m 38) 15 0 &&
  (List.range 9).all (fun i => (host && i == 8) || m (39 + i) == 0)
where
  zeroBits' (w : Word) (hi lo : Nat) : Bool := bits w hi lo == 0

/-- Two runs of tiles share none. -/
def apart (a n b k : Nat) : Bool := decide (a + n ≤ b ∨ b + k ≤ a)

/-- Bytes of a word, most significant first. -/
def wordBytes (w : Word) : List Nat := [5, 4, 3, 2, 1, 0].map (fun i => bits w (8 * i + 7) (8 * i))

/-- 64 bytes packed six to a word from word k on. -/
def packed (m : Image) (k : Nat) : List Nat := ((List.range 11).flatMap (fun i => wordBytes (m (k + i)))).take 64

/-- The signed message. -/
def message (m : Image) : List Nat :=
  ((List.range 17).flatMap (fun i => wordBytes (m i))) ++
  (List.range (imageTiles m - 1)).flatMap (fun t => (List.range 47).flatMap (fun w => wordBytes (m (48 * (1 + t) + w))))

/-! ## The checks (R304) -/

/-- Checks 1 to 5: the number of the first that fails. `stage` is the first staging tile of a host load. -/
def State.bootErr (s : State) (m : Image) (stage : Option Nat) : Option Nat :=
  let data := sectionsOf m 2
  if bits (m 0) 47 32 ≠ 0x4B42 then some 1
  else if !(zeroFields m stage.isSome && decide (1 ≤ nsec m ∧ nsec m ≤ 16) && decide ((sectionsOf m 0).length = 1) &&
      decide ((sectionsOf m 1).length = 1)) then some 2
  else if !(data.all (fun i => decide (secDest m i + secTiles m i ≤ ssTiles) &&
      data.all (fun j => i == j || apart (secDest m i) (secTiles m i) (secDest m j) (secTiles m j)) &&
      stage.all (fun q => apart (secDest m i) (secTiles m i) q (imageTiles m)))) then some 3
  else if s.fuses.keyHash.any (fun h => sha256 (packed m 17) != h) then some 4
  else if !ecdsaOk (packed m 17) (packed m 28) (message m) then some 5
  else none

/-- TYPE 2 tiles reach the shared store. -/
def State.placeData (s : State) (m : Image) : State :=
  (sectionsOf m 2).foldl (fun s i => forEach (List.range (secTiles m i)) s (fun s t =>
    s.wrTile (ctxTiles + secDest m i + t)
      ((List.range 47).map (fun w => m (48 * (1 + tilesBefore m i + t) + w))))) s

/-- A failed boot (R307). -/
def State.bootFail (s : State) (err : Nat) : State :=
  let s := (s.setFld F.DEV.BOOT_STAT.ERR err).setBit F.DEV.BOOT_STAT.BUSY false
  { s with dev := { s.dev with boot := .hostWait } }

/-- A good boot: IDLE is entered and what BOOT has flagged is judged. -/
def State.bootDone (s : State) (m : Image) (used : Nat) : State :=
  let s := (s.setFld F.DEV.BOOT_STAT.VERSION (bits (m 0) 31 16)).setFld F.DEV.BOOT_STAT.USED used
  let s := s.setBit F.DEV.BOOT_STAT.BUSY false
  ({ s with dev := { s.dev with boot := .done } }.enterMode .idle).bootJudge

/-- The checks of an image, from a source: USED, and the first staging tile of a host load. -/
def State.bootCheck (s : State) (m : Image) (used : Nat) (stage : Option Nat) (env : BootEnv) : State :=
  let s := if stage.isSome then { s with free := s.free + 48 * (imageTiles m + 1) } else s
  let err := s.bootErr m stage
  let s := if s.fuses.keyHash.isNone && !err.any (fun e => decide (e < 4)) then s.setBit F.DEV.BOOT_STAT.OPEN true else s
  match err with
  | some e => s.bootFail e
  | none =>
    let s := s.placeData m
    let s := (s.setBit F.SAFE.STAT.SELFTEST env.selfTest).setBit F.SAFE.STAT.LOCKSTEP_OK env.selfTest
    if !env.selfTest then s.bootFail 6
    else if 10922 < imageTiles m || (stage.isNone && !env.readOk) then s.bootFail 7
    else s.bootDone m used

/-- BOOT_CHECKS_DONE. -/
def execBootChecksDone (env : BootEnv) (s : State) : Out :=
  whenLive s fun s => onlyIf (s.dev.mode = .boot) s fun s =>
    match s.dev.boot with
    | .qspi => s.bootCheck (flashImage env.flash) 0 none env
    | .hostCheck =>
      let src := s.fld F.DEV.BOOT_CTRL.SRC
      s.bootCheck (s.stagedImage src) s.dev.bootPort (some src) env
    | _ => s

/-! ## The host load (R302, R306, R365) -/

/-- The ports whose BOOT_CTRL writes are accepted. -/
def State.bootPortOk (s : State) (a : Accessor) : Bool :=
  let sel := s.fld F.DEV.BOOT_STAT.SEL
  (a == .portA && sel != 2) || (a == .portB && sel != 1)

/-- A write of BOOT_CTRL. -/
def State.wrBootCtrl (s : State) (a : Accessor) (v : Word) : WRes :=
  if !s.bootPortOk a then (s, some .refused)
  else if !v.getLsbD 16 then (s.setFld F.DEV.BOOT_CTRL.SRC (bits v 13 0), none)
  else if s.dev.mode ≠ .boot ∨ s.flag F.DEV.BOOT_STAT.BUSY then (s, some .refused)
  else
    let s := (s.setFld F.DEV.BOOT_CTRL.SRC (bits v 13 0)).setFld F.DEV.BOOT_STAT.ERR 0
    let s := s.setBit F.DEV.BOOT_STAT.BUSY true
    ({ s with dev := { s.dev with boot := .hostCheck, bootPort := if a = .portA then 1 else 2 } }, none)

end Sys2Proof.Machine
end

