-- ==== Sys2Proof/Machine/Control.lean ====
section
/-!
DEFINITION. The tile-buffer and shared-store instructions and control transfer (spec/11_ivqua_instructions.md R255, R256).
-/
namespace Sys2Proof.Machine

/-- Effective address of the Immediate format: G[a] + sx(imm24), modulo 2^48. -/
def Core.ea (x : Core) (w : BitVec 40) : Nat := (x.rd (fieldA w) + sxImm w).toNat

/-- LD. -/
def execLd (c : Fin 12) (w : BitVec 40) (s : State) : Out :=
  .next (s.issue c 0x20 w .common (immLegal w) fun s =>
    if inBuffer ((s.core c).ea w) then .ok (s.updCore c fun x => x.wr (fieldD w) (x.rdB (x.ea w))) else .error tADDR)

/-- ST. -/
def execSt (c : Fin 12) (w : BitVec 40) (s : State) : Out :=
  .next (s.issue c 0x21 w .common (immLegal w) fun s =>
    if inBuffer ((s.core c).ea w) then .ok (s.updCore c fun x => x.wrB (x.ea w) (x.rd (fieldD w))) else .error tADDR)

/-- LDT (R226). -/
def execLdt (c : Fin 12) (w : BitVec 40) (s : State) : Out :=
  .next (s.issue c 0x22 w .common (immLegal w && decide (fieldD w ≤ 1)) fun s =>
    let n := (s.core c).ea w
    if ssTiles ≤ n then .error tADDR
    else
      let ws := s.rdTile (ctxTiles + n)
      if tileOk ws (ctxTiles + n) then .ok (s.updCore c fun x => x.putB (64 * fieldD w) ws) else .error tTILE)

/-- A tile lies in the core's STT window (R226). -/
def State.inStt (s : State) (c n : Nat) : Bool :=
  let b := s.fld F.CORE.STT_WIN.BASE c
  decide (b ≤ n ∧ n < b + s.fld F.CORE.STT_WIN.COUNT c ∧ n < ssTiles)

/-- STT (R226). -/
def execStt (c : Fin 12) (w : BitVec 40) (s : State) : Out :=
  .next (s.issue c 0x23 w .common (immLegal w && decide (fieldD w ≤ 1)) fun s =>
    let x := s.core c
    if s.inStt c (x.ea w) then .ok (s.wrTile (ctxTiles + x.ea w) (x.getB (64 * fieldD w) 47)) else .error tADDR)

/-! ## Control transfer (R256) -/

/-- The target of a branch, seen with the PC advanced past it. -/
def Core.target (x : Core) (w : BitVec 40) : Int := (x.pc : Int) - 1 + branchOff w

/-- A target lies in the image. -/
def Core.inImage (x : Core) (t : Int) : Bool := decide (0 ≤ t ∧ t < 47 * (x.ntile : Int))

/-- Go to a branch's target. -/
def Core.goto (x : Core) (w : BitVec 40) : Core := { x with pc := (x.target w).toNat }

/-- Take a branch: a target outside the image traps. -/
def State.jump (s : State) (c : Nat) (w : BitVec 40) (f : Core → Core) : Except Nat State :=
  if (s.core c).inImage ((s.core c).target w) then .ok (s.updCore c fun x => f (x.goto w)) else .error tADDR

/-- BR. -/
def execBr (c : Fin 12) (w : BitVec 40) (s : State) : Out :=
  .next (s.issue c 0x28 w .common (branchLegal w && fieldA w == 0 && decide (fieldD w ≤ 9)) fun s =>
    if (s.core c).cond (s.evTrue c) (fieldD w) then s.jump c w id else .ok s)

/-- CALL. -/
def execCall (c : Fin 12) (w : BitVec 40) (s : State) : Out :=
  .next (s.issue c 0x29 w .common (branchLegal w && fieldA w == 0 && fieldD w == 0) fun s =>
    if 16 ≤ (s.core c).stack.length then .error tSTACK
    else s.jump c w (fun x => { x with stack := ((s.core c).pc, false) :: x.stack }))

/-- RET. -/
def execRet (c : Fin 12) (w : BitVec 40) (s : State) : Out :=
  .next (s.issue c 0x2A w .common (regLegal0 w) fun s =>
    match (s.core c).stack with
    | [] => .error tSTACK
    | (a, trap) :: t =>
      let s := s.updCore c (fun x => { x with pc := a, stack := t })
      .ok (if trap then s.setBit F.CORE.STAT.TRAP_ACTIVE false c else s))

/-- LOOP. -/
def execLoop (c : Fin 12) (w : BitVec 40) (s : State) : Out :=
  .next (s.issue c 0x2B w .common (branchLegal w && fieldD w == 0 && fieldA w != 0) fun s =>
    let v := (s.core c).rd (fieldA w) - 1
    if v = 0 then .ok (s.updCore c fun x => x.wr (fieldA w) v)
    else s.jump c w (fun x => x.wr (fieldA w) v))

end Sys2Proof.Machine
end

