-- ==== Sys2Proof/Machine/Vector.lean ====
section
/-!
DEFINITION. The Reticle vector instructions (spec/11_ivqua_instructions.md R269).
-/
namespace Sys2Proof.Machine

/-- Lane i of a vector: 12 bits (R224). -/
def lane (v : Word) (i : Nat) : Nat := bits v (12 * i + 11) (12 * i)

/-- A vector from its four lanes, each modulo 4,096. -/
def lanes4 (f : Nat → Nat) : Word :=
  BitVec.ofNat 48 (f 0 % 4096 + f 1 % 4096 * 2 ^ 12 + f 2 % 4096 * 2 ^ 24 + f 3 % 4096 * 2 ^ 36)

/-- All three fields name V registers. -/
def vLegal (w : BitVec 40) : Bool := regLegal w && isV (fieldD w) && isV (fieldA w) && isV (fieldB w)

/-- A lane-wise operation on two V registers. -/
def Core.vop (x : Core) (w : BitVec 40) (f : Nat → Nat → Nat) : Core :=
  x.wrV (fieldD w) (lanes4 (fun i => f (lane (x.rdV (fieldA w)) i) (lane (x.rdV (fieldB w)) i)))

/-- VLD. -/
def execVld (c : Fin 12) (w : BitVec 40) (s : State) : Out :=
  .next (s.issue c 0x51 w .rtl (immLegal w && isV (fieldD w)) fun s =>
    if inBuffer ((s.core c).ea w) then .ok (s.updCore c fun x => x.wrV (fieldD w) (x.rdB (x.ea w))) else .error tADDR)

/-- VST. -/
def execVst (c : Fin 12) (w : BitVec 40) (s : State) : Out :=
  .next (s.issue c 0x52 w .rtl (immLegal w && isV (fieldD w)) fun s =>
    if inBuffer ((s.core c).ea w) then .ok (s.updCore c fun x => x.wrB (x.ea w) (x.rdV (fieldD w))) else .error tADDR)

/-- VADD. -/
def execVadd (c : Fin 12) (w : BitVec 40) (s : State) : Out :=
  .next (s.issueCore c 0x53 w .rtl (vLegal w) fun x => x.vop w (fun a b => min 4095 (a + b)))

/-- VSUB. -/
def execVsub (c : Fin 12) (w : BitVec 40) (s : State) : Out :=
  .next (s.issueCore c 0x54 w .rtl (vLegal w) fun x => x.vop w (fun a b => a - b))

/-- VMAX. -/
def execVmax (c : Fin 12) (w : BitVec 40) (s : State) : Out :=
  .next (s.issueCore c 0x55 w .rtl (vLegal w) fun x => x.vop w max)

/-- VMIN. -/
def execVmin (c : Fin 12) (w : BitVec 40) (s : State) : Out :=
  .next (s.issueCore c 0x56 w .rtl (vLegal w) fun x => x.vop w min)

/-- The sum of the four lanes. -/
def laneSum (v : Word) : Nat := lane v 0 + lane v 1 + lane v 2 + lane v 3

/-- VSUM. -/
def execVsum (c : Fin 12) (w : BitVec 40) (s : State) : Out :=
  .next (s.issueCore c 0x57 w .rtl (regLegalDA w && isV (fieldA w)) fun x =>
    { x.wr (fieldD w) (BitVec.ofNat 48 (laneSum (x.rdV (fieldA w)))) with
      zf := laneSum (x.rdV (fieldA w)) == 0, nf := false })

/-- VSHR. -/
def execVshr (c : Fin 12) (w : BitVec 40) (s : State) : Out :=
  .next (s.issueCore c 0x58 w .rtl (fieldB w == 0 && decide (low28 w < 16) && isV (fieldD w) && isV (fieldA w)) fun x =>
    x.wrV (fieldD w) (lanes4 (fun i => lane (x.rdV (fieldA w)) i / 2 ^ (low28 w))))

end Sys2Proof.Machine
end

