-- ==== Sys2Proof/Machine/CellOps.lean ====
section
/-!
DEFINITION. The Reticle cell instructions (spec/11_ivqua_instructions.md R270 to R277, spec/09_rejection_points.md R200, R201,
R212 to R219).
-/
namespace Sys2Proof.Machine

/-! ## CPOP (R26, R239, R271) -/

/-- The oldest entry over the close queues of a set of strips, with its strip: the lower strip on a tie. -/
def State.oldest (s : State) (set : Nat) : Option (Nat × CqE) :=
  (List.range 24).foldl (fun o d =>
    if set.testBit d then
      match oldestOf (s.strip d).cq, o with
      | none, _ => o
      | some e, none => some (d, e)
      | some e, some (d', e') => if e.at_ < e'.at_ then some (d, e) else some (d', e')
    else o) none

/-- The point time of a cell: its close as a held instant; of a tile re-initialised or written since, its word 35 (R202). -/
def State.pointTime (s : State) (d n : Nat) : Inst :=
  match Tab.find? (s.strip d).clAt n with
  | some t => t
  | none => s.instOf (s.rdMem (48 * n + 35))

/-- Sets taken over from a core leave the cores that hold them (R240). -/
def State.takeBack (s : State) (c : Nat) : State :=
  forEach (reticles.filter (· != c)) s (fun s j => s.updCore j (fun y => { y with adopted := Tab.del y.adopted c }))

/-- CPOP completes with an entry: the tile is checked and loaded, and the cell becomes current. -/
def State.popCell (s : State) (c rd d : Nat) (e : CqE) : State :=
  let n := bits e.entry 15 0
  let s := s.setStrip d { s.strip d with cq := (s.strip d).cq.erase e }
  let r := s.checkTile n
  let s := r.2
  let v := if r.1 then e.entry else setBits e.entry 47 47 1
  let s := if v.getLsbD 47 then s.cnt F.STRIP.CTX_CNT0.BAD_DLV 1 d else s
  let t := s.pointTime d n
  let s := s.setStrip d { s.strip d with clAt := Tab.del (s.strip d).clAt n }
  let ws := s.rdTile n
  (s.updCore c (fun x => { (x.putB 0 ws).wr rd v with cell := some { entry := v, tpt := t, emits := [] } })).takeBack c

/-- The core waits in CPOP. -/
def Wait.isCell : Wait → Bool
  | .cell _ => true
  | _ => false

/-- A waiting core's CPOP completes if an entry is there for it. -/
def State.cpopResume (s : State) (c : Nat) : State :=
  match (s.core c).wait with
  | .cell rd =>
    match s.oldest (s.svcEff c) with
    | some (d, e) => (s.coreResume c).popCell c rd d e
    | none => s
  | _ => s

/-- Lower-numbered cores that wait for the strip of a core's oldest entry take theirs first (R239). -/
def State.cpopBefore (s : State) (c : Nat) : State :=
  forEach (reticles.filter (fun j => decide (j < c))) s (fun s j =>
    if (s.oldest (s.svcEff j)).map (·.1) = (s.oldest (s.svcEff c)).map (·.1) then s.cpopResume j else s)

/-- CPOP. -/
def execCpop (c : Fin 12) (w : BitVec 40) (s : State) : Out :=
  .next (s.issue c 0x50 w .rtl (regLegalD w) fun s =>
    if (s.core c).cell.isSome then .error tCELL
    else
      let s := (s.updCore c (fun x => { x with svc := some (s.fld F.RTL.SVC.SET (rtl c)) })).cpopBefore c
      match s.oldest (s.svcEff c) with
      | some (d, e) => .ok (s.popCell c (fieldD w) d e)
      | none => .ok (s.coreWait c (.cell (fieldD w))))

/-- CPOP_RESUME: an entry has become available. -/
def execCpopResume (c : Fin 12) (s : State) : Out :=
  whenLive s fun s => onlyIf (s.core c).wait.isCell s fun s => (s.cpopBefore c).cpopResume c

/-! ## BGND (R272) -/

/-- Bin i of the words from a base: four to a word (R179). -/
def Core.bin (x : Core) (base i : Nat) : Nat := lane (x.rdB (base + i / 4)) (i % 4)

/-- A number put in order into a rising list. -/
def insertN (n : Nat) : List Nat → List Nat
  | [] => [n]
  | a :: t => if n ≤ a then n :: a :: t else a :: insertN n t

/-- The sum of the eight lowest coarse bins. -/
def Core.floor8 (x : Core) : Nat :=
  ((((List.range 32).map (x.bin 24)).foldl (fun l n => insertN n l) []).take 8).foldl (· + ·) 0

/-- The ambient measure. -/
def Core.ambient (x : Core) (l : Nat) : Nat :=
  let n := bits (x.rdB 32) 47 40
  let dark := bits (x.rdB 33) 11 4
  let dstops := bits (x.rdB 34) 47 24
  if l = 0 then 0
  else if 4 ≤ dark then dstops * 1250 / (dark * l)
  else if n = 0 then 0
  else x.floor8 * 20000 / (n * l)

/-- BGND. -/
def execBgnd (c : Fin 12) (w : BitVec 40) (s : State) : Out :=
  .next (s.issueCore c 0x5A w .rtl (regLegalDA w && fieldD w != 0 && fieldD w != 15) fun x =>
    let l := (x.rd (fieldA w)).toNat % 8192
    (x.wr (fieldD w) (BitVec.ofNat 48 x.floor8)).wr (fieldD w + 1) (BitVec.ofNat 48 (min (x.ambient l) 0xFFFFFF)))

/-! ## PILE (R273) -/

/-- FW_VALID and TRIPLE of word 41 in TB0. -/
def Core.fwValid (x : Core) : Bool := (x.rdB 41).getLsbD 47
def Core.triple (x : Core) : Bool := (x.rdB 41).getLsbD 46

/-- The fine windows: first bin, last bin, and seed in 100 ps (R182). -/
def Core.windows (x : Core) : List (Nat × Nat × Nat) :=
  let seed (e : Nat) : Nat := bits (x.rdB 41) (15 * e + 14) (15 * e)
  if x.triple then [(0, 31, seed 0), (32, 63, seed 1), (64, 95, seed 2)] else [(0, 95, seed 0)]

/-- Bin i corrected within the window from ws. -/
def Core.pileBin (x : Core) (hb beta n ws i : Nat) : Nat :=
  let f := x.bin 0
  let from_ := max ws (i - hb)
  let a16 : Int := 65536 * (((List.range (i - from_)).foldl (fun t k => t + f (from_ + k)) 0 : Nat) : Int) +
    beta * max 0 ((ws : Int) - ((i : Int) - hb))
  let den : Nat := (max (65536 * (n : Int) - a16) (4096 * n)).toNat
  min 4095 ((2 * 65536 * n * f i + den) / (2 * den))

/-- The fine bins corrected in place. -/
def Core.pile (x : Core) (hb beta : Nat) : Core :=
  let n := bits (x.rdB 32) 47 40
  if !x.fwValid || n = 0 then x
  else
    let new := x.windows.flatMap (fun p => (List.range (p.2.1 + 1 - p.1)).map (fun k => x.pileBin hb beta n p.1 (p.1 + k)))
    x.putB 0 ((List.range 24).map (fun q => lanes4 (fun i => new.getD (4 * q + i) 0)))

/-- PILE. -/
def execPile (c : Fin 12) (w : BitVec 40) (s : State) : Out :=
  .next (s.issueCore c 0x5B w .rtl (regLegalAB w) fun x =>
    x.pile (min (x.rd (fieldA w)).toNat 256) ((x.rd (fieldB w)).toNat % 2 ^ 28))

/-! ## PEAK (R274) -/

/-- What a search takes from its operands: β, L_cnt, SNR_MIN, DET_MIN and HW. -/
structure PeakIn where
  coarse : Bool
  beta : Int
  l : Nat
  snr : Int
  det : Int
  hw : Nat

/-- The operands of PEAK. -/
def Core.peakIn (x : Core) (w : BitVec 40) : PeakIn :=
  let a := x.rd (fieldA w)
  let b := x.rd (fieldB w)
  { coarse := w.getLsbD 27, beta := bits a 27 0, l := bits a 40 28, snr := bits b 47 40, det := bits b 39 32
    hw := clampN 1 32 (bits b 31 24) }

/-- y of bin i. -/
def Core.peakY (x : Core) (p : PeakIn) (i : Nat) : Int :=
  65536 * (x.bin (if p.coarse then 24 else 0) i : Int) - p.beta

/-- Whether coarse bin j's τ span meets a fine window or sub-window in use. -/
def Core.coarseOut (x : Core) (p : PeakIn) (j : Nat) : Bool :=
  x.fwValid && x.windows.any (fun q =>
    decide (8 * p.l * j < 32 * q.2.2 + 32 * (q.2.1 + 1 - q.1) ∧ 32 * q.2.2 < 8 * p.l * (j + 1)))

/-- The window of a fine bin, and of a coarse bin all 32. -/
def Core.winOf (x : Core) (p : PeakIn) (i : Nat) : Nat × Nat × Nat :=
  if p.coarse then (0, 31, 0) else (x.windows.find? (fun q => decide (q.1 ≤ i ∧ i ≤ q.2.1))).getD (0, 95, 0)

/-- A bin may be a candidate: in no span, and not excluded by what the mode excludes. -/
def Core.mayPeak (x : Core) (p : PeakIn) (spans : List (Nat × Nat × Nat)) (i : Nat) : Bool :=
  !spans.any (fun q => decide (q.1 ≤ i ∧ i ≤ q.2.1)) &&
  if p.coarse then !x.coarseOut p i
  else !(x.triple && spans.any (fun q => (x.winOf p q.2.2).1 == (x.winOf p i).1))

/-- The candidate: the largest y, the lowest index on a tie. -/
def Core.candidate (x : Core) (p : PeakIn) (spans : List (Nat × Nat × Nat)) : Option Nat :=
  (List.range (if p.coarse then 32 else 96)).foldl (fun o i =>
    if x.mayPeak p spans i then
      match o with
      | none => some i
      | some k => if x.peakY p k < x.peakY p i then some i else some k
    else o) none

/-- How many bins a fine span grows to one side of i: the bins at i ± 1, i ± 2, ... within HW while they are in the window,
in no span, and have y > 0. -/
def growBy (ok : Nat → Bool) : Nat → Nat → Nat
  | 0, n => n
  | k + 1, n => if ok (n + 1) then growBy ok k (n + 1) else n

/-- The bins of the candidate's span. -/
def Core.spanOf (x : Core) (p : PeakIn) (spans : List (Nat × Nat × Nat)) (i : Nat) : List Nat :=
  let q := x.winOf p i
  let free (j : Nat) : Bool := !spans.any (fun r => decide (r.1 ≤ j ∧ j ≤ r.2.1))
  if p.coarse then
    (((if i = 0 then [] else [i - 1]) ++ [i, i + 1]).filter (fun j => decide (j ≤ 31) && !x.coarseOut p j && free j))
  else
    let lo := growBy (fun k => decide (q.1 + k ≤ i) && free (i - k) && decide (0 < x.peakY p (i - k))) p.hw 0
    let hi := growBy (fun k => decide (i + k ≤ q.2.1) && free (i + k) && decide (0 < x.peakY p (i + k))) p.hw 0
    (List.range (lo + hi + 1)).map (fun k => i - lo + k)

/-- An echo's RANGE from the span's neighbours: τ × 0.4684257 rounded, halves upwards. -/
def Core.rangeOf (x : Core) (p : PeakIn) (i : Nat) : Nat :=
  let q := x.winOf p i
  let y (j : Int) : Int := if j < q.1 ∨ (q.2.1 : Int) < j then 0 else max 0 (x.peakY p j.toNat)
  let ym := y ((i : Int) - 1)
  let yp := y ((i : Int) + 1)
  let den := ym + x.peakY p i + yp
  let num := if p.coarse then 4 * p.l * (2 * (i : Int) + 1) * den + 8 * p.l * (yp - ym)
    else 16 * (2 * ((q.2.2 : Int) + i - q.1) + 1) * den + 32 * (yp - ym)
  (min 1048575 ((2 * num * 4684257 + den * 10000000) / (2 * den * 10000000))).toNat

/-- The search: spans taken so far as (lo, hi, candidate), echoes held, and the core with the echoes written. -/
def Core.peakGo : Nat → PeakIn → List (Nat × Nat × Nat) → Nat → Core → Nat × Core
  | 0, _, _, n, x => (n, x)
  | k + 1, p, spans, n, x =>
    if 3 ≤ n then (n, x)
    else
      match x.candidate p spans with
      | none => (n, x)
      | some i =>
        let l := x.spanOf p spans i
        let b : Int := if p.coarse then 3 * p.beta else p.beta * l.length
        let t : Int := l.foldl (fun t j => t + x.peakY p j) 0
        if t ≤ 0 ∨ t < 65536 * p.det ∨ t * t < 256 * p.snr * p.snr * (t + b) then (n, x)
        else
          let q := min 4095 (isqrt (t * t / (t + b)).toNat)
          let w0 := x.rangeOf p i * 2 ^ 28 + q * 2 ^ 16 + i * 2 ^ 8 + if p.coarse then 1 else 0
          let x := x.putB (64 + 2 * n) [BitVec.ofNat 48 w0, BitVec.ofInt 48 t]
          Core.peakGo k p ((l.headD i, l.getLastD i, i) :: spans) (n + 1) x

/-- PEAK. -/
def execPeak (c : Fin 12) (w : BitVec 40) (s : State) : Out :=
  .next (s.issueCore c 0x59 w .rtl (w.toNat % 2 ^ 27 == 0 && fieldD w != 0) fun x =>
    let p := x.peakIn w
    if !p.coarse && !x.fwValid then x.wr (fieldD w) 0
    else
      let r := Core.peakGo 3 p [] (if p.coarse then min (x.rd (fieldD w)).toNat 3 else 0) x
      r.2.wr (fieldD w) (BitVec.ofNat 48 r.1))

/-! ## OCC (R275) -/

/-- An echo as OCC works on it. -/
structure Echo where
  range : Nat
  q : Nat
  coarse : Bool
  sum : Nat
  inten : Nat := 0
  conf : Nat := 0
  low : Bool := false
  pers : Nat := 0

/-- A prediction of words 38 to 40 (R184), and whether an echo of this cell has taken it. -/
structure Pred where
  range : Nat
  amp : Nat
  pers : Nat
  valid : Bool
  hit : Bool := false

/-- Echo e of TB1 (R274). -/
def Core.echoAt (x : Core) (e : Nat) : Echo :=
  let w := x.rdB (64 + 2 * e)
  { range := bits w 47 28, q := bits w 27 16, coarse := w.getLsbD 0, sum := (x.rdB (64 + 2 * e + 1)).toNat }

/-- An echo put in order of RANGE before those beyond it. -/
def insertEcho (e : Echo) : List Echo → List Echo
  | [] => [e]
  | a :: t => if a.range ≤ e.range then a :: insertEcho e t else e :: a :: t

/-- The echoes in ascending RANGE, in stable order. -/
def Core.echoes (x : Core) (n : Nat) : List Echo :=
  ((List.range n).map x.echoAt).foldl (fun l e => insertEcho e l) []

/-- Prediction e of TB0. -/
def Core.predAt (x : Core) (e : Nat) : Pred :=
  let w := x.rdB (38 + e)
  { range := bits w 47 28, amp := bits w 27 16, pers := bits w 15 8, valid := w.getLsbD 0 }
def Pred.word (p : Pred) : Word :=
  BitVec.ofNat 48 (p.range * 2 ^ 28 + p.amp * 2 ^ 16 + p.pers * 2 ^ 8 + if p.valid then 1 else 0)

/-- INTENSITY, CONF and LOWCONF of an echo (R216); the words are 32 to 34 of TB0. -/
def Echo.grade (e : Echo) (w32 w33 w34 : Word) (confLow : Nat) : Echo :=
  let n := bits w32 47 40
  let lost := bits w33 3 0 != 0
  let c := min 255 (e.q / 8)
  let c := if e.coarse then min 63 c else c
  let c := if lost then c / 2 else c
  { e with inten := if n = 0 then 0 else min 4095 (e.sum / (256 * n)), conf := c
           low := e.coarse || decide (c < confLow) || w34.getLsbD 1 || w34.getLsbD 0 || lost }

/-- The valid prediction nearest to a range within a limit and not yet matched, the lower-numbered on a tie (R217). -/
def nearestPred (ps : List Pred) (r limit : Nat) : Option Nat :=
  let dist (p : Pred) : Nat := (r - p.range) + (p.range - r)
  ((List.range ps.length).zip ps).foldl (fun (o : Option (Nat × Nat)) ip =>
    if ip.2.valid && !ip.2.hit && decide (dist ip.2 ≤ limit) then
      match o with
      | none => some (ip.1, dist ip.2)
      | some (k, d) => if dist ip.2 < d then some (ip.1, dist ip.2) else some (k, d)
    else o) none |>.map (·.1)

/-- Steps 1 and 2: each echo in turn takes its match. The second answer is each echo's prediction. -/
def matchEchoes (limit : Nat) : List Echo → List Pred → List Pred × List (Option Nat)
  | [], ps => (ps, [])
  | e :: t, ps =>
    match nearestPred ps e.range limit with
    | none => let r := matchEchoes limit t ps; (r.1, none :: r.2)
    | some k =>
      let p := ps.getD k ⟨0, 0, 0, false, false⟩
      let ps := ps.set k { range := e.range, amp := e.inten, pers := min 255 (p.pers + 1), valid := true, hit := true }
      let r := matchEchoes limit t ps
      (r.1, some k :: r.2)

/-- Step 3: each unmatched echo takes the lowest-numbered invalid prediction. -/
def storeEchoes : List (Echo × Option Nat) → List Pred → List Pred × List (Option Nat)
  | [], ps => (ps, [])
  | (_, some k) :: t, ps => let r := storeEchoes t ps; (r.1, some k :: r.2)
  | (e, none) :: t, ps =>
    match (List.range ps.length).find? (fun k => !(ps.getD k ⟨0, 0, 0, true, true⟩).valid) with
    | none => let r := storeEchoes t ps; (r.1, none :: r.2)
    | some k =>
      let r := storeEchoes t (ps.set k { range := e.range, amp := e.inten, pers := 1, valid := true, hit := true })
      (r.1, some k :: r.2)

/-- Step 4: an unmatched valid prediction halves its persistence. -/
def Pred.fade (p : Pred) : Pred :=
  if p.valid && !p.hit then { p with pers := p.pers / 2, valid := decide (p.pers / 2 ≠ 0) } else p

/-- The predictions after the cell, and the echoes with their persistence (R217). -/
def updatePreds (limit : Nat) (es : List Echo) (ps : List Pred) : List Pred × List Echo :=
  let m := matchEchoes limit es ps
  let st := storeEchoes (es.zip m.2) m.1
  let ps := st.1.map Pred.fade
  (ps, (es.zip st.2).map (fun p => { p.1 with pers := match p.2 with
                                                       | some k => (ps.getD k ⟨0, 0, 0, false, false⟩).pers
                                                       | none => 0 }))

/-- Word 41 for the next accumulation (R219). -/
def placement (ps : List Pred) : Word :=
  let r := ((ps.filter (·.valid)).map (·.range)).foldl (fun l n => insertN n l) []
  let q := r.map (fun n => n * 6671283 / 100000000)
  let cap (n : Nat) : Nat := min 32767 n
  match q with
  | [] => 0
  | a :: t =>
    let z := t.getLastD a
    if z - a ≤ 64 then
      let s0 := cap ((a + z) / 2 - 48)
      BitVec.ofNat 48 (2 ^ 47 + s0 * 2 ^ 30 + s0 * 2 ^ 15 + s0)
    else
      let s0 := cap (a - 16)
      let s1 := cap (t.headD a - 16)
      let s2 := match t with
        | _ :: b :: _ => cap (b - 16)
        | _ => s1
      BitVec.ofNat 48 (2 ^ 47 + 2 ^ 46 + s2 * 2 ^ 30 + s1 * 2 ^ 15 + s0)

/-- The thresholds of OCC_CFG0 to OCC_CFG2 as their images give them. -/
structure OccCfg where
  c0 : Word
  c1 : Word
  c2 : Word

/-- The two record images of an echo (R275). -/
def Echo.images (e : Echo) (k : Nat) (g : OccCfg) (amb rain interf : Nat) : List Word :=
  let near := decide (e.range < bits g.c1 47 32 ∧ e.pers ≤ bits g.c1 31 24)
  let sun := decide (bits g.c2 31 20 ≤ amb ∧ e.q < 16 * bits g.c2 19 12)
  let rn := near && (decide (e.inten < bits g.c1 23 12) || decide (bits g.c1 11 4 ≤ rain))
  let itf := decide (bits g.c2 47 40 ≤ interf ∧ e.pers ≤ bits g.c2 39 32)
  let flag (b : Bool) (n : Nat) : Nat := if b then 2 ^ n else 0
  [ BitVec.ofNat 48 (e.range * 2 ^ 28 + e.inten * 2 ^ 16),
    BitVec.ofNat 48 (k * 2 ^ 22 + flag sun 21 + flag rn 20 + flag itf 19 + flag e.low 17 + e.conf * 2 ^ 8 + min 255 (amb / 2)) ]

/-- OCC on a core: count in G[d], gate enable and A_meas in G[a], configuration images from G[b]. -/
def Core.occ (x : Core) (n : Nat) (a : Word) (g : OccCfg) : Core :=
  let w := fun i => x.rdB i
  let am := bits a 23 0
  let amb := if (w 36).getLsbD w36Fresh then min 4095 am else min 4095 ((3 * bits (w 37) 47 36 + am) / 4)
  let es := (x.echoes n).map (fun e => e.grade (w 32) (w 33) (w 34) (bits g.c0 23 16))
  let u := updatePreds (bits g.c0 15 0) es ((List.range 3).map x.predAt)
  let nr := (u.2.filter (fun e => decide (e.range < bits g.c1 47 32 ∧ e.pers ≤ bits g.c1 31 24))).length
  let r0 := bits (w 37) 35 28
  let rain := min 255 (r0 - r0 / 8 + 32 * nr)
  let im := if a.getLsbD 47 then min 255 (256 * bits (w 33) 23 12 / max (bits (w 33) 47 24) 1) else 0
  let interf := (3 * bits (w 37) 27 20 + im) / 4
  let x := x.putB 37 (BitVec.ofNat 48 (amb * 2 ^ 36 + rain * 2 ^ 28 + interf * 2 ^ 20) :: u.1.map Pred.word ++ [placement u.1])
  let x := x.putB 64 (((List.range n).zip u.2).flatMap (fun p => p.2.images p.1 g amb rain interf))
  { x with zf := n == 0 }

/-- OCC. -/
def execOcc (c : Fin 12) (w : BitVec 40) (s : State) : Out :=
  .next (s.issueCore c 0x5C w .rtl (regLegal w && fieldB w != 0 && decide (fieldB w ≤ 13)) fun x =>
    x.occ (min (x.rd (fieldD w)).toNat 3) (x.rd (fieldA w))
      { c0 := x.rd (fieldB w), c1 := x.rd (fieldB w + 1), c2 := x.rd (fieldB w + 2) })

/-! ## EMIT and CUPD -/

/-- EMIT (R276). -/
def execEmit (c : Fin 12) (w : BitVec 40) (s : State) : Out :=
  .next (s.issueCore c 0x5D w .rtl (regLegalAB w) fun x =>
    let b := x.rd (fieldB w)
    match x.cell with
    | none => { x with cf := true }
    | some k =>
      if bits b 23 22 = 3 ∨ 3 ≤ k.emits.length then { x with cf := true }
      else { x with cf := false, cell := some { k with emits := k.emits ++ [(setBits (x.rd (fieldA w)) 15 0 0, setBits b 47 24 0)] } })

/-- The cell status record that an entry calls for at CUPD (R201). -/
def statusOf (e : Word) (amb : Nat) : List (Word × Word) :=
  let low := e.getLsbD 47 || bits e 35 32 != 0
  if e.getLsbD 46 || low then [statusRec e low amb] else []

/-- CUPD writes words 37 to 46 and clears HELD, FRESH and BAD (R192). -/
def State.releaseTile (s : State) (c n : Nat) : State :=
  let s := s.wrWords (48 * n + 37) ((s.core c).getB 37 10)
  let w := s.rdMem (48 * n + 36)
  ((s.wrMem (48 * n + 36) (setWBit (setWBit (setWBit w w36Held false) w36Fresh false) w36Bad false)).reCrc n).rereadTile n

/-- The group goes to the ring; the core waits while there is no room (R209, R277). -/
def State.sendGroup (s : State) (c : Nat) (g : OutGrp) : State :=
  if g.recs.isEmpty then s.cupdDone c g.tile
  else
    let s := (s.updCore c (fun x => { x with wait := .ring })).handOver g
    if (s.core c).wait = .ring then s.cnt F.BANK.OUT_CNT2.WAITS 1 (g.tile / 2048 / 6) else s

/-- CUPD (R277). A sweep boundary due in this tick acts first, so that its header precedes the group (R221). -/
def execCupd (c : Fin 12) (w : BitVec 40) (s : State) : Out :=
  .next (s.issue c 0x5E w .rtl (regLegal0 w) fun s =>
    let s := s.sweepFirst
    match (s.core c).cell with
    | none => .error tCELL
    | some k =>
      let n := bits k.entry 15 0
      if (s.rdMem (48 * n + 36)).getLsbD w36Held then
        let s := (s.releaseTile c n).updCore c (fun x => { x with cf := false })
        .ok (s.sendGroup c (s.groupOf k (k.emits ++ statusOf k.entry (bits ((s.core c).rdB 37) 47 36)) (some c.val)))
      else .ok ((s.updCore c (fun x => { x with cf := true })).cupdDone c n))

end Sys2Proof.Machine
end

