-- ==== Sys2Proof/Machine/Access.lean ====
section
/-!
DEFINITION. Register accesses: reads with their side effects, the judgement of a write, and what a write does
(spec/00_scope.md R7 to R10, spec/10_ivqua_model.md R227, spec/15_gloelink.md R365, R375, spec/17_register_map.md R402 to
R405).
-/
namespace Sys2Proof.Machine

/-! ## Reads (R405) -/

/-- The read-clear fields of an address as they stood before what hardware has counted in them in this tick (R8), and a result as it
stood before one that lands in this tick (R139). -/
def State.beforeHot (s : State) (a : Nat) : State :=
  (fldsAt a).foldl (fun s p =>
    match Tab.find? s.hot (p.1.key p.2.1 p.2.2) with
    | some q => if p.1.acc = .rc ∨ p.1.acc = .ro then s.setFld p.1 q.1 p.2.1 p.2.2 else s
    | none => s) s

/-- A read-clear field is cleared, but for what hardware has counted in it in this tick (R7, R8). -/
def State.clearFld (s : State) (F : Fld) (i j : Nat) : State :=
  let t := s.setFld F (s.since F i j) i j
  { t with hot := match Tab.find? s.hot (F.key i j) with
      | some q => Tab.put s.hot (F.key i j) (0, q.2)
      | none => s.hot }

/-- The fields of an address that a read clears are cleared (R7). -/
def State.clearRc (s : State) (a : Nat) : State :=
  (fldsAt a).foldl (fun s p => if p.1.acc = .rc then s.clearFld p.1 p.2.1 p.2.2 else s) s

/-- The latch that a read of an address answers from (R405). -/
def latchRead (a : Nat) : Option Nat :=
  if a = 0x1000121 then some 0
  else if a = 0x1000511 then some 1
  else if 0x1000608 ≤ a ∧ a < 0x1000610 ∧ a % 2 = 1 then some (2 + (a - 0x1000608) / 2)
  else none

/-- The latch that a read of an address sets, and the register that it takes. -/
def latchSet (a : Nat) : Option (Nat × Nat) :=
  if a = 0x1000120 then some (0, 0x1000121)
  else if a = 0x1000510 then some (1, 0x1000511)
  else if 0x1000608 ≤ a ∧ a < 0x1000610 ∧ a % 2 = 0 then some (2 + (a - 0x1000608) / 2, a + 1)
  else none

/-- A read of a register: the word, and the state after its side effects; or the refusal. -/
def State.regRead (s : State) (a : Accessor) (addr : Nat) : Except Err (Word × State) :=
  match blockOf addr with
  | none => .error .unalloc
  | some blk =>
    if blk = 9 then .ok (s.semClaim (addr - 0x1000A80) a)
    else
      let v := match latchRead addr with
        | some k => s.latched a k
        | none => (s.beforeHot addr).view (accCode a) blk addr
      let t := if addr = 0x1000672 then (s.clearRc addr).unOvr else s.clearRc addr
      match latchSet addr with
      | some (k, r) => .ok (v, t.setLatch a k (s.view (accCode a) blk r))
      | none => .ok (v, t)

/-! ## The judgement of a write -/

/-- A field that a write can change. -/
def Acc.writable : Acc → Bool
  | .ro => false
  | .rc => false
  | _ => true

/-- A register whose writable fields are all RWS, one at least (R227). -/
def stagedOnly (a : Nat) : Bool :=
  let l := (fldsAt a).filter (fun p => p.1.acc.writable)
  !l.isEmpty && l.all (fun p => p.1.acc == .rws)

/-- A core's WRS may address a register (R227, R261). -/
def wrsAllowed (c blk a : Nat) : Bool :=
  (fldsAt a).isEmpty || (blk == (if c < 4 then 11 else 12) && coreOf blk (blockInst blk a) == c) || stagedOnly a ||
  blk == 8 || blk == 9

/-- The commit groups that a write of a word to an address concerns (R375). -/
def groupsOf (a : Nat) (v : Word) : List Nat :=
  if a = 0x1000010 then (List.range 7).filter (fun g => v.getLsbD g)
  else (fldsAt a).filterMap (fun p => p.1.grp.map Grp.num)

/-- A semaphore guards a write. -/
def State.guards (s : State) (n blk a : Nat) (v : Word) : Bool :=
  (blk != 8 && blk != 9 && (s.fld F.SEM.CLAIM.BLK n).testBit blk) ||
  (groupsOf a v).any (fun g => (s.fld F.SEM.CLAIM.GRP n).testBit g)

/-- Some guarding semaphore is not the writer's. -/
def State.guarded (s : State) (a : Accessor) (blk addr : Nat) (v : Word) : Bool :=
  a != .meridian && a != .dome && !(fldsAt addr).isEmpty &&
  (List.range 32).any (fun n => s.guards n blk addr v && (s.sem n).owner != accCode a)

/-- Bits of a word for a field's element. -/
def Fld.of (F : Fld) (j : Nat) (v : Word) : Nat := v.toNat / 2 ^ F.low j % F.span

/-- The write would change an RWL field as it stood before hardware changed it in this tick (R404, R408). -/
def State.rwlWrite (s : State) (addr : Nat) (v : Word) : Bool :=
  (fldsAt addr).any (fun p => p.1.acc == .rwl && p.1.of p.2.2 v != (s.hwHeld p.1 p.2.1 p.2.2).getD (s.fld p.1 p.2.1 p.2.2))

/-- The registers whose RWL fields EYE_CFG.LOCK locks (R79, R89). -/
def eyeLocked (a : Nat) : Bool :=
  a == 0x1000220 || a == 0x1000221 || decide (0x1000230 ≤ a ∧ a < 0x1000260) || a == 0x1000410

/-- The refusal of a write, but for what its own register's chapter says. -/
def State.judgeWrite (s : State) (a : Accessor) (addr : Nat) (v : Word) : Option Err :=
  match blockOf addr with
  | none => some .unalloc
  | some blk =>
    let barred := match a with
      | .core c => !wrsAllowed c.val blk addr
      | _ => false
    if barred then some .refused
    else if s.guarded a blk addr v then some .guard
    else if !s.rwlWrite addr v then none
    else if s.scanning then some .rwl
    else if (s.flag F.FIRE.EYE_CFG.LOCK && eyeLocked addr) || (s.flag F.SAFE.SF2_CFG.LOCK && blk == 6) then some .refused
    else none

/-! ## The effect of a write -/

/-- A write of one field by its access code (R7); a bit that hardware sets in the same tick ends set (R8), and a hardware change of
an RWL field of the tick stands where the write keeps the value before it (R408). -/
def State.wrFld (s : State) (v : Word) (p : Fld × Nat × Nat) : State :=
  let F := p.1
  let n := F.of p.2.2 v
  let old := s.fld F p.2.1 p.2.2
  match F.acc with
  | .rws => s.stage F n p.2.1 p.2.2
  | .rw => s.setFld F n p.2.1 p.2.2
  | .rwl => if s.hwHeld F p.2.1 p.2.2 = some n then s else s.setFld F n p.2.1 p.2.2
  | .w1c => s.setFld F (old - (old &&& (n - (n &&& s.since F p.2.1 p.2.2)))) p.2.1 p.2.2
  | .w1s => s.setFld F (old ||| n) p.2.1 p.2.2
  | .ro | .rc | .wo => s

/-- A write of every field of an address by its access code. -/
def State.wrPlain (s : State) (addr : Nat) (v : Word) : State := (fldsAt addr).foldl (fun s p => s.wrFld v p) s

/-- A write of DBG_CFG: FREEZE_EN cannot be set once LOCK is set or while the fuse disables it (R321). -/
def State.wrDbgCfg (s : State) (v : Word) : WRes :=
  let barred := s.flag F.DEV.DBG_CFG.LOCK || s.flag F.DEV.DBG_CFG.DISABLED
  let en := v.getLsbD 0 && (!barred || s.flag F.DEV.DBG_CFG.FREEZE_EN)
  ((s.wrPlain 0x1000019 v).setBit F.DEV.DBG_CFG.FREEZE_EN en, none)

/-- Writes of DEV. -/
def State.wrDev (s : State) (a : Accessor) (addr : Nat) (v : Word) : WRes :=
  if addr = 0x1000002 then s.wrModeReq v
  else if addr = 0x1000005 then s.wrRstCtrl v
  else if addr = 0x1000009 then ((s.wrPlain addr v).supplyJudge, none)
  else if addr = 0x1000010 then s.wrCommit a v
  else if addr = 0x1000019 then s.wrDbgCfg v
  else if addr = 0x100001A then s.wrFrzCtrl a v
  else if addr = 0x1000020 then s.wrBootCtrl a v
  else (s.wrPlain addr v, none)

/-- REF_LOSS is not cleared while REFCLK is absent (R30). -/
def State.keepRefLoss (t s : State) : State :=
  if s.clk.refAbsent && s.flag F.TIME.PLL_STAT.REF_LOSS then t.setBit F.TIME.PLL_STAT.REF_LOSS true else t

/-- Writes of TIME. -/
def State.wrTime (s : State) (addr : Nat) (v : Word) : WRes :=
  if addr = 0x1000100 then ((s.wrPlain addr v).keepRefLoss s, none)
  else if addr = 0x1000101 then s.wrPllCtrl v
  else if addr = 0x1000104 then s.wrSscCfg v
  else if addr = 0x1000130 then s.wrFmuCfg v
  else if 0x1000110 ≤ addr ∧ addr < 0x1000120 then s.wrSscSeg (addr - 0x1000110) v
  else (s.wrPlain addr v, none)

/-- Writes of FIRE. -/
def State.wrFire (s : State) (addr : Nat) (v : Word) : WRes :=
  if addr = 0x1000200 then s.wrFireCtrl v
  else if addr = 0x1000203 then ({ s.wrPlain addr v with fire := { (s.wrPlain addr v).fire with dithWritten := true } }, none)
  else (s.wrPlain addr v, none)

/-- Writes of MON. -/
def State.wrMon (s : State) (addr : Nat) (v : Word) : WRes :=
  if addr = 0x1000414 then ({ s.wrPlain addr v with mon := { (s.wrPlain addr v).mon with maskWritten := true } }, none)
  else if addr = 0x1000420 then if s.capCfgLocked then (s, some .refused) else (s.wrPlain addr v, none)
  else if addr = 0x1000421 then s.wrCapCtrl v
  else (s.wrPlain addr v, none)

/-- Writes of MIRR: the always-on domain copies PARK (R321). -/
def State.wrMirr (s : State) (addr : Nat) (v : Word) : WRes :=
  let t := s.wrPlain addr v
  if addr = 0x1000500 then
    ({ t with dev := { t.dev with parkH := t.fld F.MIRR.PARK.PARK_H, parkV := t.fld F.MIRR.PARK.PARK_V } }, none)
  else (t, none)

/-- Writes of AFE. -/
def State.wrAfe (s : State) (addr : Nat) (v : Word) : WRes :=
  if addr = 0x1000601 then s.wrBrCtrl v
  else if addr = 0x1000602 then s.wrBrStat v
  else if addr = 0x1000670 then s.wrHkCtrl v
  else if addr = 0x1000671 then ((s.wrPlain addr v).hkAsk, none)
  else if addr = 0x1000674 then s.wrRefCfg v
  else if addr = 0x10006A0 then s.wrTdacCfg v
  else (s.wrPlain addr v, none)

/-- Writes of SAFE. -/
def State.wrSafe (s : State) (addr : Nat) (v : Word) : WRes :=
  if addr = 0x1000801 then s.wrFlt v
  else if addr = 0x1000802 then s.wrDegCtrl v
  else if addr = 0x100080C then s.wrSoutStat v
  else if addr = 0x1000810 then ((s.wrPlain addr v).contactJudge, none)
  else (s.wrPlain addr v, none)

/-- Writes of LINK. -/
def State.wrLink (s : State) (addr : Nat) (v : Word) : WRes :=
  if (addr - 0x1000900) % 64 = 0 then s.wrLinkCtrl ((addr - 0x1000900) / 64) v
  else if (addr - 0x1000900) % 64 = 2 then s.wrLinkStat ((addr - 0x1000900) / 64) v
  else (s.wrPlain addr v, none)

/-- Writes of MBX. -/
def State.wrMbx (s : State) (addr : Nat) (v : Word) : WRes :=
  if addr % 8 = 3 then s.wrMbxAck ((addr - 0x1000A00) / 8) v else (s.wrPlain addr v, none)

/-- Writes of BGND: CAPTURE asks for the next complete interval (R396). -/
def State.wrBgnd (s : State) (addr : Nat) (v : Word) : WRes :=
  let t := s.wrPlain addr v
  (if addr = 0x1000B07 && v.getLsbD 1 then t.updBg (fun x => { x with capNext := true }) else t, none)

/-- Writes of ALD and RTL. -/
def State.wrCoreReg (s : State) (blk addr : Nat) (v : Word) : WRes :=
  let i := blockInst blk addr
  if addr = coreBase (coreOf blk i) then s.wrCoreCtrl (coreOf blk i) v
  else if addr = 0x1000C20 then s.wrEphLoad v
  else (s.wrPlain addr v, none)

/-- Writes of BANK. -/
def State.wrBank (s : State) (addr : Nat) (v : Word) : WRes :=
  if addr % 64 = 0 then s.wrRingCfg ((addr - 0x1001000) / 64) v else (s.wrPlain addr v, none)

/-- Writes of STRIP. -/
def State.wrStrip (s : State) (addr : Nat) (v : Word) : WRes :=
  if addr % 64 = 0 then s.wrRxStat ((addr - 0x1002000) / 64) v else (s.wrPlain addr v, none)

/-- The effect of a write of an allocated register, or the refusal that its own chapter states. -/
def State.effectWrite (s : State) (a : Accessor) (blk addr : Nat) (v : Word) : WRes :=
  if blk = 0 then s.wrDev a addr v
  else if blk = 1 then s.wrTime addr v
  else if blk = 2 then s.wrFire addr v
  else if blk = 3 then s.wrMon addr v
  else if blk = 4 then s.wrMirr addr v
  else if blk = 5 then s.wrAfe addr v
  else if blk = 6 then s.wrSafe addr v
  else if blk = 7 then s.wrLink addr v
  else if blk = 8 then s.wrMbx addr v
  else if blk = 9 then s.semWrite (addr - 0x1000A80) a v
  else if blk = 10 then s.wrBgnd addr v
  else if blk = 11 then s.wrCoreReg 11 addr v
  else if blk = 12 then s.wrCoreReg 12 addr v
  else if blk = 13 then s.wrBank addr v
  else if blk = 14 then s.wrStrip addr v
  else (s.wrPlain addr v, none)

/-- An RWL write has been accepted in this tick. -/
def State.noteRwl (s : State) : State := { s with dev := { s.dev with rwlAt := some s.raw } }

/-- The tick of an accepted RWL write is noted (R408). -/
def State.noted (s : State) (addr : Nat) (v : Word) : State := if s.rwlWrite addr v then s.noteRwl else s

/-- A write to a register. -/
def State.regWrite (s : State) (a : Accessor) (addr : Nat) (v : Word) : WRes :=
  match s.judgeWrite a addr v with
  | some e => (s, some e)
  | none => (s.noted addr v).effectWrite a ((blockOf addr).getD 16) addr v

/-- A write command: the write, and what its accessor is told. -/
def State.access (s : State) (a : Accessor) (addr : Nat) (v : Word) : State := s.answer addr (s.regWrite a addr v)

/-- A read command. -/
def State.accessRead (s : State) (a : Accessor) (addr : Nat) : State :=
  match s.regRead a addr with
  | .error e => s.answer addr (s, some e)
  | .ok (v, t) => t.answerRead addr v

/-- The word that writes back what an address holds, with more bits set. -/
def State.holdWith (s : State) (addr : Nat) (set : Nat) : Word :=
  BitVec.ofNat 48 (s.heldAt (((blockOf addr).elim [] blockFlds).filter (fun F =>
    F.acc == .rw || F.acc == .rws || F.acc == .rwl)) addr ||| set)

end Sys2Proof.Machine
end

