-- ==== Sys2Proof/Machine/CoreAcc.lean ====
section
/-!
DEFINITION. A core's accesses to registers and its commits (spec/11_ivqua_instructions.md R261, spec/10_ivqua_model.md R227,
R241), and writes of a core's CTRL and EPH_LOAD (R232, R245, R247).
-/
namespace Sys2Proof.Machine

/-- The commit of a core's CMT is made: the core is to get the COMMIT event of the copy that serves it (R241, R283). -/
def State.coreCommit (s : State) (c g : Nat) : State :=
  let s := s.makeCommit (grpOf g)
  let late := match s.lateCommits (grpOf g) with
    | some l => Tab.put s.dev.cmtLate g (s.raw, l ++ [c])
    | none => s.dev.cmtLate
  { s with dev := { s.dev with cmtBy := Tab.upd (fun _ => []) s.dev.cmtBy g (· ++ [c]), cmtLate := late } }

/-- One write or commit under way takes place: the refusal of a write was decided at its issue (R261). -/
def State.opDone (s : State) (c : Fin 12) (o : CoreOp) : State :=
  match o with
  | .wrs addr v => (s.effectWrite (.core c) ((blockOf addr).getD 16) addr v).1
  | .cmt g => s.coreCommit c g

/-- Every write and commit of a core that is under way takes place, in order. -/
def State.drain (s : State) (c : Fin 12) : State :=
  (s.core c).ops.foldl (fun s o => s.opDone c o) (s.updCore c (fun x => { x with ops := [] }))

/-- The register that RDS and WRS address (R261). -/
def Core.regAddr (x : Core) (w : BitVec 40) : Nat := 0x1000000 + ((x.rd (fieldA w)).toNat + imm24 w) % 2 ^ 24

/-- RDS: it reaches its register after the core's earlier writes. -/
def execRds (c : Fin 12) (w : BitVec 40) (s : State) : Out :=
  .next (s.issue c 0x36 w .common (immLegal w) fun s =>
    let s := s.drain c
    match s.regRead (.core c) ((s.core c).regAddr w) with
    | .ok (v, t) => .ok (t.updCore c (fun x => { x.wr (fieldD w) v with cf := false }))
    | .error _ => .ok (s.updCore c (fun x => { x.wr (fieldD w) 0 with cf := true })))

/-- WRS: the refusal is decided at issue; an accepted write is then under way. -/
def execWrs (c : Fin 12) (w : BitVec 40) (s : State) : Out :=
  .next (s.issue c 0x37 w .common (immLegal w) fun s =>
    let a := (s.core c).regAddr w
    let v := (s.core c).rd (fieldD w)
    match (s.regWrite (.core c) a v).2 with
    | some _ => .ok (s.updCore c (fun x => { x with cf := true }))
    | none => .ok ((s.noted a v).updCore c (fun x => { x with cf := false, ops := x.ops ++ [.wrs a v] })))

/-- WRS_ARRIVAL: the oldest write under way reaches its register. -/
def execWrsArrival (c : Fin 12) (s : State) : Out :=
  whenLive s fun s =>
    match (s.core c).ops with
    | .wrs a v :: t => (s.updCore c (fun x => { x with ops := t })).opDone c (.wrs a v)
    | _ => s

/-- CMT: with no write under way the commit is made at once. -/
def execCmt (c : Fin 12) (w : BitVec 40) (s : State) : Out :=
  .next (s.issue c 0x35 w .common (immLegal w && fieldD w == 0 && fieldA w == 0 && decide (imm24 w ≤ 6)) fun s =>
    if (s.core c).ops.isEmpty then .ok (s.coreCommit c (imm24 w))
    else .ok (s.updCore c (fun x => { x with ops := x.ops ++ [.cmt (imm24 w)] })))

/-- CMT_COMMIT_MADE: the writes before it have all arrived. -/
def execCmtCommitMade (c : Fin 12) (s : State) : Out :=
  whenLive s fun s =>
    match (s.core c).ops with
    | .cmt g :: t => (s.updCore c (fun x => { x with ops := t })).coreCommit c g
    | _ => s

/-! ## CTRL and EPH_LOAD -/

/-- A write of CTRL that keeps its fields and sets the bits of a mask. -/
def State.setCtrl (s : State) (a : Accessor) (c mask : Nat) : State :=
  s.access a (coreBase c) (s.holdWith (coreBase c) mask)

/-- CORE_START. -/
def execCoreStart (a : Accessor) (c : Fin 12) (s : State) : Out := whenLive s fun s => s.setCtrl a c 1

/-- CORE_STOP. -/
def execCoreStop (a : Accessor) (c : Fin 12) (s : State) : Out := whenLive s fun s => s.setCtrl a c 2

/-- HOSTEV. -/
def execHostev (a : Accessor) (c : Fin 12) (s : State) : Out := whenLive s fun s => s.setCtrl a c 16

/-- PROG_LOCK. -/
def execProgLock (a : Accessor) (c : Fin 12) (s : State) : Out := whenLive s fun s => s.setCtrl a c 64

/-- EPH_LOAD_GO. -/
def execEphLoadGo (a : Accessor) (v : Word) (s : State) : Out := whenLive s fun s => s.access a 0x1000C20 (v ||| 0x10000)

end Sys2Proof.Machine
end

