-- ==== Sys2Proof/Machine/Meet.lean ====
section
/-!
DEFINITION. Judgements with what must act before them in their tick, and the end of a tick: what has met in it is settled, and the
next tick begins (spec/03_firing.md R69 to R71, R80, spec/07_receiver_tdc.md R164, spec/02_time_and_clocks.md R47).
-/
namespace Sys2Proof.Machine

/-! ## Judgements (R69 to R71) -/

/-- PART_JUDGEMENT: the sweep boundary of the tick acts first (R126), then the parts that wait are judged in order, then the first
part whose T_fire has come (R71). -/
def execPartJudgement (s : State) : Out :=
  whenLive s fun s =>
    let s := s.sweepFirst.judgeWaiting
    match s.newPart with
    | some p => s.judgePart p
    | none => s

/-- DEFERRED_PART_RETRY: the first waiting part not yet judged in this tick is judged again (R71). -/
def execDeferredPartRetry (s : State) : Out :=
  whenLive s fun s =>
    let s := s.sweepFirst
    match s.retryPart with
    | some p => s.judgePart p
    | none => s

/-- DEFER_LIMIT_SKIP: the first waiting part is judged where a further deferral would exceed DEFER_MAX: it fires or is skipped in this
tick (R69). -/
def execDeferLimitSkip (s : State) : Out :=
  whenLive s fun s =>
    let s := s.sweepFirst
    match s.limitPart with
    | some p => s.judgePart p
    | none => s

/-! ## The end of a tick -/

/-- What has met in a tick is settled at its end: the supplies' changes show (R424), parts judged in it stand or are skipped (R80),
and the conversions completed in it enter the queues (R164). -/
def State.tickEnd (s : State) : State :=
  let s := if s.dev.supChg then s.supplySettle else s
  forEach stripNums s.settleTick State.enterDets

/-- SECOND_ROLLOVER: the last tick of a second ends; TICK returns to 0, SEC and the epoch count advance (R45). -/
def execSecondRollover (s : State) : Out := whenLive s fun s => onlyIf s.lastTick s fun s => s.tickEnd.tickOnce

end Sys2Proof.Machine
end

