-- ==== Sys2Proof/Machine/Requests.lean ====
section
/-!
DEFINITION. Requests of hosts over Gloelink: register and memory accesses, mail, the semaphore query, forwarding down the
chain, discarded frames, and the requests that waited for the store's clear (spec/15_gloelink.md R355, R359 to R379,
spec/08_cell_contexts.md R176, R178, spec/17_register_map.md R408, R425, spec/13_modes_startup.md R308).
-/
namespace Sys2Proof.Machine

/-! ## Answers -/

/-- A RESP to a request. -/
def State.respond (s : State) (p : Nat) (f : List Word) (cls : Nat) (body : List Word) : State :=
  s.queueAnswer p cls (s.frame tRESP (frOrig f) (frRid f * 2 ^ 16) body)

/-- An ERR to a request: its code, the index of the refused word and that word's address. -/
def State.respondErr (s : State) (p : Nat) (f : List Word) (e : Err) (idx addr : Nat) : State :=
  let s := { s with reply := some { code := e.code, addr := addr, value := 0 } }
  s.queueAnswer p 0 (s.frame tERR (frOrig f) (frRid f * 2 ^ 16 + e.code * 2 ^ 8 + idx) [BitVec.ofNat 48 addr])

/-- An ERR that names no word of its own: the address of an access, for another request a free value (log entry 82). -/
def State.respondErr0 (s : State) (p : Nat) (f : List Word) (e : Err) : State :=
  let t := frType f
  if decide (2 ≤ f.length) && (t = tREG_RD || t = tREG_WR || t = tMEM_RD || t = tMEM_WR) then s.respondErr p f e 0 (frAddr f)
  else (s.takeFree .unstated).2.respondErr p f e 0 ((s.takeFree .unstated).1 % 2 ^ 25)

/-- The accessor of a request: at the head its port, in a chained device the head's port that ORIG names (R365, R371). -/
def State.accessorOf (s : State) (p : Nat) (f : List Word) : Accessor :=
  if (if s.chainPos = 0 then p else frOrig f) = 0 then .portA else .portB

/-! ## Memory accesses (R176, R178, R206, R245, R391, R425) -/

/-- The tiles of a core's image: header and code. -/
def State.imageLen (s : State) (c : Nat) : Nat :=
  1 + if s.coreState c = 1 then bits (s.rdMem (tileBase (ctxTiles + (s.core c).base))) 27 16 else (s.core c).ntile

/-- A shared-store tile of an image that loads or runs. -/
def State.inImage (s : State) (m : Nat) : Bool :=
  allCores.any (fun c => (s.coreState c == 1 || s.coreRuns c) &&
    decide ((s.core c).base ≤ m ∧ m < (s.core c).base + s.imageLen c))

/-- A shared-store tile of a ring. -/
def State.inRing (s : State) (b m : Nat) : Bool :=
  decide (s.fld F.BANK.RING_CFG.BASE b ≤ m ∧ m < s.fld F.BANK.RING_CFG.BASE b + s.fld F.BANK.RING_CFG.NTILE b)

/-- A host's read of one word: a failing tile is answered by TILE, and re-initialised if it is a context tile. -/
def State.memRead (s : State) (a : Nat) (check : Bool) : Except (Err × State) (Word × State) :=
  if !inMem a then .error (.unalloc, s)
  else if a < ssBase then
    if s.dev.mode = .boot then .error (.refused, s)
    else if check && !(s.checkTile (tagAt a)).1 then .error (.tile, (s.checkTile (tagAt a)).2)
    else .ok (s.rdMem a, s)
  else if check && !tileOk (s.rdTile (tagAt a)) (tagAt a) then .error (.tile, s)
  else .ok (s.rdMem a, s)

/-- A host's write of one word; one of a held cell's word 35 sets its point time (R202). -/
def State.memWrite (s : State) (a : Nat) (v : Word) : WRes :=
  let tag := tagAt a
  let m := tag - ctxTiles
  if !inMem a then (s, some .unalloc)
  else if a - tileBase tag = 47 then (s, some .refused)
  else if a < ssBase ∧ s.scanning then (s, some .refused)
  else if decide (ssBase ≤ a) && ((s.scanning && bankNums.any (fun b => s.inRing b m)) || s.inImage m) then
    (s, some .refused)
  else
    let t := (s.wrMem a v).reCrc tag
    let d := tag / 2048
    (if decide (a < ssBase) && a - tileBase tag == 35 then t.setStrip d { t.strip d with clAt := Tab.del (t.strip d).clAt tag } else t,
      none)

/-! ## The words of a request (R366) -/

/-- Words are read in ascending order; each is an access of its own. -/
def State.regReads (a : Accessor) : Nat → Nat → Nat → List Word → State → List Word × State × Option (Err × Nat)
  | 0, _, _, l, s => (l, s, none)
  | n + 1, i, addr, l, s =>
    match s.regRead a addr with
    | .error e => (l, s, some (e, i))
    | .ok (v, t) => State.regReads a n (i + 1) (addr + 1) (l ++ [v]) t

/-- Words are written in ascending order, up to one that is refused or that stops the device. -/
def State.regWrites (a : Accessor) : Nat → Nat → List Word → State → State × Option (Err × Nat)
  | _, _, [], s => (s, none)
  | i, addr, v :: l, s =>
    match s.regWrite a addr v with
    | (_, some e) => ((s.regWrite a addr v).1, some (e, i))
    | (t, none) => if t.live then State.regWrites a (i + 1) (addr + 1) l t else (t, none)

/-- The same of memory; a tile's check is made at its first word in the request. -/
def State.memReads : Nat → Nat → Nat → List Word → State → List Word × State × Option (Err × Nat)
  | 0, _, _, l, s => (l, s, none)
  | n + 1, i, addr, l, s =>
    match s.memRead addr (i == 0 || addr == tileBase (tagAt addr)) with
    | .error (e, t) => (l, t, some (e, i))
    | .ok (v, t) => State.memReads n (i + 1) (addr + 1) (l ++ [v]) t

def State.memWrites : Nat → Nat → List Word → State → State × Option (Err × Nat)
  | _, _, [], s => (s, none)
  | i, addr, v :: l, s =>
    match s.memWrite addr v with
    | (_, some e) => (s, some (e, i))
    | (t, none) => State.memWrites (i + 1) (addr + 1) l t

/-- Answer a read. -/
def State.answerReads (p : Nat) (f : List Word) (cls : Nat) (r : List Word × State × Option (Err × Nat)) : State :=
  match r.2.2 with
  | some (e, i) => r.2.1.respondErr p f e i (frAddr f + i)
  | none => { r.2.1 with reply := some { code := 0, addr := frAddr f, value := r.1.getLastD 0 } }.respond p f cls r.1

/-- Answer a write. -/
def State.answerWrites (p : Nat) (f : List Word) (r : State × Option (Err × Nat)) : State :=
  match r.2 with
  | some (e, i) => r.1.respondErr p f e i (frAddr f + i)
  | none => { r.1 with reply := some { code := 0, addr := frAddr f, value := 0 } }.respond p f 0 []

/-! ## Execution (R365, R366, R376, R379) -/

/-- A well-formed request for this device is executed and answered. -/
def State.execReq (s : State) (p : Nat) (f : List Word) : State :=
  let a := s.accessorOf p f
  let t := frType f
  let n := frTs f 5 0 + 1
  let m := frTs f 11 8
  if t = tREG_RD then State.answerReads p f 0 (State.regReads a n 0 (frAddr f) [] s)
  else if t = tREG_WR then State.answerWrites p f (State.regWrites a 0 (frAddr f) (f.drop 2) s)
  else if t = tMEM_RD then State.answerReads p f 1 (State.memReads n 0 (frAddr f) [] s)
  else if t = tMEM_WR then State.answerWrites p f (State.memWrites 0 (frAddr f) (f.drop 2) s)
  else if t = tMBX then
    if frTs f 15 12 = 0 then
      let r := (s.mbxYield m a).mbxPlace m (accCode a) (f.drop 1)
      if r.2 then r.1.respond p f 0 [] else r.1.respondErr0 p f .mbxFull
    else
      let l := s.mbxThere m
      (if l.isEmpty then s else s.mbxTake m).respond p f 0 l
  else s.respond p f 0 ((List.range 32).map (fun n => s.semWord n (accCode a)))

/-- A request goes down the chain (R371). -/
def State.forwardDown (s : State) (f : List Word) : State :=
  let s := if frType f = tMEM_RD then
      { s with net := { s.net with fwd := s.net.fwd ++ [(frOrig f, frHop f, frRid f)] } } else s
  s.queueFrame 2 (s.frClass f) f

/-- What becomes of an accepted request: it is malformed, for this device, for one below, or for none. -/
def State.runReq (s : State) (p : Nat) (f : List Word) : State :=
  if p = 2 || !frameOk f then (s.respondErr0 p f .format).freed p (s.frClass f)
  else if frHop f = s.chainPos then (s.execReq p f).freed p (s.frClass f)
  else if s.chainPos < frHop f && s.net.below.testBit (frHop f) then s.forwardDown f
  else (s.respondErr0 p f .hop).freed p (s.frClass f)

/-- A request frame is received on a port: executed in SEQ order, or held until the store has been cleared (R308, R359). -/
def State.request (s : State) (p : Nat) (f : List Word) : State :=
  s.rxAccept p f fun s =>
    if s.dev.boot = .clearing then s.updPort p (fun x => { x with rxq := x.rxq ++ [f] }) else s.runReq p f

/-- A request row: a frame of another type is none of its own. -/
def requestCmd (t : Nat) (p : Fin 3) (f : List Word) (s : State) : Out :=
  whenLive s fun s => onlyIf (frType f == t) s fun s => s.request p.val f

/-- REG_RD. -/
def execRegRd (p : Fin 3) (f : List Word) (s : State) : Out := requestCmd tREG_RD p f s

/-- REG_WR. -/
def execRegWr (p : Fin 3) (f : List Word) (s : State) : Out := requestCmd tREG_WR p f s

/-- MEM_RD. -/
def execMemRd (p : Fin 3) (f : List Word) (s : State) : Out := requestCmd tMEM_RD p f s

/-- MEM_WR. -/
def execMemWr (p : Fin 3) (f : List Word) (s : State) : Out := requestCmd tMEM_WR p f s

/-- MBX_SEND: an MBX frame with OP 0. -/
def execMbxSend (p : Fin 3) (f : List Word) (s : State) : Out :=
  if frTs f 15 12 = 0 then requestCmd tMBX p f s else .next s

/-- MBX_RECV: an MBX frame with OP 1. -/
def execMbxRecv (p : Fin 3) (f : List Word) (s : State) : Out :=
  if frTs f 15 12 = 1 then requestCmd tMBX p f s else .next s

/-- SEM_QUERY. -/
def execSemQuery (p : Fin 3) (f : List Word) (s : State) : Out := requestCmd tSEM p f s

/-- DOWNSTREAM_FORWARD: a request whose HOP names a device further down. -/
def execDownstreamForward (p : Fin 3) (f : List Word) (s : State) : Out :=
  whenLive s fun s => onlyIf (reqType (frType f) && decide (s.chainPos < frHop f)) s fun s => s.request p.val f

/-! ## Discarded frames (R355, R360) -/

/-- A frame that this port may receive, in its form. -/
def wellFormedOn (p : Nat) (f : List Word) : Bool := frameOk f || (p == 2 && upOk f)

/-- FRAME_DISCARDED. A malformed request is answered, not discarded. -/
def execFrameDiscarded (p : Fin 3) (why : BadFrame) (s : State) : Out :=
  whenLive s fun s => onlyIf (s.fld F.LINK.STAT.STATE p.val != 0) s fun s =>
    match why with
    | .block rx =>
      let bs := s.heardOn p.val rx
      onlyIf (badBlocks bs != 0) s fun s =>
        let s := s.cnt F.LINK.ERR_CNT0.BLK (badBlocks bs) p.val
        (if bs.length = 1 then s else s.nak p.val).countBad p.val (bs.countP (fun b => !b.1))
    | .crc rx =>
      let bs := s.heardOn p.val rx
      onlyIf (frameShape bs && !frameCrcOk bs) s fun s => s.malformed p.val
    | .seq n => onlyIf (n.toNat != (s.port p.val).rxSeq) s fun s =>
        s.rxAccept p.val [BitVec.ofNat 48 (n.toNat * 2 ^ 33)] id
    | .malformed f => onlyIf (!wellFormedOn p.val f) s fun s =>
        if reqType (frType f) then s.request p.val f else s.malformed p.val

/-! ## The end of the store's clear (R308) -/

/-- The requests that waited on a port are executed, in order. -/
def State.runWaiting (s : State) (p : Nat) : State :=
  (s.port p).rxq.foldl (fun s f => if s.linkUp p then s.runReq p f else s) (s.updPort p (fun x => { x with rxq := [] }))

/-- SHARED_STORE_CLEARED: the flash read begins, or a host load is awaited. -/
def execSharedStoreCleared (s : State) : Out :=
  whenLive s fun s => onlyIf (decide (s.dev.boot = .clearing)) s fun s =>
    let flash := s.fld F.DEV.BOOT_STAT.SEL = 0
    let s := { s with dev := { s.dev with boot := if flash then .qspi else .hostWait } }
    let s := if flash then s.setBit F.DEV.BOOT_STAT.BUSY true else s
    forEach portNums s (fun s p => s.runWaiting p)

end Sys2Proof.Machine
end

