-- ==== Sys2Proof/Machine/Scan.lean ====
section
/-!
DEFINITION. The Alidade instructions and the bookings they make (spec/10_ivqua_model.md R235 to R238,
spec/11_ivqua_instructions.md R262 to R268).
-/
namespace Sys2Proof.Machine

/-! ## WAITA and SKIPQ -/

/-- The descriptor of an event (R235). -/
def ColEv.descriptor (e : ColEv) : Word :=
  BitVec.ofNat 48 (phaseOf e.tcol * 2 ^ 44 + e.d * 2 ^ 36 + e.sweep % 65536 * 2 ^ 20 + (if e.dir then 2 ^ 19 else 0) + e.col)

/-- Present an event: it becomes the current event, not yet booked. -/
def State.present1 (s : State) (c d : Nat) (e : ColEv) (rest : List ColEv) : State :=
  s.updCore c (fun x =>
    { (x.wr d (s.wordAt e.tcol)).wr (d + 1) e.descriptor with queue := rest, cur := some e, booked := false })

/-- The queue without the events whose T_col has passed, counted in STALE. -/
def State.dropStale (s : State) (c : Nat) : State :=
  let q := (s.core c).queue
  let keep := q.filter (fun e => decide (s.now ≤ e.tcol))
  (s.updCore c (fun x => { x with queue := keep })).cnt F.ALD.EVT_CNT.STALE (q.length - keep.length) c

/-- The watchdog's span starts (R243). -/
def Core.feed (x : Core) (t : Inst) : Core := { x with wd := t, wdExp := false }

/-- WAITA. -/
def execWaita (c : Fin 12) (w : BitVec 40) (s : State) : Out :=
  .next (s.issue c 0x40 w .ald (regLegalD w && fieldD w != 0 && fieldD w != 15) fun s =>
    let s := (s.updCore c (fun x => x.feed s.now)).dropStale c
    match (s.core c).queue with
    | e :: t => .ok (s.present1 c (fieldD w) e t)
    | [] => .ok (s.coreWait c (.column (fieldD w))))

/-- WAITA_RESUME: an event has been posted to the waiting core. -/
def execWaitaResume (c : Fin 12) (s : State) : Out :=
  whenLive s fun s =>
    match (s.core c).wait, (s.core c).queue with
    | .column d, e :: t => (s.coreResume c).present1 c d e t
    | _, _ => s

/-- SKIPQ; an event posted in the same tick stays queued (R278). -/
def execSkipq (c : Fin 12) (w : BitVec 40) (s : State) : Out :=
  .next (s.issue c 0x47 w .ald (regLegalDA w) fun s =>
    let q := (s.core c).queue
    let old := q.filter (fun e => e.at_ != s.raw)
    let n := min ((s.core c).rd (fieldA w)).toNat old.length
    .ok ((s.updCore c (fun x =>
      { x.wr (fieldD w) (BitVec.ofNat 48 n) with queue := q.drop n, zf := decide (n = old.length) })).cnt
        F.ALD.EVT_CNT.SKIPPED n c))

/-! ## WIN and VISIT -/

/-- The window that WIN sets: none where it needs a current event and there is none (R263). -/
def Core.winValue (x : Core) (w : BitVec 40) : Option Nat :=
  if fieldA w != 0 then some (x.rd (fieldA w)).toNat
  else if imm24 w != 0 then some (imm24 w)
  else x.cur.map (fun e => bits e.word1 20 8)

/-- WIN. -/
def execWin (c : Fin 12) (w : BitVec 40) (s : State) : Out :=
  .next (s.issue c 0x42 w .ald (immLegal w && fieldD w == 0 && (fieldA w == 0 || imm24 w == 0)) fun s =>
    match (s.core c).winValue w with
    | none => .error tBOOK
    | some v => .ok (s.updCore c fun x => { x with win := clampN 1 4096 v }))

/-- The strips of the bank that a core serves (R224). -/
def bankStrips (b : Nat) : List Nat := (List.range 6).map (fun k => 6 * b + k)

/-- A VISIT that finds its column's visit open joins it on the strips of a bank (R187). -/
def State.visitJoin (s : State) (ds : List Nat) (col : Nat) (t : Inst) : State :=
  forEach ds s (fun s d =>
    match s.visitOf d col with
    | none => s
    | some v => s.setStrip d { s.strip d with visits := Tab.put (s.openVisits d) v { s.visit d v with join := some (s.raw, t) } })

/-- VISIT (R264). -/
def execVisit (c : Fin 12) (w : BitVec 40) (s : State) : Out :=
  .next (s.issue c 0x43 w .ald (regLegalA w) fun s =>
    let col := ((s.core c).rd (fieldA w)).toNat % 1024
    match (s.core c).cur with
    | none => .error tBOOK
    | some e =>
      if e.col != col then .error tBOOK
      else
        let need := (bankStrips c).filter (fun d => (s.visitOf d col).isNone)
        if need.all (fun d => (s.freeVisit d).isSome) then
          .ok (((forEach need s (fun s d => s.openVisit d col e.tcol)).visitJoin (bankStrips c) col e.tcol).updCore c
            (fun x => { x with zf := need.isEmpty, cf := false }))
        else
          .ok ((forEach (bankStrips c) s (fun s d => s.cnt F.STRIP.CTX_CNT2.VREF 1 d)).updCore c
            (fun x => { x with zf := false, cf := true })))

/-! ## FIRE (R236, R237, R265) -/

/-- Bank b's part of the segment field of an Ephemeris word 1 (R280). -/
def segMask (word1 : Word) (b : Nat) : Nat :=
  (List.range 6).foldl (fun m j => m + if word1.getLsbD (24 + 6 * b + j) then 3 * 4 ^ j else 0) 0

/-- FIRE: the booking starts on its way, or the instruction traps BOOK. -/
def execFire (c : Fin 12) (w : BitVec 40) (s : State) : Out :=
  .next (s.issue c 0x41 w .ald (regLegalAB w) fun s =>
    let x := s.core c
    let o := (x.rd (fieldA w)).toInt
    match x.cur with
    | none => .error tBOOK
    | some e =>
      if x.booked || !(bankStrips c).all (fun d => (s.visitOf d e.col).isSome) || decide (o < -20000 ∨ 20000 < o) then
        .error tBOOK
      else
        let m := if fieldB w != 0 then (x.rd (fieldB w)).toNat % 4096 else segMask e.word1 c
        .ok (s.updCore c fun x => { x with book := some (o, m) }))

/-- A part's T_fire (R19 step 3, R235). -/
def ColEv.fireAt (e : ColEv) (o : Int) : Inst := e.tcol + o + 16 * ((e.d : Int) - 128)

/-- The deadline of a booking: 102.4 ns and 120 ns before T_col plus its offset (R237 step 1). -/
def ColEv.deadline (e : ColEv) (o : Int) : Inst := e.tcol + o - 4448

/-- A part's span of R237 step 2 contains an instant. -/
def State.spans (s : State) (p : Part) (t : Inst) : Bool :=
  decide (p.tfire ≤ t ∧ t ≤ p.tfire + 16 * (s.startTout : Int) + 16 * (p.lcnt : Int) + 256)

/-- The end of a booking on its core: C and V. -/
def State.bookEnd (s : State) (c : Nat) (cf vf booked : Bool) : State :=
  s.updCore c (fun x => { x with book := none, cf := cf, vf := vf, booked := booked })

/-- A refused booking counts. -/
def State.bookRefuse (s : State) (c : Nat) (flight : Bool) : State :=
  ((s.cnt (if flight then F.FIRE.REFUSE_CNT.FLIGHT else F.FIRE.REFUSE_CNT.LATE)).cnt F.ALD.BOOK_CNT.REFUSED 1 c).bookEnd
    c true flight false

/-- An accepted booking: the part joins the queue and its visits. -/
def State.bookAccept (s : State) (c : Nat) (e : ColEv) (o : Int) (m win : Nat) : State :=
  let pid := s.fire.nextPid
  let p : Part := { pid := pid, bank := c, col := e.col, tfire := e.fireAt o, mask := m, lcnt := win, pxb := bits e.word1 7 0 }
  let s := { s with fire := { s.fire with parts := insertPart p s.fire.parts, nextPid := pid + 1 } }
  ((s.joinVisit c e.col pid).cnt F.ALD.BOOK_CNT.ACCEPTED 1 c).bookEnd c false false true

/-- The scheduler judges a booking in the tick of its arrival (R237). -/
def State.judgeBooking (s : State) (c : Nat) (e : ColEv) (o : Int) (m win : Nat) : State :=
  if e.deadline o < s.now + 16 then s.bookRefuse c false
  else if 4 ≤ (s.fire.parts.filter (fun p => p.bank == c && s.spans p (e.fireAt o))).length then s.bookRefuse c true
  else s.bookAccept c e o m win

/-- BOOKING_ARRIVAL: the booking of FIRE reaches the scheduler, and FIRE completes. A sweep boundary of the tick acts first
(R278). -/
def execBookingArrival (c : Fin 12) (s : State) : Out :=
  whenLive s fun s =>
    let x := s.core c
    match x.book, x.cur with
    | some (o, m), some e => (s.sweepFirst.judgeBooking c e o m x.win).stopDue c
    | _, _ => s

/-! ## CLOSE, VPOS and SYNCA -/

/-- CLOSE: Z tells of a request made before this cycle (R266, R278). -/
def execClose (c : Fin 12) (w : BitVec 40) (s : State) : Out :=
  .next (s.issue c 0x44 w .ald (regLegal0 w) fun s =>
    .ok ({ s with dev := { s.dev with close := true, closeAt := if s.dev.close then s.dev.closeAt else s.raw } }.updCore c fun x =>
      { x with zf := s.dev.close && s.dev.closeAt != s.raw }))

/-- VPOS (R267). -/
def execVpos (c : Fin 12) (w : BitVec 40) (s : State) : Out :=
  .next (s.issue c 0x45 w .ald (regLegalA w) fun s =>
    let t := s24 ((s.core c).rd (fieldA w))
    let u := clampI (-745654) 745654 t
    let own := s.fld F.MIRR.V_CFG.OWNER == c.val
    let s1 := if own then { s with mirr := { s.mirr with vpos := some u } } else s.cnt F.MIRR.V_STAT.NOTOWN
    .ok (s1.updCore c fun x => { x with vf := u != t, cf := !own, zf := s.flag F.MIRR.STAT.V_INPOS }))

/-- SYNCA (R238, R268). -/
def execSynca (c : Fin 12) (w : BitVec 40) (s : State) : Out :=
  .next (s.issue c 0x46 w .ald (regLegalA w) fun s =>
    let m := ((s.core c).rd (fieldA w)).toNat % 16
    if m.testBit c then .ok (s.coreWait c (.sync m)) else .error tILLEGAL)

/-- The Alidade cores of a mask, and those of them that are running. -/
def syncCores (m : Nat) : List Nat := [0, 1, 2, 3].filter (fun i => m.testBit i)

/-- A core waits in the barrier of a mask. -/
def State.inSync (s : State) (m i : Nat) : Bool := decide ((s.core i).wait = .sync m)

/-- One core is released; V and INCOMPLETE say whether a core of the mask was missing. -/
def State.syncFree (s : State) (missing : Bool) (i : Nat) : State :=
  let s := (s.coreResume i).updCore i (fun x => { x with vf := missing })
  if missing then s.cnt F.ALD.SYNC.INCOMPLETE 1 i else s

/-- SYNCA_RELEASE: every core of the mask that runs waits with the same mask. -/
def execSyncaRelease (c : Fin 12) (s : State) : Out :=
  whenLive s fun s =>
    match (s.core c).wait with
    | .sync m =>
      let l := syncCores m
      onlyIf ((l.filter s.coreRuns).all (s.inSync m)) s fun s =>
        forEach (l.filter (s.inSync m)) s (fun t i => t.syncFree (l.any (fun i => !s.coreRuns i)) i)
    | _ => s

end Sys2Proof.Machine
end

