-- ==== Sys2Proof/Machine/Tap.lean ====
section
/-!
DEFINITION. The test access port: its instructions, the boundary register, and reading and leaving FROZEN
(spec/13_modes_startup.md R323 to R325, spec/18_package_electrical.md R414).
-/
namespace Sys2Proof.Machine

/-! ## The boundary register (R323, R414) -/

/-- This unit pulls TRIG_ANY_N; some unit does (R100). -/
def State.anyPulled (s : State) : Bool := s.mon.anyEnd.isSome
def State.anyLow (s : State) : Bool := s.anyPulled || decide (s.now < s.mon.otherEnd)

/-- The cells whose level the state or a rule gives, by cell number: FIREb, SEGMASK while its lane idles or the clocks stand,
LSR_EN, a master's ARM_BUS, TRIG_ANY_N, a low RESET_N, the SOUT channels, TPA and TPB. -/
def State.knownCells (s : State) : List (Nat × Bool) :=
  (List.range 4).map (fun b => (3 + 2 * b, s.live && s.fireLevel b)) ++
  (if s.dev.inReset || s.fire.lane.all (fun p => decide (p.2 ≤ s.now)) then [(11, false)] else []) ++ [(15, s.fire.lsrEn)] ++
  (if s.fld F.MON.MU_CFG.ROLE = 1 then
    [(18, s.flag F.MON.MU_STAT.ARM_BUS), (19, s.flag F.MON.MU_STAT.ARM_BUS)] else []) ++
  [(21, !s.anyLow)] ++ (if s.anyPulled then [(22, false)] else []) ++ (if s.dev.pin.isSome then [(24, false)] else []) ++
  (List.range 4).map (fun ch => (44 + 2 * ch, s.dome.levels.testBit ch)) ++
  [(56, s.tpLevel false), (58, s.tpLevel true)]

/-- The cells as captured: a level that the model does not hold is a free value. -/
def State.captureCells (s : State) : Nat × State :=
  let r := s.takeFree .boundary
  (s.knownCells.foldl (fun v p => v - (v / 2 ^ p.1 % 2) * 2 ^ p.1 + (if p.2 then 2 ^ p.1 else 0)) (r.1 % 2 ^ 68), r.2)

/-- An instruction has been shifted in behind what Capture-IR loads, 0b0000_0001, and its data register has captured a value. -/
def State.tapLoad (s : State) (ir dr : Nat) (ext : Bool) : State :=
  { s with tap := { s.tap with ir := ir, irCap := 1, dr := dr, extest := ext } }

/-- FROZEN. -/
def State.isFrozen (s : State) : Bool := decide (s.dev.mode = .frozen)

/-- EXTEST: outside FROZEN it acts as BYPASS. -/
def execExtest (s : State) : Out :=
  .next (if s.isFrozen then s.captureCells.2.tapLoad 0x00 s.captureCells.1 true else s.tapLoad 0x00 0 false)

/-- SAMPLE_PRELOAD: the cells are captured, and the preloaded values follow. -/
def execSamplePreload (v : BitVec 68) (s : State) : Out :=
  let t := s.captureCells.2.tapLoad 0x01 s.captureCells.1 false
  .next { t with tap := { t.tap with cells := v.toNat } }

/-- BYPASS. -/
def execBypass (s : State) : Out := .next (s.tapLoad 0xFF 0 false)

/-! ## Identity and freeze status (R323) -/

/-- The 32-bit identity. -/
def State.idWord (s : State) : Nat := s.fuses.rev % 16 * 2 ^ 28 + 0x4896 * 2 ^ 12 + 0x6D5 * 2 + 1

/-- IDCODE. -/
def execIdcode (s : State) : Out := .next (s.tapLoad 0x02 s.idWord false)

/-- FRZ_STAT. -/
def execFrzStat (s : State) : Out := .next (s.tapLoad 0x20 (n1 s.isFrozen + s.dev.frzSrc * 2) false)

/-! ## Reading in FROZEN (R323, R324) -/

/-- A register that shows a latch of its accessor shows the port a free value. -/
def openToTap (a : Nat) : Bool := (latchRead a).isSome

/-- A word as the port reads it: raw memory, or a register without side effects; none at an unallocated address. -/
def State.tapRead (s : State) (a : Nat) : Option Word × State :=
  if inMem a then (some (s.rdMem a), s)
  else
    match blockOf a with
    | none => (none, s)
    | some blk =>
      if openToTap a then (some (BitVec.ofNat 48 (s.takeFree .unstated).1), (s.takeFree .unstated).2)
      else (some (s.view 0 blk a), s)

/-- FRZ_MEM: address, VALID and word; of an unallocated address the word is a free value. -/
def execFrzMem (addr : BitVec 26) (s : State) : Out :=
  .next (
    if s.isFrozen then
      match s.tapRead addr.toNat with
      | (some w, t) => t.tapLoad 0x21 (addr.toNat * 2 ^ 49 + 2 ^ 48 + w.toNat) false
      | (none, t) => (t.takeFree .unstated).2.tapLoad 0x21 (addr.toNat * 2 ^ 49 + (t.takeFree .unstated).1 % 2 ^ 48) false
    else s.tapLoad 0x21 0 false)

/-- FRZ_CHAIN: the contents of the chains are not specified. -/
def execFrzChain (s : State) : Out :=
  .next (if s.isFrozen then (s.takeFree .scanChain).2.tapLoad 0x22 (s.takeFree .scanChain).1 false else s.tapLoad 0x22 0 false)

/-! ## Leaving FROZEN (R325) -/

/-- FRZ_RESUME. -/
def execFrzResume (s : State) : Out :=
  let t := s.tapLoad 0x23 0 false
  .next (if s.isFrozen then ((t.showFreeze.setBit F.TIME.STAT.SUSPECT true).enterMode .safe).portsBringUp.thawSupplies else t)

/-- FRZ_RESET. -/
def execFrzReset (s : State) : Out := .next ((s.tapLoad 0x24 0 false).startReset F.DEV.RST_CAUSE.TAP)

end Sys2Proof.Machine
end

