-- ==== Sys2Proof/Machine/Waits.lean ====
section
/-!
DEFINITION. Waiting for time and events, mail and signals (spec/11_ivqua_instructions.md R257 to R260,
spec/10_ivqua_model.md R233, R234).
-/
namespace Sys2Proof.Machine

/-- A time word's value has been reached: at or before the present, and no more than 65,536 s before it (R257). -/
def State.reached (s : State) (v : Word) : Bool := decide (s.ticksOf v ≤ s.ticks)

/-- WAITT. -/
def execWaitt (c : Fin 12) (w : BitVec 40) (s : State) : Out :=
  .next (s.issue c 0x30 w .common (regLegalA w) fun s =>
    let v := (s.core c).rd (fieldA w)
    if 1250000000 ≤ v.toNat % 2147483648 then .error tILLEGAL
    else if s.reached v then .ok s
    else .ok (s.coreWait c (.time (s.instOf v))))

/-- WAITT_RESUME: the instant waited for has come. -/
def execWaittResume (c : Fin 12) (s : State) : Out :=
  whenLive s fun s =>
    match (s.core c).wait with
    | .time t => onlyIf (s.clk.timeRun && s.due t) s fun s => s.coreResume c
    | _ => s

/-- WAITE's result: the pending events of its mask are written and the sticky ones among them clear (R233). -/
def State.takeEvents (s : State) (c m d : Nat) : State :=
  let e := s.pendingEv c &&& m
  s.updCore c (fun x => { x.wr d (BitVec.ofNat 48 e) with ev := x.ev - (x.ev &&& e) })

/-- WAITE. -/
def execWaite (c : Fin 12) (w : BitVec 40) (s : State) : Out :=
  .next (s.issue c 0x31 w .common (immLegal w && fieldA w == 0 && decide (imm24 w < 256) && imm24 w != 0) fun s =>
    if s.pendingEv c &&& imm24 w != 0 then .ok (s.takeEvents c (imm24 w) (fieldD w))
    else .ok (s.coreWait c (.event (imm24 w) (fieldD w))))

/-- WAITE_RESUME: an event of the mask is pending. -/
def execWaiteResume (c : Fin 12) (s : State) : Out :=
  whenLive s fun s =>
    match (s.core c).wait with
    | .event m d => onlyIf (s.pendingEv c &&& m != 0) s fun s => (s.coreResume c).takeEvents c m d
    | _ => s

/-- SEND; one that finds the mailbox full traps, and counts in the mailbox's FULL (R378). -/
def execSend (c : Fin 12) (w : BitVec 40) (s : State) : Out :=
  .next (s.issue c 0x32 w .common (mailLegal w && fieldD w == 0) (fun s =>
    let s := s.mbxYield (mailBox w) (.core c)
    if (s.mbx (mailBox w)).msg.isEmpty then
      .ok (s.mbxPlace (mailBox w) (coreCode c) ((s.core c).getB (mailAt w) (mailLen w))).1
    else .error tMBXFULL) (fun s => s.cnt F.MBX.CNT.FULL 1 (mailBox w)))

/-- RECV; a message that a core has placed in the same tick is not yet there (R278). -/
def execRecv (c : Fin 12) (w : BitVec 40) (s : State) : Out :=
  .next (s.issue c 0x33 w .common (mailLegal w && w.toNat % 8 == 0) fun s =>
    let m := s.mbxThere (mailBox w)
    if m.isEmpty then .ok (s.updCore c fun x => { x.wr (fieldD w) 0 with zf := true })
    else .ok ((s.mbxTake (mailBox w)).updCore c fun x =>
      { (x.putB (mailAt w) m).wr (fieldD w) (BitVec.ofNat 48 m.length) with zf := false }))

/-- SIG. -/
def execSig (c : Fin 12) (w : BitVec 40) (s : State) : Out :=
  .next (s.issue c 0x34 w .common (immLegal w && fieldD w == 0 && fieldA w == 0 && decide (imm24 w ≤ 11)) fun s =>
    .ok (s.coreEvent (imm24 w) .sig))

end Sys2Proof.Machine
end

