-- ==== Sys2Proof/Machine/Writes.lean ====
section
/-!
DEFINITION. The commands that are one access to one register, each an access by the rules of spec/17_register_map.md; the
registers' own chapters say what the access does.
-/
namespace Sys2Proof.Machine

/-- A write command: the word reaches its register. -/
def writeCmd (a : Accessor) (addr : Nat) (v : Word) (s : State) : Out := whenLive s fun s => s.access a addr v

/-- A read command. -/
def readCmd (a : Accessor) (addr : Nat) (s : State) : Out := whenLive s fun s => s.accessRead a addr

/-- A write command without a word of its own: the register's fields are written back as they are held, with bits set. -/
def setCmd (a : Accessor) (addr mask : Nat) (s : State) : Out :=
  whenLive s fun s => s.access a addr (s.holdWith addr mask)

/-- RELOCK_T (R34). -/
def execRelockT (a : Accessor) (s : State) : Out := setCmd a 0x1000101 1 s

/-- RELOCK_L (R34). -/
def execRelockL (a : Accessor) (s : State) : Out := setCmd a 0x1000101 2 s

/-- SSC_ENABLE (R42). -/
def execSscEnable (a : Accessor) (v : Word) (s : State) : Out := writeCmd a 0x1000104 (v ||| 1) s

/-- SSC_DISABLE (R43). -/
def execSscDisable (a : Accessor) (v : Word) (s : State) : Out := writeCmd a 0x1000104 (v &&& ~~~1) s

/-- FMU_START (R57, R58). -/
def execFmuStart (a : Accessor) (v : Word) (s : State) : Out := writeCmd a 0x1000130 (v ||| 1) s

/-- BANK_EN_WRITE (R74). -/
def execBankEnWrite (a : Accessor) (v : Word) (s : State) : Out := writeCmd a 0x1000200 v s

/-- EYE_LOCK (R79). -/
def execEyeLock (a : Accessor) (v : Word) (s : State) : Out := writeCmd a 0x1000220 (v ||| 0x10000) s

/-- CAP_ARM (R95). -/
def execCapArm (a : Accessor) (s : State) : Out := setCmd a 0x1000421 1 s

/-- CAP_STOP (R95). -/
def execCapStop (a : Accessor) (s : State) : Out := setCmd a 0x1000421 4 s

/-- CAP_SWTRIG (R92). -/
def execCapSwtrig (a : Accessor) (s : State) : Out := setCmd a 0x1000421 2 s

/-- CAP_UNFREEZE (R96). -/
def execCapUnfreeze (a : Accessor) (s : State) : Out := setCmd a 0x1000421 8 s

/-- SWAP_REQ (R133). -/
def execSwapReq (a : Accessor) (v : Word) (s : State) : Out := writeCmd a 0x1000601 v s

/-- BRK_CLEAR (R148). -/
def execBrkClear (a : Accessor) (v : Word) (s : State) : Out := writeCmd a 0x1000602 v s

/-- BR_OUT_READ (R150). -/
def execBrOutRead (a : Accessor) (n : Fin 4) (s : State) : Out := readCmd a (0x1000608 + 2 * n.val) s

/-- H_MODEL0_READ (R127). -/
def execHModel0Read (a : Accessor) (s : State) : Out := readCmd a 0x1000510 s

/-- HK_SINGLE (R138). -/
def execHkSingle (a : Accessor) (v : Word) (s : State) : Out := writeCmd a 0x1000670 (v ||| 2) s

/-- HK_DATA_READ (R139). -/
def execHkDataRead (a : Accessor) (s : State) : Out := readCmd a 0x1000672 s

/-- REF_SRC_WRITE (R143). -/
def execRefSrcWrite (a : Accessor) (v : Word) (s : State) : Out := writeCmd a 0x1000674 v s

/-- TDAC_CFG_WRITE (R144). -/
def execTdacCfgWrite (a : Accessor) (v : Word) (s : State) : Out := writeCmd a 0x10006A0 v s

/-- STRIP_FLAG_CLEAR (R170). -/
def execStripFlagClear (a : Accessor) (d : Fin 24) (v : Word) (s : State) : Out := writeCmd a (0x1002000 + 64 * d.val) v s

/-- RING_CFG_WRITE (R206). -/
def execRingCfgWrite (a : Accessor) (b : Fin 4) (v : Word) (s : State) : Out := writeCmd a (0x1001000 + 64 * b.val) v s

/-- COMMIT_GO (R283). -/
def execCommitGo (a : Accessor) (v : Word) (s : State) : Out := writeCmd a 0x1000010 v s

/-- REQUEST_IDLE (R296). -/
def execRequestIdle (a : Accessor) (s : State) : Out := writeCmd a 0x1000002 1 s

/-- REQUEST_ARMED (R296). -/
def execRequestArmed (a : Accessor) (s : State) : Out := writeCmd a 0x1000002 2 s

/-- REQUEST_SCAN (R297). -/
def execRequestScan (a : Accessor) (s : State) : Out := writeCmd a 0x1000002 3 s

/-- REQUEST_SAFE (R296). -/
def execRequestSafe (a : Accessor) (s : State) : Out := writeCmd a 0x1000002 5 s

/-- BOOT_GO (R306). -/
def execBootGo (a : Accessor) (v : Word) (s : State) : Out := writeCmd a 0x1000020 (v ||| 0x10000) s

/-- SOFT_RESET (R320). -/
def execSoftReset (a : Accessor) (v : Word) (s : State) : Out := writeCmd a 0x1000005 v s

/-- FREEZE (R321). -/
def execFreeze (a : Accessor) (s : State) : Out := writeCmd a 0x100001A 1 s

/-- DBG_LOCK (R321). -/
def execDbgLock (a : Accessor) (v : Word) (s : State) : Out := writeCmd a 0x1000019 (v ||| 0x100) s

/-- DEG_ACK (R332). -/
def execDegAck (a : Accessor) (s : State) : Out := writeCmd a 0x1000802 1 s

/-- FLT_CLEAR (R349). -/
def execFltClear (a : Accessor) (v : Word) (s : State) : Out := writeCmd a 0x1000801 v s

/-- SF2_LOCK (R349). -/
def execSf2Lock (a : Accessor) (v : Word) (s : State) : Out := writeCmd a 0x1000808 (v ||| 1) s

/-- RETRAIN (R363). -/
def execRetrain (a : Accessor) (p : Fin 3) (s : State) : Out := setCmd a (0x1000900 + 64 * p.val) 2 s

/-- PORT_ENABLE_WRITE (R362). -/
def execPortEnableWrite (a : Accessor) (p : Fin 3) (v : Word) (s : State) : Out := writeCmd a (0x1000900 + 64 * p.val) v s

/-- PORT_FAULT_CLEAR (R368). -/
def execPortFaultClear (a : Accessor) (p : Fin 3) (s : State) : Out := writeCmd a (0x1000902 + 64 * p.val) 0x100 s

/-- SEM_CLAIM (R373). -/
def execSemClaim (a : Accessor) (n : Fin 32) (s : State) : Out := readCmd a (0x1000A80 + n.val) s

/-- SEM_SETG (R373). -/
def execSemSetg (a : Accessor) (n : Fin 32) (v : Word) (s : State) : Out := writeCmd a (0x1000A80 + n.val) (v ||| 2) s

/-- SEM_REL (R373). -/
def execSemRel (a : Accessor) (n : Fin 32) (s : State) : Out := writeCmd a (0x1000A80 + n.val) 1 s

/-- MBX_ACK (R380). -/
def execMbxAck (a : Accessor) (m : Fin 16) (s : State) : Out := writeCmd a (0x1000A03 + 8 * m.val) 1 s

/-- MBX_ACKC (R380). -/
def execMbxAckc (a : Accessor) (m : Fin 16) (s : State) : Out := writeCmd a (0x1000A03 + 8 * m.val) 2 s

/-- AGE_CAPTURE (R396). -/
def execAgeCapture (a : Accessor) (s : State) : Out := setCmd a 0x1000B07 2 s

/-- REGISTER_WRITE (R7 to R10, R404). -/
def execRegisterWrite (a : Accessor) (addr : BitVec 25) (v : Word) (s : State) : Out := writeCmd a addr.toNat v s

end Sys2Proof.Machine
end

