-- ==== Sys2Proof/Machine/Dispatch.lean ====
section
/-!
DEFINITION. One arm for each command: a direct call of its meaning.
-/
namespace Sys2Proof.Machine

def exec (i : Instr) (s : State) : Host.Outcome State Fault Refusal :=
  match i with
  | .refclkLoss absent => Sys2Proof.Machine.execRefclkLoss absent s
  | .pllLock p band => Sys2Proof.Machine.execPllLock p band s
  | .pllLossOfLock p => Sys2Proof.Machine.execPllLossOfLock p s
  | .relockT a => Sys2Proof.Machine.execRelockT a s
  | .relockL a => Sys2Proof.Machine.execRelockL a s
  | .syncInEdge => Sys2Proof.Machine.execSyncInEdge s
  | .dividerReset spllMoved lpllMoved => Sys2Proof.Machine.execDividerReset spllMoved lpllMoved s
  | .sscEnable a v => Sys2Proof.Machine.execSscEnable a v s
  | .sscDisable a v => Sys2Proof.Machine.execSscDisable a v s
  | .sscSegmentEnd => Sys2Proof.Machine.execSscSegmentEnd s
  | .sscPeriodEnd => Sys2Proof.Machine.execSscPeriodEnd s
  | .secondRollover => Sys2Proof.Machine.execSecondRollover s
  | .timeNowRead a => Sys2Proof.Machine.execTimeNowRead a s
  | .ppsEdge phase => Sys2Proof.Machine.execPpsEdge phase s
  | .ppsEdgeQualified held => Sys2Proof.Machine.execPpsEdgeQualified held s
  | .slewAdjustment => Sys2Proof.Machine.execSlewAdjustment s
  | .ppsLost => Sys2Proof.Machine.execPpsLost s
  | .fmuStart a v => Sys2Proof.Machine.execFmuStart a v s
  | .fmuGateStart phase => Sys2Proof.Machine.execFmuGateStart phase s
  | .fmuGateStop phase => Sys2Proof.Machine.execFmuGateStop phase s
  | .fmuTimeout => Sys2Proof.Machine.execFmuTimeout s
  | .fireTrimCalibrationDone b trim => Sys2Proof.Machine.execFireTrimCalibrationDone b trim s
  | .segmaskFrameStart => Sys2Proof.Machine.execSegmaskFrameStart s
  | .segmaskFrameEnd => Sys2Proof.Machine.execSegmaskFrameEnd s
  | .partJudgement => Sys2Proof.Machine.execPartJudgement s
  | .deferredPartRetry => Sys2Proof.Machine.execDeferredPartRetry s
  | .deferLimitSkip => Sys2Proof.Machine.execDeferLimitSkip s
  | .firePulseEnd b => Sys2Proof.Machine.execFirePulseEnd b s
  | .bankWake b => Sys2Proof.Machine.execBankWake b s
  | .bankEnWrite a v => Sys2Proof.Machine.execBankEnWrite a v s
  | .eyeBucketAdvance => Sys2Proof.Machine.execEyeBucketAdvance s
  | .eyeLock a v => Sys2Proof.Machine.execEyeLock a v s
  | .mpdEdge phase fromBelow => Sys2Proof.Machine.execMpdEdge phase fromBelow s
  | .startRearm => Sys2Proof.Machine.execStartRearm s
  | .startTimeout => Sys2Proof.Machine.execStartTimeout s
  | .pulseEnergyDelivery xs => Sys2Proof.Machine.execPulseEnergyDelivery xs s
  | .maskTableLoad => Sys2Proof.Machine.execMaskTableLoad s
  | .maskVerdict xs => Sys2Proof.Machine.execMaskVerdict xs s
  | .capArm a => Sys2Proof.Machine.execCapArm a s
  | .capStop a => Sys2Proof.Machine.execCapStop a s
  | .capSwtrig a => Sys2Proof.Machine.execCapSwtrig a s
  | .capUnfreeze a => Sys2Proof.Machine.execCapUnfreeze a s
  | .trigInEdge => Sys2Proof.Machine.execTrigInEdge s
  | .trigAnyFall => Sys2Proof.Machine.execTrigAnyFall s
  | .trigAnyRelease => Sys2Proof.Machine.execTrigAnyRelease s
  | .captureRecordWritten xs => Sys2Proof.Machine.execCaptureRecordWritten xs s
  | .armBusRise => Sys2Proof.Machine.execArmBusRise s
  | .avgIntervalStart => Sys2Proof.Machine.execAvgIntervalStart s
  | .avgTileWritten => Sys2Proof.Machine.execAvgTileWritten s
  | .controlPeriodBoundary vhv iH iV => Sys2Proof.Machine.execControlPeriodBoundary vhv iH iV s
  | .hLock => Sys2Proof.Machine.execHLock s
  | .lockTimeout => Sys2Proof.Machine.execLockTimeout s
  | .followingErrorFault x => Sys2Proof.Machine.execFollowingErrorFault x s
  | .feRecovery x => Sys2Proof.Machine.execFeRecovery x s
  | .sweepBoundary => Sys2Proof.Machine.execSweepBoundary s
  | .commitImmediate g => Sys2Proof.Machine.execCommitImmediate g s
  | .columnEventPost => Sys2Proof.Machine.execColumnEventPost s
  | .excitationHalfPeriodEnd w0 w1 w2 w3 => Sys2Proof.Machine.execExcitationHalfPeriodEnd w0 w1 w2 w3 s
  | .bridgeOutput n xs => Sys2Proof.Machine.execBridgeOutput n xs s
  | .polaritySwapDue n => Sys2Proof.Machine.execPolaritySwapDue n s
  | .swapReq a v => Sys2Proof.Machine.execSwapReq a v s
  | .brkClear a v => Sys2Proof.Machine.execBrkClear a v s
  | .brOutRead a n => Sys2Proof.Machine.execBrOutRead a n s
  | .hModel0Read a => Sys2Proof.Machine.execHModel0Read a s
  | .hkSingle a v => Sys2Proof.Machine.execHkSingle a v s
  | .hkConversionStart => Sys2Proof.Machine.execHkConversionStart s
  | .hkResultLand code => Sys2Proof.Machine.execHkResultLand code s
  | .hkDataRead a => Sys2Proof.Machine.execHkDataRead a s
  | .refSrcWrite a v => Sys2Proof.Machine.execRefSrcWrite a v s
  | .refSettled => Sys2Proof.Machine.execRefSettled s
  | .refSettleTimeout => Sys2Proof.Machine.execRefSettleTimeout s
  | .tdacCfgWrite a v => Sys2Proof.Machine.execTdacCfgWrite a v s
  | .biasOkChange d vexM => Sys2Proof.Machine.execBiasOkChange d vexM s
  | .biasErrTimeout ds => Sys2Proof.Machine.execBiasErrTimeout ds s
  | .channelStop d j events => Sys2Proof.Machine.execChannelStop d j events s
  | .blindCoincidence d j events => Sys2Proof.Machine.execBlindCoincidence d j events s
  | .channelRearm d j => Sys2Proof.Machine.execChannelRearm d j s
  | .conversionComplete d j => Sys2Proof.Machine.execConversionComplete d j s
  | .binDetection d => Sys2Proof.Machine.execBinDetection d s
  | .calTestComplete d smp hits offs => Sys2Proof.Machine.execCalTestComplete d smp hits offs s
  | .calNoHitTimeout d j => Sys2Proof.Machine.execCalNoHitTimeout d j s
  | .calStale d => Sys2Proof.Machine.execCalStale d s
  | .stripFlagClear a d v => Sys2Proof.Machine.execStripFlagClear a d v s
  | .listeningWindowClose b => Sys2Proof.Machine.execListeningWindowClose b s
  | .partLeavesFlight b => Sys2Proof.Machine.execPartLeavesFlight b s
  | .visitReadDone d => Sys2Proof.Machine.execVisitReadDone d s
  | .visitWritebackDone d => Sys2Proof.Machine.execVisitWritebackDone d s
  | .visitEmptyTimeout d => Sys2Proof.Machine.execVisitEmptyTimeout d s
  | .overflowCellEnters d => Sys2Proof.Machine.execOverflowCellEnters d s
  | .ringGroupEntry b => Sys2Proof.Machine.execRingGroupEntry b s
  | .ringStallTimeout b => Sys2Proof.Machine.execRingStallTimeout b s
  | .ringCfgWrite a b v => Sys2Proof.Machine.execRingCfgWrite a b v s
  | .wcIntervalEnd b => Sys2Proof.Machine.execWcIntervalEnd b s
  | .pointFrameSend p b => Sys2Proof.Machine.execPointFrameSend p b s
  | .nop c w => Sys2Proof.Machine.execNop c w s
  | .halt c w => Sys2Proof.Machine.execHalt c w s
  | .trap c w => Sys2Proof.Machine.execTrap c w s
  | .ldi c w => Sys2Proof.Machine.execLdi c w s
  | .ldh c w => Sys2Proof.Machine.execLdh c w s
  | .mov c w => Sys2Proof.Machine.execMov c w s
  | .add c w => Sys2Proof.Machine.execAdd c w s
  | .addi c w => Sys2Proof.Machine.execAddi c w s
  | .sub c w => Sys2Proof.Machine.execSub c w s
  | .subi c w => Sys2Proof.Machine.execSubi c w s
  | .mul c w => Sys2Proof.Machine.execMul c w s
  | .cmp c w => Sys2Proof.Machine.execCmp c w s
  | .cmpi c w => Sys2Proof.Machine.execCmpi c w s
  | .iand c w => Sys2Proof.Machine.execIand c w s
  | .ior c w => Sys2Proof.Machine.execIor c w s
  | .ixor c w => Sys2Proof.Machine.execIxor c w s
  | .inot c w => Sys2Proof.Machine.execInot c w s
  | .shl c w => Sys2Proof.Machine.execShl c w s
  | .shr c w => Sys2Proof.Machine.execShr c w s
  | .sar c w => Sys2Proof.Machine.execSar c w s
  | .ld c w => Sys2Proof.Machine.execLd c w s
  | .st c w => Sys2Proof.Machine.execSt c w s
  | .ldt c w => Sys2Proof.Machine.execLdt c w s
  | .stt c w => Sys2Proof.Machine.execStt c w s
  | .br c w => Sys2Proof.Machine.execBr c w s
  | .call c w => Sys2Proof.Machine.execCall c w s
  | .ret c w => Sys2Proof.Machine.execRet c w s
  | .loop c w => Sys2Proof.Machine.execLoop c w s
  | .waitt c w => Sys2Proof.Machine.execWaitt c w s
  | .waittResume c => Sys2Proof.Machine.execWaittResume c s
  | .waite c w => Sys2Proof.Machine.execWaite c w s
  | .waiteResume c => Sys2Proof.Machine.execWaiteResume c s
  | .send c w => Sys2Proof.Machine.execSend c w s
  | .recv c w => Sys2Proof.Machine.execRecv c w s
  | .sig c w => Sys2Proof.Machine.execSig c w s
  | .cmt c w => Sys2Proof.Machine.execCmt c w s
  | .cmtCommitMade c => Sys2Proof.Machine.execCmtCommitMade c s
  | .rds c w => Sys2Proof.Machine.execRds c w s
  | .wrs c w => Sys2Proof.Machine.execWrs c w s
  | .wrsArrival c => Sys2Proof.Machine.execWrsArrival c s
  | .waita c w => Sys2Proof.Machine.execWaita c w s
  | .waitaResume c => Sys2Proof.Machine.execWaitaResume c s
  | .fire c w => Sys2Proof.Machine.execFire c w s
  | .bookingArrival c => Sys2Proof.Machine.execBookingArrival c s
  | .win c w => Sys2Proof.Machine.execWin c w s
  | .visit c w => Sys2Proof.Machine.execVisit c w s
  | .close c w => Sys2Proof.Machine.execClose c w s
  | .vpos c w => Sys2Proof.Machine.execVpos c w s
  | .synca c w => Sys2Proof.Machine.execSynca c w s
  | .syncaRelease c => Sys2Proof.Machine.execSyncaRelease c s
  | .skipq c w => Sys2Proof.Machine.execSkipq c w s
  | .cpop c w => Sys2Proof.Machine.execCpop c w s
  | .cpopResume c => Sys2Proof.Machine.execCpopResume c s
  | .vld c w => Sys2Proof.Machine.execVld c w s
  | .vst c w => Sys2Proof.Machine.execVst c w s
  | .vadd c w => Sys2Proof.Machine.execVadd c w s
  | .vsub c w => Sys2Proof.Machine.execVsub c w s
  | .vmax c w => Sys2Proof.Machine.execVmax c w s
  | .vmin c w => Sys2Proof.Machine.execVmin c w s
  | .vsum c w => Sys2Proof.Machine.execVsum c w s
  | .vshr c w => Sys2Proof.Machine.execVshr c w s
  | .peak c w => Sys2Proof.Machine.execPeak c w s
  | .bgnd c w => Sys2Proof.Machine.execBgnd c w s
  | .pile c w => Sys2Proof.Machine.execPile c w s
  | .occ c w => Sys2Proof.Machine.execOcc c w s
  | .emit c w => Sys2Proof.Machine.execEmit c w s
  | .cupd c w => Sys2Proof.Machine.execCupd c w s
  | .watchdogExpiry c => Sys2Proof.Machine.execWatchdogExpiry c s
  | .coreStart a c => Sys2Proof.Machine.execCoreStart a c s
  | .coreLoadDone c => Sys2Proof.Machine.execCoreLoadDone c s
  | .coreStop a c => Sys2Proof.Machine.execCoreStop a c s
  | .hostev a c => Sys2Proof.Machine.execHostev a c s
  | .progLock a c => Sys2Proof.Machine.execProgLock a c s
  | .ephLoadGo a v => Sys2Proof.Machine.execEphLoadGo a v s
  | .ephVerifyDone => Sys2Proof.Machine.execEphVerifyDone s
  | .commitGo a v => Sys2Proof.Machine.execCommitGo a v s
  | .requestIdle a => Sys2Proof.Machine.execRequestIdle a s
  | .requestArmed a => Sys2Proof.Machine.execRequestArmed a s
  | .requestScan a => Sys2Proof.Machine.execRequestScan a s
  | .requestSafe a => Sys2Proof.Machine.execRequestSafe a s
  | .scanEntryChecksDone env => Sys2Proof.Machine.execScanEntryChecksDone env s
  | .resetEnd bootsel => Sys2Proof.Machine.execResetEnd bootsel s
  | .bootGo a v => Sys2Proof.Machine.execBootGo a v s
  | .bootChecksDone env => Sys2Proof.Machine.execBootChecksDone env s
  | .supplyInputOutOfWindow rail backup => Sys2Proof.Machine.execSupplyInputOutOfWindow rail backup s
  | .supplySwitchBack rail => Sys2Proof.Machine.execSupplySwitchBack rail s
  | .powerOnReset rail => Sys2Proof.Machine.execPowerOnReset rail s
  | .resetNAssert => Sys2Proof.Machine.execResetNAssert s
  | .resetNRelease => Sys2Proof.Machine.execResetNRelease s
  | .softReset a v => Sys2Proof.Machine.execSoftReset a v s
  | .domeReset => Sys2Proof.Machine.execDomeReset s
  | .freezePin => Sys2Proof.Machine.execFreezePin s
  | .freeze a => Sys2Proof.Machine.execFreeze a s
  | .dbgLock a v => Sys2Proof.Machine.execDbgLock a v s
  | .extest => Sys2Proof.Machine.execExtest s
  | .samplePreload v => Sys2Proof.Machine.execSamplePreload v s
  | .idcode => Sys2Proof.Machine.execIdcode s
  | .frzStat => Sys2Proof.Machine.execFrzStat s
  | .frzMem addr => Sys2Proof.Machine.execFrzMem addr s
  | .frzChain => Sys2Proof.Machine.execFrzChain s
  | .frzResume => Sys2Proof.Machine.execFrzResume s
  | .frzReset => Sys2Proof.Machine.execFrzReset s
  | .bypass => Sys2Proof.Machine.execBypass s
  | .domeFaultReaction => Sys2Proof.Machine.execDomeFaultReaction s
  | .lockstepMismatch => Sys2Proof.Machine.execLockstepMismatch s
  | .domePeriodicCheck c failed => Sys2Proof.Machine.execDomePeriodicCheck c failed s
  | .lsrEnRaise => Sys2Proof.Machine.execLsrEnRaise s
  | .degAck a => Sys2Proof.Machine.execDegAck a s
  | .degradedExit => Sys2Proof.Machine.execDegradedExit s
  | .degTmaxExpiry => Sys2Proof.Machine.execDegTmaxExpiry s
  | .fltClear a v => Sys2Proof.Machine.execFltClear a v s
  | .sf2Lock a v => Sys2Proof.Machine.execSf2Lock a v s
  | .zoneVerdict => Sys2Proof.Machine.execZoneVerdict s
  | .frameTimeout => Sys2Proof.Machine.execFrameTimeout s
  | .soutTestGap ch readHigh => Sys2Proof.Machine.execSoutTestGap ch readHigh s
  | .soutReadbackFailure ch => Sys2Proof.Machine.execSoutReadbackFailure ch s
  | .tpGap src ins => Sys2Proof.Machine.execTpGap src ins s
  | .tpOvercurrent src => Sys2Proof.Machine.execTpOvercurrent src s
  | .contactOpen k chB => Sys2Proof.Machine.execContactOpen k chB s
  | .contactDiscrepancy k => Sys2Proof.Machine.execContactDiscrepancy k s
  | .blockLockLoss p => Sys2Proof.Machine.execBlockLockLoss p s
  | .train p f => Sys2Proof.Machine.execTrain p f s
  | .flow p f => Sys2Proof.Machine.execFlow p f s
  | .flowSend p => Sys2Proof.Machine.execFlowSend p s
  | .ackReceived p rx => Sys2Proof.Machine.execAckReceived p rx s
  | .nakReceived p rx => Sys2Proof.Machine.execNakReceived p rx s
  | .ackTimeout p => Sys2Proof.Machine.execAckTimeout p s
  | .regRd p f => Sys2Proof.Machine.execRegRd p f s
  | .regWr p f => Sys2Proof.Machine.execRegWr p f s
  | .memRd p f => Sys2Proof.Machine.execMemRd p f s
  | .memWr p f => Sys2Proof.Machine.execMemWr p f s
  | .mbxSend p f => Sys2Proof.Machine.execMbxSend p f s
  | .mbxRecv p f => Sys2Proof.Machine.execMbxRecv p f s
  | .semQuery p f => Sys2Proof.Machine.execSemQuery p f s
  | .chain p f => Sys2Proof.Machine.execChain p f s
  | .downstreamForward p f => Sys2Proof.Machine.execDownstreamForward p f s
  | .upstreamFrameForward f => Sys2Proof.Machine.execUpstreamFrameForward f s
  | .retrain a p => Sys2Proof.Machine.execRetrain a p s
  | .portEnableWrite a p v => Sys2Proof.Machine.execPortEnableWrite a p v s
  | .portFault p => Sys2Proof.Machine.execPortFault p s
  | .portFaultClear a p => Sys2Proof.Machine.execPortFaultClear a p s
  | .semClaim a n => Sys2Proof.Machine.execSemClaim a n s
  | .semSetg a n v => Sys2Proof.Machine.execSemSetg a n v s
  | .semRel a n => Sys2Proof.Machine.execSemRel a n s
  | .semHoldExpiry p => Sys2Proof.Machine.execSemHoldExpiry p s
  | .mbxAck a m => Sys2Proof.Machine.execMbxAck a m s
  | .mbxAckc a m => Sys2Proof.Machine.execMbxAckc a m s
  | .scrubTileCheck => Sys2Proof.Machine.execScrubTileCheck s
  | .scrubRetry => Sys2Proof.Machine.execScrubRetry s
  | .breakdownMeasurement d vbd vspad => Sys2Proof.Machine.execBreakdownMeasurement d vbd vspad s
  | .hotSpadTestWindow d counts => Sys2Proof.Machine.execHotSpadTestWindow d counts s
  | .ageingIntervalEnd => Sys2Proof.Machine.execAgeingIntervalEnd s
  | .ageCapture a => Sys2Proof.Machine.execAgeCapture a s
  | .almanacRecord => Sys2Proof.Machine.execAlmanacRecord s
  | .registerWrite a addr v => Sys2Proof.Machine.execRegisterWrite a addr v s
  | .blockLock p => Sys2Proof.Machine.execBlockLock p s
  | .frameDiscarded p why => Sys2Proof.Machine.execFrameDiscarded p why s
  | .supplyInputInWindow rail backup => Sys2Proof.Machine.execSupplyInputInWindow rail backup s
  | .soutHalfPeriod levels => Sys2Proof.Machine.execSoutHalfPeriod levels s
  | .contactClosed k chB => Sys2Proof.Machine.execContactClosed k chB s
  | .sharedStoreCleared => Sys2Proof.Machine.execSharedStoreCleared s

end Sys2Proof.Machine
end

