-- ==== Sys2Proof/Safety.lean ====
section
/-!
DEFINITION. What counts as a well-kept state: memory in its one canonical form and the register tables in key order, so that
equal memories are equal data and a field reads back as it was last written. A run is safe while its states are so and no
step stops.
-/
namespace Sys2Proof.Machine

/-- Memory in its canonical form: addresses rise strictly and no word listed equals its reset contents (R401, R177, R308). -/
def Memory.wf (m : Tab Word) : Bool := Tab.wf memReset m

/-- Memory is canonical and the held and in-force register tables are in key order. -/
def State.wf (s : State) : Prop :=
  Memory.wf s.mem = true ∧ Tab.sorted s.regs = true ∧ Tab.sorted s.force = true

/-- A step that neither faults nor refuses. -/
def State.goesOn (s : State) : Prop := ∃ t, step s = .next t

/-! ## The vocabulary of the statements -/

/-- The command, run on the state, answers a next state, and that state has the property. -/
def Goes (c : Instr) (s : State) (P : State → Prop) : Prop := ∃ t, exec c s = .next t ∧ P t

/-- Every held register field is as before, but those whose keys are listed. -/
def sameRegs (ks : List Nat) (s t : State) : Prop := ∀ k, k ∉ ks → Tab.find? t.regs k = Tab.find? s.regs k

/-- Every held register field outside the address ranges listed, each from first to last, is as before. -/
def sameOutside (rs : List (Nat × Nat)) (s t : State) : Prop :=
  ∀ k, (∀ r ∈ rs, k / 64 < r.1 ∨ r.2 < k / 64) → Tab.find? t.regs k = Tab.find? s.regs k

/-- Every in-force copy is as before, but those whose keys are listed. -/
def sameForce (ks : List Nat) (s t : State) : Prop := ∀ k, k ∉ ks → Tab.find? t.force k = Tab.find? s.force k

/-- Core c can issue, its PC lies in its image, and the word fetched there is v. -/
def State.stands (s : State) (c : Nat) (v : Word) : Prop :=
  s.canIssue c = true ∧ (s.core c).pc < 47 * (s.core c).ntile ∧ (s.fetch c).map Prod.fst = some v

/-- The core with its PC moved past the instruction. -/
def Core.past (x : Core) : Core := { x with pc := x.pc + 1 }

/-- An instruction of core c has changed that core by f, its PC having moved on, and nothing else; only what the core has
cached may differ besides. -/
def Ran (s t : State) (c : Nat) (f : Core → Core) : Prop := ∃ k, t = s.setCore c { f (s.core c).past with cache := k }

/-- An instruction of core c has had no effect but its trap (R242); only what the core has cached may differ besides. -/
def Trapped (s t : State) (c cause : Nat) : Prop :=
  ∃ k, t = (s.setCore c { s.core c with cache := k }).trapTo c cause

/-- A mode change to m (R294): SEQ counts it, a pending transition ends, every core has its MODE event; outside the modes in
which frames run LSR_EN and the safe outputs are low, and SAFE blocks FIRE. The registers listed belong to the mode, the banks,
the start groups, DEG_STAT and the safe outputs, the ports' traffic and the strips. -/
def ModeChange (s t : State) (m : Mode) : Prop :=
  t.dev = { s.dev with mode := m } ∧ t.fld F.DEV.MODE_STAT.SEQ = (s.fld F.DEV.MODE_STAT.SEQ + 1) % 65536 ∧
  t.flag F.DEV.MODE_STAT.BUSY = false ∧ t.fld F.DEV.MODE_STAT.PEND_TO = 0 ∧
  (∀ c, c < 12 → t.core c = { s.core c with ev := (s.core c).ev ||| 128 }) ∧
  (m.runs = false → t.fire.lsrEn = false ∧ t.dome.cmd = false ∧ ∀ ch, ch < 4 → t.dome.levels.testBit ch = false) ∧
  (m = .safe → t.fire.blocked = true) ∧
  t = { s with regs := t.regs, hot := t.hot, reply := t.reply, fire := t.fire, mirr := t.mirr, afe := t.afe, strips := t.strips
               dev := t.dev, dome := t.dome, cores := t.cores, out := t.out, net := t.net, bg := t.bg } ∧
  sameOutside [(0x1000001, 0x1000001), (0x1000201, 0x1000201), (0x1000404, 0x1000407), (0x1000804, 0x1000804),
    (0x1000809, 0x1000809), (0x100080C, 0x100080D), (0x1000900, 0x10009BF), (0x1002000, 0x10025E7)] s t

/-- The commands of what keeps running while a reset holds the device and in FROZEN: the PLLs and their reference, the supplies,
RESET_N and the end of reset, the FREEZE_N pin, and the test access port (R317, R321 to R325, R33). -/
def alwaysOn : Instr → Bool
  | .refclkLoss _ | .pllLock _ _ | .pllLossOfLock _ => true
  | .supplyInputOutOfWindow _ _ | .supplyInputInWindow _ _ | .supplySwitchBack _ => true
  | .powerOnReset _ | .resetNAssert | .resetNRelease | .resetEnd _ | .freezePin => true
  | .extest | .samplePreload _ | .idcode | .frzStat | .frzMem _ | .frzChain | .frzResume | .frzReset | .bypass => true
  | _ => false

/-- The registers whose chapters give a write an action besides their fields' access codes: requests, resets, supplies, commits,
freeze, boot, PLLs, spread, FMU, bank enables, dither, masks, capture, park levels, bridges, housekeeping, faults, contacts, ports,
mailbox notices, semaphores, ageing, core control, Ephemeris load, rings and strip flags. -/
def writeActs (a : Nat) : Bool :=
  [0x1000002, 0x1000005, 0x1000009, 0x1000010, 0x1000019, 0x100001A, 0x1000020, 0x1000100, 0x1000101, 0x1000104,
    0x1000130, 0x1000200, 0x1000203, 0x1000414, 0x1000420, 0x1000421, 0x1000500].contains a ||
  [0x1000601, 0x1000602, 0x1000670, 0x1000671, 0x1000674, 0x10006A0, 0x1000801, 0x1000802, 0x100080C, 0x1000810,
    0x1000B07, 0x1000C20].contains a ||
  decide (0x1000110 ≤ a ∧ a < 0x1000120) || decide (0x1000A80 ≤ a ∧ a < 0x1000AA0) ||
  (decide (0x1000900 ≤ a ∧ a < 0x10009C0) && (a % 64 == 0 || a % 64 == 2)) ||
  (decide (0x1000A00 ≤ a ∧ a < 0x1000A80) && a % 8 == 3) || (List.range 12).any (fun c => a == coreBase c) ||
  (decide (0x1001000 ≤ a ∧ a < 0x10025E8) && a % 64 == 0)

/-- Nothing that has met in the running tick waits for its end: no supply has changed, no part has been judged and no conversion is
complete in it. -/
def State.calm (s : State) : Prop :=
  s.dev.supChg = false ∧ (∀ p ∈ s.fire.parts, p.judged = true → p.jtick ≠ (s.raw : Int)) ∧ ∀ d, d < 24 → (s.strip d).arr = []

/-- A strip without the marks of bias domains gated off for its parts in flight. -/
def Strip.ungated (x : Strip) : Strip := { x with slots := x.slots.map (fun p => (p.1, { p.2 with gates := [] })) }

/-- k steps that all go on, each to a well-kept state. -/
def State.safeFor : Nat → State → Prop
  | 0, s => s.wf
  | k + 1, s => s.wf ∧ ∃ t, step s = .next t ∧ t.safeFor k

end Sys2Proof.Machine
end

