-- ==== Sys2Proof/Certificates/Slice0/Obligations.lean ====
section
/-!
DEFINITION. The statements. `Goes c s P` says that command c, run on state s, answers a next state with property P. A frame
is written `t = { s with … }` over the components of the state that change, and `sameRegs` over the register fields that do.
-/
open Sys2Proof Sys2Proof.Machine

/-- A reference loss and a loss of lock set their sticky bits, tell the Dome and change nothing else. (R33; the hardware path of R329
and R333 removes LSR_EN on a TPLL, SPLL or reference loss, and holds back a FIRE pulse still to rise, log entries 6, 104, 126) -/
def Obligations.ReferenceLossAndLossOfLockAreReported : Prop :=
  ∀ s : State, s.wf → s.dev.inReset = false →
    (∀ absent, Goes (.refclkLoss absent) s fun t =>
      t.flag F.TIME.PLL_STAT.REF_LOSS = true ∧ t.flag F.TIME.STAT.SUSPECT = true ∧
      t.dome = { s.dome with reports := s.dome.reports ++ [(.ref, s.raw)], cmd := false } ∧
      t = { s with regs := t.regs, hot := t.hot, clk := { s.clk with refAbsent := absent }, fire := s.fire.drop s.now, dome := t.dome } ∧
      sameRegs [F.TIME.PLL_STAT.REF_LOSS.key 0 0, F.TIME.STAT.SUSPECT.key 0 0] s t) ∧
    (∀ p, s.flag (pllLock p) = true → Goes (.pllLossOfLock p) s fun t =>
      t.flag (pllLock p) = false ∧ t.flag (pllLol p) = true ∧
      (p = .tpll → t.flag F.TIME.STAT.SUSPECT = true) ∧
      t.fire = (if p = .lpll then s.fire else s.fire.drop s.now) ∧
      t.dome = { s.dome with reports := s.dome.reports ++ [(pllReport p, s.raw)], cmd := decide (p = .lpll) && s.dome.cmd } ∧
      t = { s with regs := t.regs, hot := t.hot, fire := t.fire, dome := t.dome } ∧
      sameRegs ([(pllLock p).key 0 0, (pllLol p).key 0 0] ++
        if p = .tpll then [F.TIME.STAT.SUSPECT.key 0 0] else []) s t)

/-- A PLL lock sets LOCK, an acquisition its band, and the first TPLL lock starts the time word from 0. (R46) -/
def Obligations.LockStartsTheTimeWordOnce : Prop :=
  ∀ (s : State) (p : Pll) (band : BitVec 6), s.wf → s.dev.inReset = false → s.flag (pllLock p) = false →
    Goes (.pllLock p band) s fun t =>
      t.flag (pllLock p) = true ∧ t.clk.acq p = false ∧
      t.fld (pllBand p) = (if s.clk.acq p then band.toNat else s.fld (pllBand p)) ∧
      (p = .tpll → s.clk.timeRun = false →
        t.timeNow = 0 ∧ t.epoch = 0 ∧ t.flag F.TIME.STAT.SUSPECT = false ∧ t.clk.timeRun = true) ∧
      ((p ≠ .tpll ∨ s.clk.timeRun = true) → t.clk.off = s.clk.off ∧ t.clk.timeRun = s.clk.timeRun) ∧
      t.mem = s.mem ∧ t.force = s.force ∧ t.fuses = s.fuses ∧ t.raw = s.raw

/-- A relock request re-runs an acquisition in IDLE and SAFE and is refused in every other mode. (spec/02_time_and_clocks.md, The three PLLs; spec/00_scope.md, Register fields and access) -/
def Obligations.RelockIsARegisterWriteOfIdleAndSafe : Prop :=
  ∀ (s : State) (a : Accessor), s.wf → s.live = true →
    (s.judgeWrite a 0x1000101 (s.holdWith 0x1000101 1) = none →
      (s.dev.mode = .idle ∨ s.dev.mode = .safe → Goes (.relockT a) s fun t =>
        t.flag F.TIME.PLL_STAT.TPLL_LOCK = false ∧
        t = { s with regs := t.regs, clk := { s.clk with acqT := true }, reply := some { code := 0, addr := 0x1000101, value := 0 } } ∧
        sameRegs [F.TIME.PLL_STAT.TPLL_LOCK.key 0 0] s t) ∧
      (s.dev.mode ≠ .idle → s.dev.mode ≠ .safe → Goes (.relockT a) s fun t =>
        t = { s with reply := some { code := Err.refused.code, addr := 0x1000101, value := 0 } })) ∧
    (s.judgeWrite a 0x1000101 (s.holdWith 0x1000101 2) = none →
      (s.dev.mode = .idle ∨ s.dev.mode = .safe → Goes (.relockL a) s fun t =>
        t.flag F.TIME.PLL_STAT.LPLL_LOCK = false ∧
        (∀ p : Fin 3, t.fld F.LINK.STAT.STATE p.val = min 1 (s.fld F.LINK.STAT.STATE p.val)) ∧
        (∀ p : Fin 3, 2 ≤ s.fld F.LINK.STAT.STATE p.val → t.fld F.LINK.STAT.DN_CAUSE p.val = 5) ∧
        t = { s with regs := t.regs, hot := t.hot, clk := { s.clk with acqL := true }
                     reply := some { code := 0, addr := 0x1000101, value := 0 }, out := t.out, net := t.net } ∧
        sameOutside [(0x1000100, 0x1000100), (0x1000900, 0x10009BF)] s t) ∧
      (s.dev.mode ≠ .idle → s.dev.mode ≠ .safe → Goes (.relockL a) s fun t =>
        t = { s with reply := some { code := Err.refused.code, addr := 0x1000101, value := 0 } }))

/-- SYNC_IN with ARM set resets the dividers 160 ns later, clears ARM and sets DONE. (spec/02_time_and_clocks.md, Divider synchronisation by SYNC_IN) -/
def Obligations.DividerResetFollowsSyncIn : Prop :=
  ∀ s : State, s.wf → s.live = true →
    (s.flag F.TIME.SYNC_CFG.ARM = true → s.clk.divDue = none → Goes .syncInEdge s fun t =>
      t = { s with clk := { s.clk with divDue := some (s.now + 3200) } }) ∧
    (s.flag F.TIME.SYNC_CFG.ARM = false → Goes .syncInEdge s fun t => t = s) ∧
    (∀ moved d, s.clk.divDue = some d → d ≤ s.now → Goes (.dividerReset moved false) s fun t =>
      t.flag F.TIME.SYNC_CFG.ARM = false ∧ t.flag F.TIME.SYNC_STAT.DONE = true ∧
      (moved = true → t.flag F.TIME.SYNC_STAT.SHIFTED = true) ∧
      s.clk.sscLag ≤ t.clk.sscLag ∧ t.clk.sscLag ≤ s.clk.sscLag + (if moved then 5000000 else 0) ∧
      t = { s with regs := t.regs, hot := t.hot, clk := { s.clk with divDue := none, sscLag := t.clk.sscLag }
                   free := if moved then s.free + 1 else s.free } ∧
      sameRegs ([F.TIME.SYNC_CFG.ARM.key 0 0, F.TIME.SYNC_STAT.DONE.key 0 0] ++
        if moved then [F.TIME.SYNC_STAT.SHIFTED.key 0 0] else []) s t) ∧
    (∀ moved d, s.clk.divDue = some d → d ≤ s.now → Goes (.dividerReset moved true) s fun t =>
      t.flag F.TIME.SYNC_CFG.ARM = false ∧ t.flag F.TIME.SYNC_STAT.DONE = true ∧ t.flag F.TIME.SYNC_STAT.SHIFTED = true ∧
      (∀ p : Fin 3, t.fld F.LINK.STAT.STATE p.val = if s.flag F.LINK.CTRL.EN p.val then 1 else min 1 (s.fld F.LINK.STAT.STATE p.val)) ∧
      (∀ p : Fin 3, 2 ≤ s.fld F.LINK.STAT.STATE p.val → t.fld F.LINK.STAT.DN_CAUSE p.val = 5) ∧
      t = { s with regs := t.regs, hot := t.hot, clk := { s.clk with divDue := none, sscLag := t.clk.sscLag }, free := t.free
                   out := t.out, net := t.net } ∧
      sameOutside [(0x1000102, 0x1000103), (0x1000900, 0x10009BF)] s t)

/-- The spread starts only on a sound table, walks its segments in order, and ends at a period's end. (spec/02_time_and_clocks.md, Spread spectrum on SPLL) -/
def Obligations.SpreadProfileRunsItsTable : Prop :=
  ∀ s : State, s.wf → s.live = true →
    let cfg := [F.TIME.SSC_CFG.NSEG.key 0 0, F.TIME.SSC_CFG.EN.key 0 0]
    let refused : Option Reply := some { code := Err.refused.code, addr := 0x1000104 }
    let noted := fun (t : State) => { s.dev with rwlAt := t.dev.rwlAt }
    (∀ a v, s.judgeWrite a 0x1000104 (v ||| 1) = none → s.flag F.TIME.SSC_STAT.ACTIVE = false →
      (s.sscTableOk (bits v 8 4) = true → Goes (.sscEnable a v) s fun t =>
        t.fld F.TIME.SSC_CFG.NSEG = bits v 8 4 ∧ t.flag F.TIME.SSC_CFG.EN = true ∧
        t.flag F.TIME.SSC_STAT.ACTIVE = true ∧ t.fld F.TIME.SSC_STAT.CUR_SEG = 0 ∧
        t = { s with regs := t.regs, hot := t.hot, reply := some { code := 0, addr := 0x1000104 }, dev := noted t
                     clk := { s.clk with sscEnding := false, sscDue := s.nextRef + 400 * (s.fld F.TIME.SSC_SEG.LEN 0 : Int) } } ∧
        sameRegs (cfg ++ [F.TIME.SSC_STAT.ACTIVE.key 0 0, F.TIME.SSC_STAT.CUR_SEG.key 0 0]) s t)) ∧
    (∀ a v, s.judgeWrite a 0x1000104 (v ||| 1) = none → s.sscTableOk (bits v 8 4) = false → Goes (.sscEnable a v) s fun t =>
      t.flag F.TIME.SSC_STAT.TBL_ERR = true ∧ t = { s with regs := t.regs, hot := t.hot, reply := refused, dev := noted t } ∧
      sameRegs [F.TIME.SSC_STAT.TBL_ERR.key 0 0] s t) ∧
    (∀ a v, s.judgeWrite a 0x1000104 (v ||| 1) = none → s.flag F.TIME.SSC_STAT.ACTIVE = true →
      s.sscTableOk (bits v 8 4) = true →
      (bits v 8 4 ≠ s.fld F.TIME.SSC_CFG.NSEG → Goes (.sscEnable a v) s fun t => t = { s with reply := refused, dev := noted t }) ∧
      (bits v 8 4 = s.fld F.TIME.SSC_CFG.NSEG → Goes (.sscEnable a v) s fun t =>
        t.flag F.TIME.SSC_CFG.EN = true ∧ t = { s with regs := t.regs, hot := t.hot, clk := { s.clk with sscEnding := false }
                                                       reply := some { code := 0, addr := 0x1000104 }, dev := noted t } ∧
        sameRegs [F.TIME.SSC_CFG.EN.key 0 0] s t)) ∧
    (∀ a v, s.judgeWrite a 0x1000104 (v &&& ~~~1) = none →
      s.flag F.TIME.SSC_STAT.ACTIVE = false ∨ bits v 8 4 = s.fld F.TIME.SSC_CFG.NSEG → Goes (.sscDisable a v) s fun t =>
        t.flag F.TIME.SSC_CFG.EN = false ∧ t.fld F.TIME.SSC_CFG.NSEG = bits v 8 4 ∧
        t = { s with regs := t.regs, hot := t.hot, reply := some { code := 0, addr := 0x1000104 }, dev := noted t
                     clk := { s.clk with sscEnding := s.clk.sscEnding || s.flag F.TIME.SSC_STAT.ACTIVE } } ∧ sameRegs cfg s t) ∧
    (∀ a v, s.judgeWrite a 0x1000104 (v &&& ~~~1) = none → s.flag F.TIME.SSC_STAT.ACTIVE = true →
      bits v 8 4 ≠ s.fld F.TIME.SSC_CFG.NSEG → Goes (.sscDisable a v) s fun t => t = { s with reply := refused, dev := noted t }) ∧
    (s.flag F.TIME.SSC_STAT.ACTIVE = true → s.clk.sscDue ≤ s.now →
      (s.sscLast = false ∨ s.clk.sscEnding = false → Goes .sscSegmentEnd s fun t =>
        let n := if s.sscLast then 0 else s.fld F.TIME.SSC_STAT.CUR_SEG + 1
        t.fld F.TIME.SSC_STAT.CUR_SEG = n % 16 ∧
        t = { s with regs := t.regs, hot := t.hot, clk := { s.clk with
          sscLag := s.lagAt s.clk.sscDue, sscDue := s.clk.sscDue + 400 * (s.fld F.TIME.SSC_SEG.LEN n : Int) } } ∧
        sameRegs [F.TIME.SSC_STAT.CUR_SEG.key 0 0] s t) ∧
      (s.sscLast = true → s.clk.sscEnding = true → Goes .sscPeriodEnd s fun t =>
        t.flag F.TIME.SSC_STAT.ACTIVE = false ∧ t.fld F.TIME.SSC_STAT.CUR_SEG = 0 ∧
        t = { s with regs := t.regs, hot := t.hot, clk := { s.clk with sscEnding := false, sscLag := s.lagAt s.clk.sscDue } } ∧
        sameRegs [F.TIME.SSC_STAT.ACTIVE.key 0 0, F.TIME.SSC_STAT.CUR_SEG.key 0 0] s t))

/-- The rollover returns TICK to 0 and advances the second, and a read of NOW latches the reader's own epoch. (spec/02_time_and_clocks.md, The time word; spec/17_register_map.md, Reads with side effects) -/
def Obligations.TimeWordAdvancesAndIsReadWithItsEpoch : Prop :=
  ∀ s : State, s.live = true →
    (s.lastTick = true →
      let u := s.tickEnd
      u.lastTick = true → (u.flag F.TIME.PPS_STAT.PRESENT = true ∨ u.ripe .time = false) → Goes .secondRollover s fun t =>
        t = { u with raw := u.raw + 1, aon := u.aon + 8, hot := [] } ∧ t.ticks = u.ticks + 1 ∧ t.ticks % secTicks = 0 ∧
        t.ticks / secTicks = u.ticks / secTicks + 1) ∧
    (s.lastTick = false → Goes .secondRollover s fun t => t = s) ∧
    (s.calm → s.tickEnd = s) ∧
    (∀ a, Goes (.timeNowRead a) s fun t =>
      t = { s with latch := t.latch, reply := some { code := 0, addr := 0x1000120, value := s.timeNow } } ∧
      (Tab.sorted s.latch = true → t.latched a 0 = BitVec.ofNat 48 s.epoch) ∧
      ∀ b k, latchKey b k ≠ latchKey a 0 → t.latched b k = s.latched b k)

/-- A PPS edge is held, qualified and accepted, a pulse too short is a glitch, and a slew adjusts by one tick. (spec/02_time_and_clocks.md, PPS alignment) -/
def Obligations.PpsEdgesAreQualifiedAndSlewed : Prop :=
  ∀ s : State, s.wf → s.live = true →
    (∀ phase : BitVec 4, s.clk.ppsPend = none → Goes (.ppsEdge phase) s fun t =>
      t = { s with clk := { s.clk with ppsPend := some (s.now + phase.toNat) } }) ∧
    (∀ (phase : BitVec 4) e, s.clk.ppsPend = some e → Goes (.ppsEdge phase) s fun t =>
      t.fld F.TIME.PPS_CNT.GLITCH = min (s.fld F.TIME.PPS_CNT.GLITCH + 1) 65535 ∧
      t = { s with regs := t.regs, hot := t.hot, clk := { s.clk with ppsPend := some (s.now + phase.toNat) } } ∧
      sameRegs [F.TIME.PPS_CNT.GLITCH.key 0 0] s t) ∧
    (∀ e, s.clk.ppsPend = some e → Goes (.ppsEdgeQualified false) s fun t =>
      t.fld F.TIME.PPS_CNT.GLITCH = min (s.fld F.TIME.PPS_CNT.GLITCH + 1) 65535 ∧
      t = { s with regs := t.regs, hot := t.hot, clk := { s.clk with ppsPend := none } } ∧ sameRegs [F.TIME.PPS_CNT.GLITCH.key 0 0] s t) ∧
    (∀ e, s.clk.ppsPend = some e → e + 2000 ≤ s.now → s.ppsOk e = true → Goes (.ppsEdgeQualified true) s fun t =>
      let mode := s.act F.TIME.PPS_CFG.MODE
      let err := s.ppsError e
      let n := roundDiv err 16
      let r := clampN 1 200 (s.act F.TIME.PPS_CFG.RATE)
      t.flag F.TIME.PPS_STAT.PRESENT = true ∧ t.clk.ppsPend = none ∧ t.clk.ppsLast = some e ∧
      (s.ripe .time = false → t.fld F.TIME.PPS_STAMP.STAMP = (s.wordAt e).toNat ∧ t.fldS F.TIME.PPS_ERR.ERR = err ∧
        t.fld F.TIME.PPS_ERR.PHASE = phaseOf e ∧ t.fld F.TIME.PPS_CNT.ACCEPTED = (s.fld F.TIME.PPS_CNT.ACCEPTED + 1) % 65536 ∧
        t.clk.off = (if mode = 1 then s.clk.off - n else s.clk.off) ∧ (mode = 1 → n ≠ 0 → t.flag F.TIME.STAT.STEPPED = true) ∧
        t.clk.slewLeft = (if mode = 2 then min n.natAbs (r * 1250) else 0) ∧ (mode = 2 → t.clk.slewDrop = decide (0 < err)) ∧
        t.flag F.TIME.PPS_STAT.SLEWING = decide (t.clk.slewLeft ≠ 0) ∧ (mode ≠ 1 → t.out = s.out) ∧
        t = { s with regs := t.regs, hot := t.hot, clk := t.clk, out := t.out })) ∧
    (∀ e, s.clk.ppsPend = some e → e + 2000 ≤ s.now → s.ppsOk e = false → Goes (.ppsEdgeQualified true) s fun t =>
      t.fld F.TIME.PPS_CNT.OUTLIER = min (s.fld F.TIME.PPS_CNT.OUTLIER + 1) 65535 ∧
      t = { s with regs := t.regs, hot := t.hot, clk := { s.clk with ppsPend := none } } ∧
      sameRegs [F.TIME.PPS_CNT.OUTLIER.key 0 0] s t) ∧
    (s.clk.slewLeft ≠ 0 → s.clk.slewNext ≤ s.now →
      s.lastTick = false ∨ s.clk.slewDrop = true ∨ s.flag F.TIME.PPS_STAT.PRESENT = true ∨ s.ripe .time = false →
      Goes .slewAdjustment s fun t =>
      t = { s with regs := t.regs, hot := t.hot, clk := { s.clk with
        off := s.clk.off + (if s.clk.slewDrop then -1 else 1), slewLeft := s.clk.slewLeft - 1
        slewNext := s.clk.slewNext + 16 * (s.clk.slewIvl : Int) } } ∧
      t.flag F.TIME.PPS_STAT.SLEWING = decide (s.clk.slewLeft ≠ 1) ∧ sameRegs [F.TIME.PPS_STAT.SLEWING.key 0 0] s t) ∧
    (∀ l, s.flag F.TIME.PPS_STAT.PRESENT = true → s.clk.ppsLast = some l → l + 22000000000 ≤ s.now →
      Goes .ppsLost s fun t =>
        t.flag F.TIME.PPS_STAT.PRESENT = false ∧ t.flag F.TIME.PPS_STAT.LOST = true ∧ t = { s with regs := t.regs, hot := t.hot } ∧
        sameRegs [F.TIME.PPS_STAT.PRESENT.key 0 0, F.TIME.PPS_STAT.LOST.key 0 0] s t)

/-- The FMU is armed, its first edge starts the gate, its stop edge delivers the gate's length, and 1.1 s without an edge ends it. (spec/02_time_and_clocks.md, Frequency-measurement unit) -/
def Obligations.FrequencyGateMeasures : Prop :=
  ∀ s : State, s.wf → s.live = true →
    (∀ a v, s.judgeWrite a 0x1000130 (v ||| 1) = none →
      (s.flag F.TIME.FMU_STAT.BUSY = false → fmuAllowed (bits v 3 2) (bits v 5 4) = true → Goes (.fmuStart a v) s fun t =>
        t.flag F.TIME.FMU_STAT.BUSY = true ∧ t.fld F.TIME.FMU_CFG.NPER = bits v 23 8 ∧
        t.fld F.TIME.FMU_CFG.PRESC = bits v 5 4 ∧ t.fld F.TIME.FMU_CFG.SRC = bits v 3 2 ∧
        t.fld F.TIME.FMU_CFG.CONT = bits v 1 1 ∧ t.clk = { s.clk with fmuGate := none, fmuLast := s.now } ∧
        t = { s with regs := t.regs, hot := t.hot, clk := t.clk, reply := some { code := 0, addr := 0x1000130 } } ∧
        sameRegs [F.TIME.FMU_CFG.NPER.key 0 0, F.TIME.FMU_CFG.PRESC.key 0 0, F.TIME.FMU_CFG.SRC.key 0 0,
          F.TIME.FMU_CFG.CONT.key 0 0, F.TIME.FMU_STAT.BUSY.key 0 0] s t) ∧
      (s.flag F.TIME.FMU_STAT.BUSY = true ∨ fmuAllowed (bits v 3 2) (bits v 5 4) = false → Goes (.fmuStart a v) s fun t =>
        t = { s with reply := some { code := Err.refused.code, addr := 0x1000130, value := 0 } })) ∧
    (∀ phase : BitVec 4, s.flag F.TIME.FMU_STAT.BUSY = true → s.clk.fmuGate = none → Goes (.fmuGateStart phase) s fun t =>
      t = { s with clk := { s.clk with fmuGate := some (s.now + phase.toNat), fmuLast := s.now + phase.toNat } }) ∧
    (∀ (phase : BitVec 4) g, s.flag F.TIME.FMU_STAT.BUSY = true → s.clk.fmuGate = some g →
      Goes (.fmuGateStop phase) s fun t =>
        (t.fld F.TIME.FMU_RES.RES : Int) = (s.now + phase.toNat - g) % 2 ^ 48 ∧ t.flag F.TIME.FMU_STAT.DONE = true ∧
        t.flag F.TIME.FMU_STAT.OVR = (s.flag F.TIME.FMU_STAT.OVR || s.flag F.TIME.FMU_STAT.DONE) ∧
        t.flag F.TIME.FMU_STAT.BUSY = s.flag F.TIME.FMU_CFG.CONT ∧
        t = { s with regs := t.regs, hot := t.hot, clk := { s.clk with
          fmuGate := if s.flag F.TIME.FMU_CFG.CONT then some (s.now + phase.toNat) else none, fmuLast := s.now + phase.toNat } } ∧
        sameRegs [F.TIME.FMU_RES.RES.key 0 0, F.TIME.FMU_STAT.DONE.key 0 0, F.TIME.FMU_STAT.OVR.key 0 0,
          F.TIME.FMU_STAT.BUSY.key 0 0] s t) ∧
    (s.flag F.TIME.FMU_STAT.BUSY = true → s.clk.fmuLast + 22000000000 ≤ s.now → Goes .fmuTimeout s fun t =>
      t.fld F.TIME.FMU_RES.RES = 0 ∧ t.flag F.TIME.FMU_STAT.TIMEOUT = true ∧ t.flag F.TIME.FMU_STAT.DONE = true ∧
      t.flag F.TIME.FMU_STAT.BUSY = false ∧ t = { s with regs := t.regs, hot := t.hot, clk := { s.clk with fmuGate := none } } ∧
      sameRegs [F.TIME.FMU_RES.RES.key 0 0, F.TIME.FMU_STAT.DONE.key 0 0, F.TIME.FMU_STAT.TIMEOUT.key 0 0,
        F.TIME.FMU_STAT.BUSY.key 0 0] s t)

/-- A bank's FIRE calibration writes TRIM, a bank wakes at its stagger point, and a bank disabled goes to sleep. (spec/03_firing.md, Outputs to the laser driver; spec/03_firing.md, Bank wake-up) -/
def Obligations.BanksCalibrateWakeAndSleep : Prop :=
  ∀ s : State, s.wf → s.live = true →
    (∀ (b : Fin 4) (trim : BitVec 6) (i : Inst), s.dev.mode = .armed → Tab.find? s.fire.trim b.val = some i →
      i + 81900000 ≤ s.now → Goes (.fireTrimCalibrationDone b trim) s fun t =>
        t.fld F.FIRE.TRIM.TRIM b.val = trim.toNat ∧ t.bit F.FIRE.STAT.TRIMMED b.val = true ∧
        t = { s with regs := t.regs, hot := t.hot, fire := { s.fire with trim := Tab.del s.fire.trim b.val } } ∧
        sameRegs [F.FIRE.TRIM.TRIM.key b.val 0, F.FIRE.STAT.TRIMMED.key 0 0] s t) ∧
    (∀ (b : Fin 4) (i : Inst), Tab.find? s.fire.wake b.val = some i → i ≤ s.now → Goes (.bankWake b) s fun t =>
      let cal := decide (s.dev.mode = .armed ∧ b.val ∈ s.fire.trimOnWake)
      t.awake b.val = true ∧ (∀ k : Fin 6, t.flag F.STRIP.RX_STAT.POWERED (6 * b.val + k.val) = true) ∧
      t.fire = { s.fire with
        wake := Tab.del s.fire.wake b.val, trim := if cal then Tab.put s.fire.trim b.val s.now else s.fire.trim
        trimOnWake := if cal then s.fire.trimOnWake.filter (· != b.val) else s.fire.trimOnWake } ∧
      (∀ d, d / 6 ≠ b.val → t.strip d = s.strip d) ∧
      t = { s with regs := t.regs, hot := t.hot, fire := t.fire, strips := t.strips } ∧
      sameRegs (F.FIRE.STAT.AWAKE.key 0 0 :: (List.range 6).flatMap fun k =>
        [F.STRIP.RX_STAT.POWERED.key (6 * b.val + k) 0, F.STRIP.RX_STAT.BIAS_OK.key (6 * b.val + k) 0]) s t) ∧
    (∀ a v, s.judgeWrite a 0x1000200 v = none → Goes (.bankEnWrite a v) s fun t =>
      let old := s.fld F.FIRE.CTRL.BANK_EN
      let new := bits v 3 0
      let cleared := fun (b : Nat) => old.testBit b && !new.testBit b
      let woken := (List.range 4).filter (fun b => decide (s.dev.mode = .armed ∨ s.scanning = true) && new.testBit b && !old.testBit b &&
        (!s.fire.cap || (s.act F.FIRE.GOV_HOLD.ACT_H).testBit b) && !s.awake b && (Tab.find? s.fire.wake b).isNone)
      t.fld F.FIRE.CTRL.BANK_EN = new ∧
      (∀ b : Fin 4, cleared b.val = true → t.awake b.val = false ∧
        (∀ k : Fin 6, t.flag F.STRIP.RX_STAT.POWERED (6 * b.val + k.val) = false) ∧
        (Tab.sorted s.fire.wake = true → Tab.find? t.fire.wake b.val = none) ∧
        (Tab.sorted s.fire.trim = true → Tab.find? t.fire.trim b.val = none)) ∧
      (∀ b : Fin 4, cleared b.val = false → t.awake b.val = s.awake b.val ∧
        Tab.find? t.fire.trim b.val = Tab.find? s.fire.trim b.val ∧
        (b.val ∉ woken → Tab.find? t.fire.wake b.val = Tab.find? s.fire.wake b.val) ∧
        (∀ d, d / 6 = b.val → (t.strip d).ungated = (s.strip d).ungated) ∧
        ∀ k, 0x1002000 + 384 * b.val ≤ k / 64 → k / 64 < 0x1002180 + 384 * b.val → Tab.find? t.regs k = Tab.find? s.regs k) ∧
      (∀ i b : Fin 4, woken[i.val]? = some b.val → Tab.find? t.fire.wake b.val = some (s.now + 5000000 * (i.val : Int))) ∧
      t.fire = { s.fire with wake := t.fire.wake, trim := t.fire.trim, trimOnWake := t.fire.trimOnWake } ∧
      t = { s with regs := t.regs, hot := t.hot, fire := t.fire, strips := t.strips, reply := some { code := 0, addr := 0x1000200 } } ∧
      sameOutside [(0x1000200, 0x1000201), (0x1002000, 0x10025FF)] s t)

/-- The SEGMASK lane starts the first waiting part's frame when it is due, frees after 50 ticks, and FIRE falls at its pulse's end. (spec/03_firing.md, SEGMASK frames; spec/03_firing.md, Outputs to the laser driver; which frame starts when follows R65, log entry 125) -/
def Obligations.SegmaskLaneSendsFramesInTurn : Prop :=
  (∀ s : State, s.live = true →
    (∀ p rest, s.fire.parts.filter (fun q => q.fired.isNone && q.frameEnd.isNone) = p :: rest → s.fire.lane = none →
      s.dueOpt (latestStart (p :: rest)) = true → s.edgeOut p.bank p.pid = true → Goes .segmaskFrameStart s fun t =>
        let seq := Tab.get (fun _ => 0) s.fire.seq p.bank
        t = { s with fire := { s.fire with
          parts := s.fire.parts.map (fun q =>
            if q.pid = p.pid then { q with fmask := s.partMask p, frameEnd := some (s.now + 800) } else q)
          lane := some (p.pid, s.now + 800), frame := segFrame p.bank (s.partMask p) seq
          seq := Tab.put s.fire.seq p.bank ((seq + 1) % 4) } }) ∧
    (∀ pid e, s.fire.lane = some (pid, e) → e ≤ s.now → Goes .segmaskFrameEnd s fun t =>
      t = { s with fire := { s.fire with lane := none } }) ∧
    (∀ (b : Fin 4) (e : Inst × Inst), Tab.find? s.fire.pulses b.val = some e → e.2 ≤ s.now → Goes (.firePulseEnd b) s fun t =>
      t = { s with fire := { s.fire with pulses := Tab.del s.fire.pulses b.val } })) ∧
  (∀ bank mask seq : Nat, bank < 4 → mask < 4096 → seq < 4 →
    segFrame bank mask seq / 2 ^ 22 = 3 ∧ segFrame bank mask seq / 2 ^ 20 % 4 = bank ∧
    segFrame bank mask seq / 2 ^ 8 % 4096 = mask ∧ segFrame bank mask seq / 2 ^ 6 % 4 = seq ∧
    segFrame bank mask seq % 64 = crc6 18 (segFrame bank mask seq / 64) 0)

/-- A part that comes to be judged is skipped, deferred or fired by the step of R69 that settles it, and where a further deferral
would exceed DEFER_MAX it is skipped. (spec/03_firing.md, Deciding at the fire instant) -/
def Obligations.PartsAreSkippedDeferredOrFired : Prop :=
  (∀ s : State, s.live = true →
    (s.sweepFirst.judgeWaiting.newPart = none → Goes .partJudgement s fun t => t = s.sweepFirst.judgeWaiting) ∧
    (s.sweepFirst.retryPart = none → Goes .deferredPartRetry s fun t => t = s.sweepFirst) ∧
    (s.sweepFirst.limitPart = none → Goes .deferLimitSkip s fun t => t = s.sweepFirst) ∧
    (s.sweepDue = false → s.sweepFirst = s) ∧ (s.retryPart = none → s.judgeWaiting = s)) ∧
  ∀ (s u : State) (c : Instr) (p : Part), s.wf → s.live = true → p.bank < 4 → p.col < 1024 →
    (c = .partJudgement ∧ u = s.sweepFirst.judgeWaiting ∧ u.newPart = some p) ∨
      (c = .deferredPartRetry ∧ u = s.sweepFirst ∧ u.retryPart = some p) ∨
      (c = .deferLimitSkip ∧ u = s.sweepFirst ∧ u.limitPart = some p) →
    let step := u.judge p (u.partCost p)
    let fires := decide (step = 7) && !u.headWaits p && !u.overDefer p 0
    let settled := fun (q : Part) => { q with cost := some (u.partCost p), judged := true, jtick := (u.raw : Int) }
    (∀ n, (n = F.FIRE.SKIP_CNT.INHIB ∧ step = 1) ∨ (n = F.FIRE.SKIP_CNT.NOTREADY ∧ step = 2) ∨
        (n = F.FIRE.SKIP_CNT.HOLD ∧ step = 3) ∨
        (n = F.FIRE.SKIP_CNT.LIMIT ∧ 4 ≤ step ∧ fires = false ∧ u.overDefer p 1 = true) → Goes c s fun t =>
      t.fld n = min (u.fld n + 1) 4095 ∧
      t.ring p.bank = { u.ring p.bank with skipped := (u.ring p.bank).skipped + 1 } ∧ (∀ b, b ≠ p.bank → t.ring b = u.ring b) ∧
      (∀ d, d / 6 ≠ p.bank → t.strip d = u.strip d) ∧ (∀ i, t.core i = { u.core i with zf := (t.core i).zf }) ∧
      (∀ tile w, w < 48 → (∀ (k : Fin 6) v rho, u.visitOf (6 * p.bank + k.val) p.col = some v → rho < 2 →
          tile = cellTile (6 * p.bank + k.val) p.col rho → tileOk (u.rdTile tile) tile = true) →
        t.rdMem (tileBase tile + w) = u.rdMem (tileBase tile + w)) ∧
      t = { u with
        regs := t.regs, hot := t.hot, mem := t.mem, strips := t.strips, cores := t.cores, out := { u.out with rings := t.out.rings }
        fire := { u.fire with parts := u.fire.parts.filter (fun q => q.pid != p.pid) }
        bg := { u.bg with skipped := u.bg.skipped + 1, ctxFail := t.bg.ctxFail
                          flightEnd := Tab.put u.bg.flightEnd p.bank (u.now, u.fld F.MIRR.SWEEP.COUNT) } } ∧
      ∀ k, k ≠ n.key 0 0 → k / 64 < 0x1002000 ∨ 0x10025FF < k / 64 → Tab.find? t.regs k = Tab.find? u.regs k) ∧
    (fires = true → Goes c s fun t =>
      let tf := p.tfire + 16 * (u.raw - tickOf p.tfire) + 80
      t.fire = { u.fire with
        parts := u.fire.parts.map (fun q => if q.pid = p.pid then { settled q with fired := some tf } else q)
        budget := u.budgetNow - u.partCost p * 20000, budgetAt := u.now
        pulses := Tab.put u.fire.pulses p.bank (tf, tf + u.pulseWidth) } ∧
      t.fld F.FIRE.SHOT_CNT.PARTS = (u.fld F.FIRE.SHOT_CNT.PARTS + 1) % 2 ^ 48 ∧
      (∀ i : Fin 12, t.fld F.BGND.SEGUSE.LIT (12 * p.bank + i.val) =
        if p.fmask.testBit i.val then min (u.fld F.BGND.SEGUSE.LIT (12 * p.bank + i.val) + 1) (F.BGND.SEGUSE.LIT.span - 1)
        else u.fld F.BGND.SEGUSE.LIT (12 * p.bank + i.val)) ∧
      (∃ g ∈ t.mon.groups, p.pid ∈ g.pids ∧ p.bank ∈ g.banks ∧ g.tf ≤ tf ∧ tickOf g.tf = tickOf tf) ∧
      (∀ d, d / 6 ≠ p.bank → t.strip d = u.strip d) ∧
      t = { u with
        regs := t.regs, hot := t.hot, fire := t.fire, mon := { u.mon with groups := t.mon.groups }, strips := t.strips
        wc := { u.wc with parts := t.wc.parts }, bg := { u.bg with fired := u.bg.fired + 1 } } ∧
      ∀ k, k ≠ F.FIRE.SHOT_CNT.PARTS.key 0 0 → (∀ i : Fin 12, k ≠ F.BGND.SEGUSE.LIT.key (12 * p.bank + i.val) 0) →
        Tab.find? t.regs k = Tab.find? u.regs k) ∧
    (4 ≤ step → fires = false → u.overDefer p 1 = false → Goes c s fun t =>
      let held := if u.headWaits p then u.fire.hold else step
      let D := if held = 4 then F.FIRE.DEFER_CNT.LANE else if held = 5 then F.FIRE.DEFER_CNT.FLIGHT else F.FIRE.DEFER_CNT.GOV
      let seen := if held = 4 then p.cLane else if held = 5 then p.cFlight else p.cGov
      t.fld D = (if seen then u.fld D else min (u.fld D + 1) 65535) ∧
      t = { u with regs := t.regs, hot := t.hot, fire := { u.fire with
        hold := held
        parts := u.fire.parts.map (fun q => if q.pid = p.pid then { settled q with
          cLane := q.cLane || (decide (held = 4) && !seen), cFlight := q.cFlight || (decide (held = 5) && !seen)
          cGov := q.cGov || (decide (held ≠ 4 ∧ held ≠ 5) && !seen) } else q) } } ∧ sameRegs [D.key 0 0] u t)

/-- The 100 ms sums keep the last 100 buckets of each segment, a violated limit blocks FIRE, and EYE_CFG.LOCK sets and locks the limits. (spec/03_firing.md, Eye-safety energy accounting; spec/03_firing.md, FIRE registers) -/
def Obligations.EyeSafetyBucketsAndLock : Prop :=
  ∀ s : State, s.wf → s.live = true →
    (s.fire.bucketEnd ≤ s.now → Goes .eyeBucketAdvance s fun t =>
      let bad := (List.range 48).any (fun n => t.viol5 n || t.viol100 n)
      t.fire.bucketEnd = s.fire.bucketEnd + 20000000 ∧
      (∀ n : Fin 48, Tab.get (fun _ => 0) t.fire.bucket n.val = 0 ∧
        Tab.get (fun _ => []) t.fire.buckets n.val =
          (Tab.get (fun _ => 0) s.fire.bucket n.val :: Tab.get (fun _ => []) s.fire.buckets n.val).take 100) ∧
      (bad = false → t = { s with fire := { s.fire with
        buckets := t.fire.buckets, bucket := t.fire.bucket, bucketEnd := t.fire.bucketEnd } }) ∧
      (bad = true →
        t = { s with
          regs := t.regs, hot := t.hot
          fire := { s.fire.drop s.now with
            buckets := t.fire.buckets, bucket := t.fire.bucket, bucketEnd := t.fire.bucketEnd, blocked := true }
          dome := { s.dome with reports := s.dome.reports ++ [(.eye, s.raw)], cmd := false } } ∧
        t.flag F.FIRE.EYE_STAT.VIOL5 = (s.flag F.FIRE.EYE_STAT.VIOL5 || (List.range 48).any t.viol5) ∧
        t.flag F.FIRE.EYE_STAT.VIOL100 = (s.flag F.FIRE.EYE_STAT.VIOL100 || (List.range 48).any t.viol100) ∧
        sameRegs [F.FIRE.EYE_STAT.SEG.key 0 0, F.FIRE.EYE_STAT.VIOL5.key 0 0, F.FIRE.EYE_STAT.VIOL100.key 0 0] s t)) ∧
    (∀ a v, s.judgeWrite a 0x1000220 (v ||| 0x10000) = none → Goes (.eyeLock a v) s fun t =>
      t.flag F.FIRE.EYE_CFG.LOCK = true ∧ t.fld F.FIRE.EYE_CFG.E_MISS = bits v 15 0 ∧
      t = { s with regs := t.regs, hot := t.hot, reply := some { code := 0, addr := 0x1000220, value := 0 }
                   dev := { s.dev with rwlAt := t.dev.rwlAt } } ∧
      sameRegs [F.FIRE.EYE_CFG.LOCK.key 0 0, F.FIRE.EYE_CFG.E_MISS.key 0 0] s t) ∧
    (∀ a (addr : BitVec 25) v, s.flag F.FIRE.EYE_CFG.LOCK = true → eyeLocked addr.toNat = true →
      s.rwlWrite addr.toNat v = true → Goes (.registerWrite a addr v) s fun t =>
        ∃ e : Err, t = { s with reply := some { code := e.code, addr := addr.toNat, value := 0 } })

/-- An edge starts the oldest waiting group or is stray, one in the hold-off is ignored, and a wait that ends forces the start. (spec/04_pulse_monitor.md, Start comparator; spec/04_pulse_monitor.md, Starts for fired parts; spec/04_pulse_monitor.md, Pulse energy) -/
def Obligations.StartsAreServedForcedOrStray : Prop :=
  ∀ s : State, s.wf → s.live = true →
    (∀ (phase : BitVec 4) (fromBelow : Bool),
      let te : Inst := s.now + phase.toNat
      let taken := s.mon.armed || (fromBelow && s.hoEnded te)
      let served := s.mon.groups.find? (fun g => decide (g.tf + g.tmin ≤ te ∧ te ≤ g.tf + g.tout))
      (∀ g, taken = true → served = some g → (∀ b ∈ g.banks, b < 4) → g.banks.Nodup → Goes (.mpdEdge phase fromBelow) s fun t =>
        (∀ b ∈ g.banks, t.fld F.MON.START_BANK.RUN b = 0 ∧
          Tab.get (fun _ => []) t.mon.delays b =
            ((te - g.tf).toNat :: Tab.get (fun _ => []) s.mon.delays b).take 256) ∧
        (∃ q, t.mon.energy = s.mon.energy ++ [q] ∧ q.te = te ∧ q.banks = g.banks ∧ q.segs = s.groupSegs g ∧
          q.due = 16 * (tickOf te - 5 + s.intLen + 9)) ∧
        (t.mon.masks = s.mon.masks ∨ s.mon.maskEn = true ∧ ∃ q, t.mon.masks = s.mon.masks ++ [q] ∧ q.te = te ∧
          q.table = s.mon.table ∧ q.inh = s.mon.maskInh ∧ q.due = 16 * (tickOf te + 59 + 9)) ∧
        t.mon = { s.mon with
          armed := false, edge := te, ho := 0, groups := s.mon.groups.erase g, delays := t.mon.delays, energy := t.mon.energy
          masks := t.mon.masks, trig := t.mon.trig, lastPost := t.mon.lastPost, anyEnd := t.mon.anyEnd
          anyIgnore := t.mon.anyIgnore } ∧
        (∀ d, t.strip d = { s.strip d with freeFrom := (t.strip d).freeFrom }) ∧ (∀ d, d / 6 ∉ g.banks → t.strip d = s.strip d) ∧
        t = { s with regs := t.regs, hot := t.hot, mon := t.mon, strips := t.strips, fire := { s.fire with
          parts := s.fire.parts.map (fun q => if g.pids.contains q.pid then { q with tstart := some te } else q) } } ∧
        sameRegs (g.banks.flatMap (fun b => [F.MON.START_BANK.RUN.key b 0, F.MON.START_BANK.MEAN.key b 0]) ++
          [F.MON.CAP_STAT.ARMED.key 0 0, F.MON.CAP_STAT.BUSY.key 0 0, F.MON.CAP_STAT.MISSED.key 0 0]) s t) ∧
      (taken = true → served = none → Goes (.mpdEdge phase fromBelow) s fun t =>
        t.fld F.MON.START_CNT.STRAY = min (s.fld F.MON.START_CNT.STRAY + 1) 65535 ∧
        t = { s with regs := t.regs, hot := t.hot, mon := { s.mon with armed := false, edge := te, ho := 0 } } ∧
        sameRegs [F.MON.START_CNT.STRAY.key 0 0] s t) ∧
      (taken = false → fromBelow = true → Goes (.mpdEdge phase fromBelow) s fun t =>
        t.fld F.MON.START_CNT.IGNORED = min (s.fld F.MON.START_CNT.IGNORED + 1) 65535 ∧
        t = { s with regs := t.regs, hot := t.hot, mon := { s.mon with ho := s.mon.ho + 1 } } ∧
        sameRegs [F.MON.START_CNT.IGNORED.key 0 0] s t) ∧
      (taken = false → fromBelow = false → Goes (.mpdEdge phase fromBelow) s fun t => t = s)) ∧
    (s.mon.armed = false → s.hoEnded s.now = true → Goes .startRearm s fun t =>
      t = { s with mon := { s.mon with armed := true } }) ∧
    (∀ g, s.mon.groups.find? (fun g => decide (tickOf (g.tf + g.tout) ≤ s.raw)) = some g → (∀ b ∈ g.banks, b < 4) →
      g.banks.Nodup → Goes .startTimeout s fun t =>
        t.mon = { s.mon with groups := s.mon.groups.erase g } ∧
        t.fire.parts = s.fire.parts.map (fun q =>
          if g.pids.contains q.pid then { q with tstart := some (g.tf + g.nom), forced := true } else q) ∧
        (∀ b ∈ g.banks, t.fld F.MON.START_BANK.FORCED b = min (s.fld F.MON.START_BANK.FORCED b + 1) 16777215 ∧
          t.fld F.MON.START_BANK.RUN b = min 3 (s.fld F.MON.START_BANK.RUN b + 1) ∧
          (s.fld F.MON.START_BANK.RUN b = 2 → t.bit F.MON.START_STAT.LPF b = true ∧ t.fire.lsrEn = false ∧
            (Report.lpf b, s.raw) ∈ t.dome.reports)) ∧
        (∀ d, t.strip d = { s.strip d with freeFrom := (t.strip d).freeFrom }) ∧ (∀ d, d / 6 ∉ g.banks → t.strip d = s.strip d) ∧
        t = { s with
          regs := t.regs, hot := t.hot, mon := t.mon, strips := t.strips
          fire := { s.fire with
            parts := t.fire.parts, lsrEn := t.fire.lsrEn, blocked := t.fire.blocked, pulses := t.fire.pulses
            charges := t.fire.charges, bucket := t.fire.bucket }
          dome := { s.dome with reports := t.dome.reports, cmd := t.dome.cmd } } ∧
        sameRegs (g.banks.flatMap (fun b => [F.MON.START_BANK.RUN.key b 0, F.MON.START_BANK.FORCED.key b 0]) ++
          [F.MON.START_STAT.LPF.key 0 0, F.FIRE.EYE_STAT.SEG.key 0 0, F.FIRE.EYE_STAT.VIOL5.key 0 0,
            F.FIRE.EYE_STAT.VIOL100.key 0 0]) s t)

/-- A pulse's energy reaches the eye-safety accounting by weight, and a mask window is judged by its table. (spec/04_pulse_monitor.md, Pulse energy; spec/04_pulse_monitor.md, Mask tests; spec/03_firing.md, Eye-safety energy accounting; log entries 130, 132) -/
def Obligations.PulsesAreMeasuredAndMasked : Prop :=
  ∀ s : State, s.wf → s.live = true →
    (∀ (xs : List (BitVec 10)) p, s.mon.energy.find? (fun p => s.due p.due) = some p → p.segs.Nodup →
      Goes (.pulseEnergyDelivery xs) s fun t =>
        let ys := s.adcs (tickOf p.te - 8) xs
        let e := s.energyOf ys
        let sum := p.segs.foldl (fun a n => a + s.eyeWeight n) 0
        let bad := p.segs.any (fun n => t.viol5 n || t.viol100 n)
        t.fld F.MON.ENERGY_STAT.LAST = e ∧ t.fld F.MON.ENERGY_STAT.BANKS = bankMap p.banks % 16 ∧
        (∀ n ∈ p.segs, Tab.get (fun _ => 0) t.fire.bucket n =
          Tab.get (fun _ => 0) s.fire.bucket n + (e * 256 * s.eyeWeight n + sum - 1) / sum) ∧
        (∀ n, n ∉ p.segs → Tab.get (fun _ => 0) t.fire.bucket n = Tab.get (fun _ => 0) s.fire.bucket n) ∧
        t.mon = { s.mon with energy := s.mon.energy.erase p, avg := s.mon.avg.take p ys e
                             avgPrev := s.mon.avgPrev.map (fun a => a.take p ys e) } ∧
        (bad = false → t.fire = { s.fire with charges := t.fire.charges, bucket := t.fire.bucket } ∧ t.dome = s.dome ∧
          sameRegs [F.MON.ENERGY_STAT.LAST.key 0 0, F.MON.ENERGY_STAT.BANKS.key 0 0] s t) ∧
        (bad = true →
          t.fire = { s.fire.drop s.now with charges := t.fire.charges, bucket := t.fire.bucket, blocked := true } ∧
          t.dome = { s.dome with reports := s.dome.reports ++ [(.eye, s.raw)], cmd := false } ∧
          t.flag F.FIRE.EYE_STAT.VIOL5 = (s.flag F.FIRE.EYE_STAT.VIOL5 || p.segs.any t.viol5) ∧
          t.flag F.FIRE.EYE_STAT.VIOL100 = (s.flag F.FIRE.EYE_STAT.VIOL100 || p.segs.any t.viol100)) ∧
        t = { s with regs := t.regs, hot := t.hot, mon := t.mon, fire := t.fire, dome := t.dome } ∧
        sameRegs [F.MON.ENERGY_STAT.LAST.key 0 0, F.MON.ENERGY_STAT.BANKS.key 0 0, F.FIRE.EYE_STAT.SEG.key 0 0,
          F.FIRE.EYE_STAT.VIOL5.key 0 0, F.FIRE.EYE_STAT.VIOL100.key 0 0] s t) ∧
    (s.mon.load.isSome = true →
      let tag := ctxTiles + s.act F.MON.MASK_CFG.BASE
      (tileOk (s.rdTile tag) tag = true → Goes .maskTableLoad s fun t =>
        t.flag F.MON.MASK_STAT.LOADED = true ∧
        t = { s with regs := t.regs, hot := t.hot, mon := { s.mon with
          load := none, table := maskTable (s.rdTile tag), maskEn := s.actFlag F.MON.MASK_CFG.EN
          maskInh := s.actFlag F.MON.MASK_CFG.INHIBIT } } ∧
        sameRegs [F.MON.MASK_STAT.LOADED.key 0 0] s t) ∧
      (tileOk (s.rdTile tag) tag = false → Goes .maskTableLoad s fun t =>
        t.flag F.MON.MASK_STAT.TBL_ERR = true ∧ t = { s with regs := t.regs, hot := t.hot, mon := { s.mon with load := none } } ∧
        sameRegs [F.MON.MASK_STAT.TBL_ERR.key 0 0] s t)) ∧
    (∀ (xs : List (BitVec 10)) p, s.mon.masks.find? (fun p => s.due p.due) = some p →
      (firstViolation p.table (s.adcs (tickOf p.te - 4) xs) = none → Goes (.maskVerdict xs) s fun t =>
        t = { s with mon := { s.mon with masks := s.mon.masks.erase p } }) ∧
      (∀ i above, firstViolation p.table (s.adcs (tickOf p.te - 4) xs) = some (i, above) → Goes (.maskVerdict xs) s fun t =>
        let flags := [F.MON.MASK_STAT.VIOL.key 0 0, F.MON.MASK_STAT.VCNT.key 0 0, F.MON.MASK_STAT.SAMPLE.key 0 0,
          F.MON.MASK_STAT.ABOVE.key 0 0]
        t.flag F.MON.MASK_STAT.VIOL = true ∧ t.fld F.MON.MASK_STAT.VCNT = min (s.fld F.MON.MASK_STAT.VCNT + 1) 65535 ∧
        t.fld F.MON.MASK_STAT.SAMPLE = i ∧ t.flag F.MON.MASK_STAT.ABOVE = above ∧
        (s.flag F.MON.CAP_STAT.FROZEN = true → t.mon.trig = s.mon.trig ∧ sameRegs flags s t) ∧
        (s.mon.unfrzAt = some s.raw → t.flag F.MON.CAP_STAT.FROZEN = true ∧ t.mon.trig = s.mon.trig) ∧
        (s.flag F.MON.CAP_STAT.ARMED = true → s.condOn 1 = false → t.flag F.MON.CAP_STAT.FROZEN = true) ∧
        t.mon = { s.mon with
          masks := s.mon.masks.erase p, violAt := some s.raw, trig := t.mon.trig, lastPost := t.mon.lastPost
          anyEnd := t.mon.anyEnd, anyIgnore := t.mon.anyIgnore } ∧
        (p.inh = true → t.fire = { s.fire.drop s.now with blocked := true } ∧
          t.dome = { s.dome with reports := s.dome.reports ++ [(.pulse, s.raw)], cmd := false }) ∧
        (p.inh = false → t.fire = s.fire ∧ t.dome = s.dome) ∧
        t = { s with regs := t.regs, hot := t.hot, mon := t.mon, fire := t.fire, dome := t.dome } ∧
        sameRegs (flags ++ [F.MON.CAP_STAT.ARMED.key 0 0, F.MON.CAP_STAT.BUSY.key 0 0, F.MON.CAP_STAT.MISSED.key 0 0,
          F.MON.CAP_STAT.FROZEN.key 0 0, F.MON.MU_STAT.ARM_BUS.key 0 0]) s t))

/-- The capture unit arms, disarms, triggers on its earliest condition, writes its record and freezes or re-arms. (spec/04_pulse_monitor.md, Waveform capture; spec/04_pulse_monitor.md, Several units in one head; spec/04_pulse_monitor.md, Freezing the device on a record) -/
def Obligations.CaptureArmsTriggersAndRecords : Prop :=
  ∀ s : State, s.wf → s.live = true →
    (∀ a, s.judgeWrite a 0x1000421 (s.holdWith 0x1000421 1) = none →
      let ok := !s.flag F.MON.CAP_STAT.BUSY && !s.flag F.MON.CAP_STAT.FROZEN && s.fld F.MON.MU_CFG.ROLE != 2 && s.capFits
      (ok = true → Goes (.capArm a) s fun t =>
        t.flag F.MON.CAP_STAT.ARMED = true ∧
        t.flag F.MON.MU_STAT.ARM_BUS = (decide (s.fld F.MON.MU_CFG.ROLE = 1) || s.flag F.MON.MU_STAT.ARM_BUS) ∧
        t = { s with
          regs := t.regs, hot := t.hot, reply := some { code := 0, addr := 0x1000421, value := 0 }
          mon := { s.mon with armTick := s.raw, pre := s.fld F.MON.CAP_CFG.PRE, trig := none } } ∧
        sameRegs [F.MON.CAP_STAT.ARMED.key 0 0, F.MON.MU_STAT.ARM_BUS.key 0 0] s t) ∧
      (ok = false → Goes (.capArm a) s fun t =>
        t = { s with reply := some { code := Err.refused.code, addr := 0x1000421, value := 0 } })) ∧
    (∀ a, s.judgeWrite a 0x1000421 (s.holdWith 0x1000421 4) = none → Goes (.capStop a) s fun t =>
      t.flag F.MON.CAP_STAT.ARMED = false ∧
      t.flag F.MON.MU_STAT.ARM_BUS = (s.flag F.MON.MU_STAT.ARM_BUS && !s.flag F.MON.CAP_STAT.ARMED) ∧
      t = { s with regs := t.regs, hot := t.hot, reply := some { code := 0, addr := 0x1000421, value := 0 } } ∧
      sameRegs [F.MON.CAP_STAT.ARMED.key 0 0, F.MON.MU_STAT.ARM_BUS.key 0 0] s t) ∧
    (∀ a, s.judgeWrite a 0x1000421 (s.holdWith 0x1000421 8) = none → Goes (.capUnfreeze a) s fun t =>
      t.flag F.MON.CAP_STAT.FROZEN = (s.flag F.MON.CAP_STAT.FROZEN && decide (s.mon.violAt = some s.raw)) ∧
      t = { s with
        regs := t.regs, hot := t.hot, reply := some { code := 0, addr := 0x1000421, value := 0 }
        mon := { s.mon with unfrzAt := if s.flag F.MON.CAP_STAT.FROZEN then some s.raw else s.mon.unfrzAt } } ∧
      sameRegs [F.MON.CAP_STAT.FROZEN.key 0 0] s t) ∧
    (∀ (c : Instr) (k : Nat) (x : Trig),
      (∃ a, c = .capSwtrig a ∧ s.judgeWrite a 0x1000421 (s.holdWith 0x1000421 2) = none ∧ k = 3 ∧ x = { sample := s.raw }) ∨
        (c = .trigInEdge ∧ k = 2 ∧ x = { sample := (s.raw : Int) - 4 }) ∨
        (c = .trigAnyFall ∧ s.hearsAny = true ∧ k = 2 ∧
          x = { sample := (s.raw : Int) - s.fld F.MON.MU_CFG.SKEW, remote := true, local_ := false }) → s.condOn k = true →
      let heard := fun (t : State) => { s with
        regs := t.regs, hot := t.hot, reply := t.reply, mon := { s.mon with
          otherEnd := if c = .trigAnyFall then s.now + 256 else s.mon.otherEnd } }
      let begun := fun (t : State) => { heard t with mon := { (heard t).mon with
        trig := t.mon.trig, lastPost := x.sample + (4096 - (s.mon.pre : Int)) - 1
        anyEnd := t.mon.anyEnd, anyIgnore := t.mon.anyIgnore } }
      let pulled := fun (t : State) => decide (t.mon.anyEnd = some (s.now + 256) ∧ t.mon.anyIgnore = s.now + 320)
      let head := s.fld F.MON.MU_CFG.ROLE == 1 || s.fld F.MON.MU_CFG.ROLE == 2
      (s.flag F.MON.CAP_STAT.ARMED = true → s.mon.trig = none → Goes c s fun t =>
        t.flag F.MON.CAP_STAT.ARMED = false ∧ t.flag F.MON.CAP_STAT.BUSY = true ∧
        t.mon.trig = some { x with cond := 1 <<< k, owner := k } ∧ (x.local_ = true → head = true → pulled t = true) ∧
        (x.local_ = false ∨ head = false → t.mon.anyEnd = s.mon.anyEnd ∧ t.mon.anyIgnore = s.mon.anyIgnore) ∧
        t.fld F.MON.MU_STAT.REMOTE = (if x.remote then min (s.fld F.MON.MU_STAT.REMOTE + 1) 65535 else s.fld F.MON.MU_STAT.REMOTE) ∧
        t = begun t ∧
        sameRegs [F.MON.CAP_STAT.ARMED.key 0 0, F.MON.CAP_STAT.BUSY.key 0 0, F.MON.MU_STAT.REMOTE.key 0 0] s t) ∧
      (∀ o, s.mon.trig = some o → s.flag F.MON.CAP_STAT.BUSY = true →
        (x.sample = o.sample → Goes c s fun t =>
          t.mon.trig = some { o with
            cond := o.cond ||| (1 <<< k), owner := min o.owner k, remote := o.remote || x.remote, banks := o.banks ||| x.banks
            local_ := o.local_ || (x.local_ && decide (k ≤ o.owner)) } ∧
          (x.local_ = true → k ≤ o.owner → o.local_ = false → head = true → pulled t = true) ∧
          t = begun t ∧ sameRegs [F.MON.MU_STAT.REMOTE.key 0 0] s t) ∧
        (x.sample < o.sample → s.mon.armTick ≤ x.sample → Goes c s fun t =>
          t.mon.trig = some { x with cond := 1 <<< k, owner := k, frozen := o.frozen || x.frozen } ∧
          (x.local_ = true → o.local_ = false → head = true → pulled t = true) ∧
          t = begun t ∧ sameRegs [F.MON.MU_STAT.REMOTE.key 0 0] s t) ∧
        (o.sample < x.sample ∨ x.sample < s.mon.armTick → x.sample ≠ o.sample → Goes c s fun t =>
          t.fld F.MON.CAP_STAT.MISSED = min (s.fld F.MON.CAP_STAT.MISSED + 1) 65535 ∧
          t = heard t ∧ sameRegs [F.MON.CAP_STAT.MISSED.key 0 0] s t)) ∧
      (s.mon.trig = none → s.flag F.MON.CAP_STAT.ARMED = false → Goes c s fun t => t = heard t ∧ sameRegs [] s t)) ∧
    (∀ e, s.mon.anyEnd = some e → e ≤ s.now → Goes .trigAnyRelease s fun t =>
      t = { s with mon := { s.mon with anyEnd := none } }) ∧
    (s.fld F.MON.MU_CFG.ROLE = 2 → s.flag F.MON.CAP_STAT.ARMED = false → s.flag F.MON.CAP_STAT.BUSY = false →
      s.flag F.MON.CAP_STAT.FROZEN = false → s.capFits = true → Goes .armBusRise s fun t =>
        t.flag F.MON.CAP_STAT.ARMED = true ∧
        t = { s with
          regs := t.regs, hot := t.hot
          mon := { s.mon with busSeen := true, armTick := s.raw, pre := s.fld F.MON.CAP_CFG.PRE, trig := none } } ∧
        sameRegs [F.MON.CAP_STAT.ARMED.key 0 0] s t) ∧
    (∀ (xs : List (BitVec 10)) x, s.mon.trig = some x → 16 * (s.mon.lastPost + 1) ≤ s.now →
      (s.flag F.MON.CAP_CFG.FRZ_REQ && s.flag F.DEV.DBG_CFG.FREEZE_EN) = false → Goes (.captureRecordWritten xs) s fun t =>
        let tile := ctxTiles + s.fld F.MON.CAP_CFG.BASE + 33 * (s.fld F.MON.CAP_STAT.SLOT % s.nrec)
        let again := !x.frozen && s.flag F.MON.CAP_CFG.MODE
        t.flag F.MON.CAP_STAT.DONE = true ∧ t.flag F.MON.CAP_STAT.BUSY = false ∧
        t.fld F.MON.CAP_STAT.SLOT = (s.fld F.MON.CAP_STAT.SLOT + 1) % s.nrec ∧
        t.fld F.MON.CAP_STAT.RECS = (s.fld F.MON.CAP_STAT.RECS + 1) % 65536 ∧
        t.flag F.MON.CAP_STAT.FROZEN = (x.frozen || s.flag F.MON.CAP_STAT.FROZEN) ∧
        t.flag F.MON.CAP_STAT.ARMED = (again || s.flag F.MON.CAP_STAT.ARMED) ∧
        t.flag F.MON.MU_STAT.ARM_BUS = (again && decide (s.fld F.MON.MU_CFG.ROLE = 1)) ∧
        (∀ w : Fin 47, t.rdMem (tileBase tile + w.val) = (s.capHeader x).getD w.val 0) ∧
        (∀ a, a < tileBase tile ∨ tileBase tile + 1584 ≤ a → t.rdMem a = s.rdMem a) ∧
        t = { s with
          regs := t.regs, hot := t.hot, mem := t.mem
          mon := { s.mon with trig := none, armTick := if again then (s.raw : Int) else s.mon.armTick
                              pre := if again then s.fld F.MON.CAP_CFG.PRE else s.mon.pre } } ∧
        sameRegs [F.MON.CAP_STAT.DONE.key 0 0, F.MON.CAP_STAT.BUSY.key 0 0, F.MON.CAP_STAT.SLOT.key 0 0,
          F.MON.CAP_STAT.RECS.key 0 0, F.MON.CAP_STAT.FROZEN.key 0 0, F.MON.CAP_STAT.ARMED.key 0 0,
          F.MON.MU_STAT.ARM_BUS.key 0 0] s t) ∧
    (∀ (xs : List (BitVec 10)) x, s.mon.trig = some x → 16 * (s.mon.lastPost + 1) ≤ s.now →
      s.flag F.MON.CAP_CFG.FRZ_REQ = true → s.flag F.DEV.DBG_CFG.FREEZE_EN = true → Goes (.captureRecordWritten xs) s fun t =>
        t = (s.capWrite xs x).freezeNow 3 ∧ t.dev.mode = .frozen ∧ t.dev.frzSrc = 3 ∧ t.mem = (s.capWrite xs x).mem)

/-- The averager begins its intervals with the settings then held and writes one tile, or counts an empty interval. (spec/04_pulse_monitor.md, Averaging for drift trends) -/
def Obligations.AveragerWritesOneTileAnInterval : Prop :=
  ∀ s : State, s.wf → s.live = true →
    let a := s.mon.avg
    -- the interval a has been written between two states: its tile, or a count in EMPTY
    let wrote := fun (a : Avg) (t : State) =>
      (a.n = 0 → t.fld F.MON.AVG_STAT.EMPTY = min (s.fld F.MON.AVG_STAT.EMPTY + 1) 65535 ∧ t.mem = s.mem ∧
        t.mon.ageSum = s.mon.ageSum ∧ t.mon.ageN = s.mon.ageN ∧ sameRegs [F.MON.AVG_STAT.EMPTY.key 0 0] s t) ∧
      (0 < a.n → let b := tileBase (ctxTiles + a.base)
        (∀ w : Fin 47, t.rdMem (b + w.val) = (s.avgTile a).getD w.val 0) ∧
        (∀ i, i < b ∨ b + 48 ≤ i → t.rdMem i = s.rdMem i) ∧
        t.flag F.MON.AVG_STAT.SHORT = decide (a.n < 2 ^ a.k) ∧
        t.fld F.MON.AVG_STAT.SEQ = (s.fld F.MON.AVG_STAT.SEQ + 1) % 65536 ∧
        t.mon.ageSum = s.mon.ageSum + a.n * (a.sumE / a.n) ∧ t.mon.ageN = s.mon.ageN + a.n ∧
        sameRegs [F.MON.AVG_STAT.SHORT.key 0 0, F.MON.AVG_STAT.SEQ.key 0 0] s t)
    ((if a.running then decide (a.end_ ≤ s.now) else s.flag F.MON.AVG_CFG.EN) = true → Goes .avgIntervalStart s fun t =>
      (∀ p, s.mon.avgPrev = some p → wrote p t) ∧
      (s.mon.avgPrev = none → t.regs = s.regs ∧ t.hot = s.hot ∧ t.mem = s.mem ∧ t.mon.ageSum = s.mon.ageSum ∧ t.mon.ageN = s.mon.ageN) ∧
      t = { s with regs := t.regs, hot := t.hot, mem := t.mem, mon := { s.mon with
        ageSum := t.mon.ageSum, ageN := t.mon.ageN, avgPrev := if a.running && !a.written then some a else none
        avg := {
          running := s.flag F.MON.AVG_CFG.EN, base := s.fld F.MON.AVG_CFG.BASE, banks := s.fld F.MON.AVG_CFG.BANKS
          k := min 8 (s.fld F.MON.AVG_CFG.K), begin_ := if a.running then a.end_ else s.now
          end_ := (if a.running then a.end_ else s.now) + 20000000 * (max 1 (s.fld F.MON.AVG_CFG.IVL) : Nat) } } }) ∧
    (∀ p, s.mon.avgPrev = some p → s.avgDone p = true → Goes .avgTileWritten s fun t =>
      wrote p t ∧ t = { s with regs := t.regs, hot := t.hot, mem := t.mem, mon := { s.mon with
        ageSum := t.mon.ageSum, ageN := t.mon.ageN, avgPrev := none } }) ∧
    (s.mon.avgPrev = none → a.running = true → a.written = false → s.avgDone a = true → Goes .avgTileWritten s fun t =>
      wrote a t ∧ t = { s with regs := t.regs, hot := t.hot, mem := t.mem, mon := { s.mon with
        ageSum := t.mon.ageSum, ageN := t.mon.ageN, avg := { a with written := true } } })

/-- At each control-period boundary stopped loops park the drives, and running loops publish what the last period computed. (spec/05_mirror_control.md, The control period; spec/05_mirror_control.md, Electrode drives) -/
def Obligations.ControlPeriodsParkOrApplyResults : Prop :=
  ∀ (s : State) (vhv iH iV : BitVec 12), s.wf → s.live = true → s.mirr.tn + 200000 ≤ s.now →
    s.outputsIn (s.mirr.tn + 200000) = true →
    let commits := fun (t : State) =>
      t.dev = { s.dev with cmtBy := t.dev.cmtBy, cmtAt := t.dev.cmtAt, cmtLate := t.dev.cmtLate } ∧
      (∀ c, t.core c = { s.core c with ev := (t.core c).ev }) ∧
      (s.afe.running = true ∨ s.ripe .frontEnd = false → t.afe = s.afe) ∧
      t = { s with
        regs := t.regs, hot := t.hot, force := t.force, mirr := t.mirr, afe := t.afe, cores := t.cores, dev := t.dev, free := t.free } ∧
      sameOutside [(0x1000011, 0x1000012), (0x1000500, 0x10005BF), (0x1000602, 0x1000602)] s t
    let senses := fun (t : State) => t.fld F.MIRR.SENSE.VHV = vhv.toNat ∧ t.fld F.MIRR.SENSE.I_H = iH.toNat ∧
      t.fld F.MIRR.SENSE.I_V = iV.toNat ∧ t.mirr.tn = s.mirr.tn + 200000 ∧ t.mirr.pMeas = s.mirr.vLast
    (s.dev.mode ≠ .armed → s.scanning = false → Goes (.controlPeriodBoundary vhv iH iV) s fun t =>
      senses t ∧
      t.mirr = {
        tn := s.mirr.tn + 200000, temp := t.mirr.temp, vLast := s.mirr.vLast, pMeas := s.mirr.vLast
        lH := s.fld F.MIRR.PARK.PARK_H, lVP := s.fld F.MIRR.PARK.PARK_V, lVN := s.fld F.MIRR.PARK.PARK_V
        overDoneH := s.mirr.running && decide (s.feTmr ≤ s.mirr.overH) && !s.mirr.feH
        overDoneV := s.mirr.running && decide (s.feTmr ≤ s.mirr.overV) && !s.mirr.feV } ∧
      t.flag F.MIRR.STAT.ACTIVE = false ∧ t.flag F.MIRR.STAT.H_CAPT = false ∧ t.flag F.MIRR.STAT.H_LOCKED = false ∧
      t.flag F.MIRR.STAT.V_INPOS = false ∧ t.fld F.MIRR.DAC_H.U = 0 ∧ commits t) ∧
    (∀ r, s.scanning = true → s.mirr.running = true → s.mirr.restart = false → s.mirr.searching = false →
      s.mirr.res = some r → Goes (.controlPeriodBoundary vhv iH iV) s fun t =>
        senses t ∧ t.mirr.model = r.model ∧ t.mirr.fnco = r.fnco ∧ t.mirr.lH = r.lH ∧ t.mirr.lVP = r.lVP ∧
        t.mirr.lVN = r.lVN ∧ t.mirr.bias = r.bias ∧ t.mirr.driven = true ∧ t.mirr.running = true ∧ t.mirr.res.isSome = true ∧
        t.fld F.MIRR.DAC_H.U = r.u % 65536 ∧ t.fld F.MIRR.DAC_H.L_H = r.lH % 65536 ∧ t.fld F.MIRR.DAC_V.VP = r.lVP % 65536 ∧
        t.fld F.MIRR.DAC_V.VN = r.lVN % 65536 ∧ commits t)

/-- H_LOCKED sets after LOCK_N periods, a lock too late fails the arming, and a following-error fault stops emission until recovery. (spec/05_mirror_control.md, Resonance search and lock; spec/05_mirror_control.md, Following-error supervision) -/
def Obligations.MirrorLocksAndItsFaults : Prop :=
  ∀ s : State, s.wf → s.live = true →
    (s.mirr.running = true → s.mirr.lockDone = true → s.flag F.MIRR.STAT.H_LOCKED = false → Goes .hLock s fun t =>
      t.flag F.MIRR.STAT.H_LOCKED = true ∧ (t.fld F.MIRR.SWEEP.DIR : Int) = t.mirr.half % 2 ∧
      t = { s with
        regs := t.regs, hot := t.hot
        mirr := { s.mirr with
          feHAct := true, half := (2 * s.mirr.model.phaseAt s.now + one48 / 2) / one48, sweeps := [], overH := 0, inH := 0 } } ∧
      sameRegs [F.MIRR.STAT.H_LOCKED.key 0 0, F.MIRR.SWEEP.DIR.key 0 0] s t) ∧
    (s.dev.mode = .armed → s.mirr.captured = true → s.flag F.MIRR.STAT.H_LOCKED = false → s.mirr.lockDone = false →
      s.lockLate = true → Goes .lockTimeout s fun t =>
        t.flag F.MIRR.STAT.LOCK_FAIL = true ∧ t.fld F.DEV.MODE_STAT.ARM_ERR = 2 ∧ t.dev.mode = .idle ∧ t.mirr = s.mirr ∧
        ∃ u, sameRegs [F.MIRR.STAT.LOCK_FAIL.key 0 0, F.DEV.MODE_STAT.ARM_ERR.key 0 0] s u ∧
          u = { s with regs := u.regs, hot := u.hot } ∧ ModeChange u t .idle) ∧
    (s.mirr.overDoneH = true → s.mirr.feH = false → Goes (.followingErrorFault .h) s fun t =>
      t.flag F.MIRR.STAT.FE_H = true ∧
      t = { s with
        regs := t.regs, hot := t.hot, fire := s.fire.drop s.now
        mirr := { s.mirr with feH := true, overDoneH := false, inDoneH := false, inH := 0 }
        dome := { s.dome with reports := s.dome.reports ++ [(.follow .h, s.raw)], cmd := false } } ∧
      sameRegs [F.MIRR.STAT.FE_H.key 0 0] s t) ∧
    (s.mirr.overDoneV = true → s.mirr.feV = false → Goes (.followingErrorFault .v) s fun t =>
      t.flag F.MIRR.STAT.FE_V = true ∧
      t = { s with
        regs := t.regs, hot := t.hot, fire := s.fire.drop s.now
        mirr := { s.mirr with feV := true, overDoneV := false, inDoneV := false, inV := 0 }
        dome := { s.dome with reports := s.dome.reports ++ [(.follow .v, s.raw)], cmd := false } } ∧
      sameRegs [F.MIRR.STAT.FE_V.key 0 0] s t) ∧
    (s.mirr.feH = true → s.mirr.inDoneH = true → s.flag F.MIRR.FE_CFG.ACT_H = true → Goes (.feRecovery .h) s fun t =>
      t = { s with mirr := { s.mirr with feH := false } }) ∧
    (s.mirr.feV = true → s.mirr.inDoneV = true → s.flag F.MIRR.FE_CFG.ACT_V = true → Goes (.feRecovery .v) s fun t =>
      t = { s with mirr := { s.mirr with feV := false } })

/-- A sweep boundary counts, turns the direction, signals the cores and, on a CLOSE request, ends the frame. (spec/05_mirror_control.md, Sweeps; spec/08_cell_contexts.md, Frames; spec/12_scan_programs.md, Commit groups and boundaries) -/
def Obligations.SweepBoundariesCountAndCloseFrames : Prop :=
  ∀ s : State, s.wf → s.live = true →
    (s.sweepDue = false → Goes .sweepBoundary s fun t => t = s) ∧
    (s.sweepDue = true → Goes .sweepBoundary s fun t =>
      let frame := s.dev.close && s.scanning
      t.fld F.MIRR.SWEEP.COUNT = (s.fld F.MIRR.SWEEP.COUNT + 1) % 2 ^ 47 ∧ t.mirr.half = s.mirr.half + 1 ∧
      (t.fld F.MIRR.SWEEP.DIR : Int) = (s.mirr.half + 1) % 2 ∧
      (∀ c : Fin 12, (t.core c.val).ev.testBit 1 = true) ∧ t.dev.close = false ∧
      (frame = false → (∀ c, t.core c = { s.core c with ev := (t.core c).ev }) ∧
        (∀ d, (t.strip d).visits = (s.strip d).visits ∧ (t.strip d).cq = (s.strip d).cq ∧ (t.strip d).dets = (s.strip d).dets) ∧
        t = { s with
          regs := t.regs, hot := t.hot, force := t.force, free := t.free, fire := t.fire, mon := t.mon, mirr := t.mirr
          strips := t.strips, dev := t.dev, cores := t.cores, eph := t.eph, ephStd := t.ephStd, out := t.out, bg := t.bg }) ∧
      (frame = true → t.dome.frame = s.dome.frame + 1 ∧ t.dome.lastB = s.now ∧
        t.dome.verdicts = s.dome.verdicts ++ [(s.dome.frame, s.now + 50000000)] ∧
        (∀ c : Fin 12, (t.core c.val).ev.testBit 2 = true) ∧
        (∀ d : Fin 24, t.fld F.STRIP.CTX_STAT.FRAME d.val = (s.fld F.STRIP.CTX_STAT.FRAME d.val + 1) % F.STRIP.CTX_STAT.FRAME.span) ∧
        (s.ripe .rejection = true → t.wc = { ev := [], parts := [], begin_ := bankNums.map (fun b => (b, s.now)) }) ∧
        (s.ripe .rejection = false → t.wc = s.wc)) ∧
      t.dev = { s.dev with close := false, cmtBy := t.dev.cmtBy, cmtAt := t.dev.cmtAt, cmtLate := t.dev.cmtLate } ∧
      t.raw = s.raw ∧ t.aon = s.aon ∧ t.clk = s.clk ∧ t.reply = s.reply ∧ t.afe = s.afe ∧ t.tap = s.tap ∧ t.fuses = s.fuses)

/-- A pending commit whose boundary cannot occur copies the whole group in a tick after its own. (spec/12_scan_programs.md, Commit groups and boundaries; the tick is log entry 134) -/
def Obligations.ImmediateCommitsCopyTheirGroup : Prop :=
  ∀ (s : State) (n : Fin 7), s.wf → s.live = true →
    (n.val < 4 → s.ripe (grpOf n.val) = true → (n.val < 2 → s.flag F.MIRR.STAT.H_LOCKED = false) →
      (2 ≤ n.val → s.scanning = false) → Goes (.commitImmediate n) s fun t =>
        (∀ G ∈ (grpOf n.val).flds, G ≠ F.ALD.EPH_CTRL.SWAP → ∀ i j, i < G.n1 → j < G.n2 →
          t.act G i j = s.staged G i j % G.span) ∧
        t.bit F.DEV.CMT_STAT.PEND n.val = (s.lateCommits (grpOf n.val)).isSome ∧ t.bit F.DEV.CMT_STAT.DONE n.val = true ∧
        t.fld F.DEV.CMT_CNT.COMMITS = (s.fld F.DEV.CMT_CNT.COMMITS + 1) % 2 ^ 24 ∧
        t.mem = s.mem ∧ t.dome = s.dome ∧ t.clk = s.clk ∧ t.reply = s.reply ∧ t.mirr = s.mirr ∧ t.afe = s.afe ∧
        (∀ c, t.core c = { s.core c with ev := (t.core c).ev }) ∧
        ((∀ p ∈ s.fire.parts, s.edgeAhead p = false) → t.strips = s.strips) ∧
        (∀ d, t.strip d = { s.strip d with slots := (t.strip d).slots, chans := (t.strip d).chans }) ∧
        ∀ k, (∀ G ∈ (grpOf n.val).flds, ∀ i j, i < G.n1 → j < G.n2 → k ≠ G.key i j) → Tab.find? t.force k = Tab.find? s.force k) ∧
    ((n.val < 4 → s.ripe (grpOf n.val) = false ∨ (n.val < 2 ∧ s.flag F.MIRR.STAT.H_LOCKED = true) ∨
      (2 ≤ n.val ∧ s.scanning = true)) → Goes (.commitImmediate n) s fun t => t = s)

/-- Transit posts the next reachable column to the four Alidade queues at its posting instant, after a sweep boundary of the tick. (spec/05_mirror_control.md, Crossings; spec/05_mirror_control.md, The control period; spec/03_firing.md, Dither code) -/
def Obligations.ColumnEventsReachEveryAlidade : Prop :=
  (∀ s : State, s.live = true → s.mirr.tn + 200000 ≤ s.now → Goes .columnEventPost s fun t => t = s) ∧
  ∀ (s u : State) (w : TSweep) (rest : List TSweep), s.wf → s.live = true → s.now < s.mirr.tn + 200000 → u = s.sweepFirst →
    u.flag F.MIRR.STAT.H_LOCKED = true → u.flag F.ALD.EPH_STAT.INFORCE = true → u.mirr.sweeps = w :: rest →
    (u.nextReach 1024 w 0).1.idx < 1024 →
    let x := (u.nextReach 1024 w 0).1
    let tcol := max (u.crossing x).1 (u.mirr.lastT + 1)
    let post := tcol - 16 * (clampN 250 5000 (u.act F.MIRR.TRANSIT_CFG.LEAD) : Int)
    (u.now < post → Goes .columnEventPost s fun t => t = u) ∧
    (post ≤ u.now → Goes .columnEventPost s fun t =>
      let e : ColEv := {
        col := x.col, dir := x.half % 2 != 0, sweep := x.count % 65536, tcol := tcol
        d := if u.actFlag F.FIRE.DITH_CFG.EN then lfsr8 u.fire.lfsr % 256 else 128, word1 := u.ephWord x.col 1, at_ := u.raw }
      (∀ b : Fin 4, t.core b.val = { u.core b.val with
        queue := (if (u.core b.val).queue.length < 16 then (u.core b.val).queue else (u.core b.val).queue.drop 1) ++ [e] }) ∧
      (∀ c, 4 ≤ c → t.core c = u.core c) ∧
      (∀ b : Fin 4, t.fld F.MIRR.TRANSIT_OVF.OVF 0 b.val = if (u.core b.val).queue.length < 16
        then u.fld F.MIRR.TRANSIT_OVF.OVF 0 b.val else min (u.fld F.MIRR.TRANSIT_OVF.OVF 0 b.val + 1) (F.MIRR.TRANSIT_OVF.OVF.span - 1)) ∧
      t.fld F.FIRE.DITH_STAT.STATE = lfsr8 u.fire.lfsr % 65536 ∧ t.fld F.FIRE.DITH_STAT.LAST_D = e.d % 256 ∧
      t.fld F.MIRR.TRANSIT_STAT.UNREACHED =
        min (u.fld F.MIRR.TRANSIT_STAT.UNREACHED + (u.nextReach 1024 w 0).2) 16777215 ∧
      t = { u with
        regs := t.regs, hot := t.hot, cores := t.cores, free := t.free, fire := { u.fire with lfsr := lfsr8 u.fire.lfsr }
        mirr := { u.mirr with sweeps := { x with idx := x.idx + 1 } :: rest, lastT := tcol } } ∧
      sameOutside [(0x1000204, 0x1000204), (0x1000531, 0x1000531), (0x1000533, 0x1000533)] u t)

/-- Bridges deliver outputs on their grid, swap polarity when due, and a second flagged half-period confirms a break. (spec/06_angle_sensing.md, Decimation presets; spec/06_angle_sensing.md, Polarity swap; spec/06_angle_sensing.md, Wire break; spec/05_mirror_control.md, The control period) -/
def Obligations.BridgesDeliverSwapAndSwitch : Prop :=
  ∀ s : State, s.wf → s.live = true →
    (∀ (n : Fin 4) (xs : List (BitVec 16)), s.afe.running = true → xs.length = s.nextLen n.val →
      s.sampleAt ((s.bridge n.val).k + xs.length) ≤ s.now → (s.bridge n.val).swapDue = false → s.ripe .frontEnd = false →
      Goes (.bridgeOutput n xs) s fun t =>
        let valid := !s.swapBlocked n.val && !s.bit F.AFE.BR_STAT.BRK n.val && !s.underTest n.val
        (t.bridge n.val).k = (s.bridge n.val).k + xs.length ∧ (t.bridge n.val).settle = (s.bridge n.val).settle - 1 ∧
        t.flag F.AFE.BR_OUT.VALID n.val = valid ∧ t.bit F.AFE.BR_STAT.VALID n.val = valid ∧
        (valid = true → s.isActive n.val = true → n.val = s.activeH → t.mirr = { s.mirr with
          hs := s.mirr.hs ++ [(s.sampleAt ((s.bridge n.val).k + xs.length) - presetD (s.preset n.val),
            t.fldS F.AFE.BR_ANG.ANGLE n.val)] }) ∧
        (valid = true → s.isActive n.val = true → n.val ≠ s.activeH →
          t.mirr = { s.mirr with vLast := t.fldS F.AFE.BR_ANG.ANGLE n.val }) ∧
        (valid = false ∨ s.isActive n.val = false → t.mirr = s.mirr) ∧
        t = { s with regs := t.regs, hot := t.hot, mirr := t.mirr, free := t.free, afe := { s.afe with bridges := t.afe.bridges } } ∧
        sameRegs [F.AFE.BR_OUT.RAW.key n.val 0, F.AFE.BR_ANG.ANGLE.key n.val 0, F.AFE.BR_OUT.VALID.key n.val 0,
          F.AFE.BR_OUT.TEST.key n.val 0, F.AFE.BR_OUT.POL.key n.val 0, F.AFE.BR_STAT.VALID.key 0 0] s t) ∧
    (∀ n : Fin 4, s.afe.running = true → s.dueOpt (s.bridge n.val).swapNext = true → Goes (.polaritySwapDue n) s fun t =>
      (t.bridge n.val).swapDue = true ∧
      t.fld F.AFE.BR_CNT.DEFER = (if s.swapBlocked n.val && !(s.bridge n.val).deferCnt
        then min (s.fld F.AFE.BR_CNT.DEFER + 1) 65535 else s.fld F.AFE.BR_CNT.DEFER) ∧
      t = { s with regs := t.regs, hot := t.hot, afe := { s.afe with bridges := t.afe.bridges } } ∧
      sameRegs [F.AFE.BR_CNT.DEFER.key 0 0] s t) ∧
    (∀ a v, s.judgeWrite a 0x1000601 v = none → Goes (.swapReq a v) s fun t =>
      (∀ n : Fin 4, t.bridge n.val = if v.getLsbD n.val then { s.bridge n.val with swapDue := true } else s.bridge n.val) ∧
      t = { s with afe := { s.afe with bridges := t.afe.bridges }, reply := some { code := 0, addr := 0x1000601, value := 0 } }) ∧
    (∀ w : Fin 4 → BridgeWin, s.afe.running = true → s.sampleAt (64 * (s.afe.halves + 1)) ≤ s.now →
      Goes (.excitationHalfPeriodEnd (w 0) (w 1) (w 2) (w 3)) s fun t =>
        (∀ n : Fin 4, s.bit F.AFE.BR_STAT.BRK n.val = false →
          (s.flagged n.val (w n) = true → s.bit F.AFE.BR_STAT.SUSPECT n.val = true →
            t.bit F.AFE.BR_STAT.BRK n.val = true ∧ t.bit F.AFE.BR_STAT.SUSPECT n.val = false ∧
            (Report.bridge n.val, s.raw) ∈ t.dome.reports) ∧
          (s.flagged n.val (w n) = true → s.bit F.AFE.BR_STAT.SUSPECT n.val = false →
            t.bit F.AFE.BR_STAT.BRK n.val = false ∧ t.bit F.AFE.BR_STAT.SUSPECT n.val = true) ∧
          (s.flagged n.val (w n) = false →
            t.bit F.AFE.BR_STAT.BRK n.val = false ∧ t.bit F.AFE.BR_STAT.SUSPECT n.val = false)) ∧
        (∀ n : Fin 4, (t.bridge n.val).flag1 = s.flagged n.val (w n) ∧ (t.bridge n.val).flag2 = (s.bridge n.val).flag1) ∧
        t.afe.halves = s.afe.halves + 1 ∧ t.fire = s.fire ∧
        t = { s with regs := t.regs, hot := t.hot, afe := t.afe, dome := t.dome, free := t.free } ∧
        sameOutside [(0x1000602, 0x1000603), (0x1000610, 0x1000613), (0x10006A0, 0x10006A0)] s t) ∧
    (∀ a v, s.judgeWrite a 0x1000602 v = none → Goes (.brkClear a v) s fun t =>
      (∀ n : Fin 4, t.bit F.AFE.BR_STAT.BRK n.val = (s.bit F.AFE.BR_STAT.BRK n.val &&
        !(v.getLsbD (16 + n.val) && !(s.bridge n.val).flag1 && !(s.bridge n.val).flag2 &&
          !(s.since F.AFE.BR_STAT.BRK).testBit n.val))) ∧
      t.flag F.AFE.BR_STAT.CMT_ERR = (s.flag F.AFE.BR_STAT.CMT_ERR &&
        !(v.getLsbD 20 && decide (s.since F.AFE.BR_STAT.CMT_ERR = 0))) ∧
      t = { s with regs := t.regs, hot := t.hot, reply := some { code := 0, addr := 0x1000602, value := 0 } } ∧
      sameRegs [F.AFE.BR_STAT.BRK.key 0 0, F.AFE.BR_STAT.CMT_ERR.key 0 0] s t)

/-- A read of BR_OUTn, H_MODEL0 or HK_DATA answers the word, latches the partner for its own reader alone, or clears NEW; a result that
lands in the read's own tick stays unread. (spec/06_angle_sensing.md, AFE registers; spec/06_angle_sensing.md, Housekeeping conversion; spec/05_mirror_control.md, MIRR registers; spec/17_register_map.md, Reads with side effects) -/
def Obligations.PairedReadsLatchTheirPartner : Prop :=
  ∀ (s : State) (a : Accessor), s.wf → s.live = true →
    let before := fun (b : Nat) (addr : Nat) => (s.beforeHot addr).view (accCode a) b addr
    (∀ n : Fin 4, Goes (.brOutRead a n) s fun t =>
      t.reply = some { code := 0, addr := 0x1000608 + 2 * n.val, value := before 5 (0x1000608 + 2 * n.val) } ∧
      (Tab.sorted s.latch = true → t.latched a (2 + n.val) = s.view (accCode a) 5 (0x1000609 + 2 * n.val)) ∧
      (∀ b k, latchKey b k ≠ latchKey a (2 + n.val) → t.latched b k = s.latched b k) ∧
      t = { s with latch := t.latch, reply := t.reply }) ∧
    (Goes (.hModel0Read a) s fun t =>
      t.reply = some { code := 0, addr := 0x1000510, value := before 4 0x1000510 } ∧
      (Tab.sorted s.latch = true → t.latched a 1 = s.view (accCode a) 4 0x1000511) ∧
      (∀ b k, latchKey b k ≠ latchKey a 1 → t.latched b k = s.latched b k) ∧
      t = { s with latch := t.latch, reply := t.reply }) ∧
    (∀ n : Fin 4, s.accessRead a (0x1000609 + 2 * n.val) =
      { s with reply := some { code := 0, addr := 0x1000609 + 2 * n.val, value := s.latched a (2 + n.val) } }) ∧
    (s.accessRead a 0x1000511 = { s with reply := some { code := 0, addr := 0x1000511, value := s.latched a 1 } }) ∧
    (∀ addr, s.hot = [] → s.beforeHot addr = s) ∧
    (Goes (.hkDataRead a) s fun t =>
      t.reply = some { code := 0, addr := 0x1000672, value := before 5 0x1000672 } ∧
      t.fld F.AFE.HK_DATA.NEW = s.since F.AFE.HK_DATA.NEW % 2 ∧
      ((∀ x, s.afe.ovrAt = some x → x.1 ≠ s.raw) → t = { s with regs := t.regs, hot := t.hot, reply := t.reply } ∧
        sameRegs [F.AFE.HK_DATA.NEW.key 0 0] s t) ∧
      (∀ x, s.afe.ovrAt = some x → x.1 = s.raw →
        t.flag F.AFE.HK_STAT.OVR = x.2 ∧ t.fld F.AFE.HK_STAT.OVR_CNT = s.fld F.AFE.HK_STAT.OVR_CNT - 1 ∧
        t = { s with regs := t.regs, hot := t.hot, reply := t.reply, afe := { s.afe with ovrAt := none } } ∧
        sameRegs [F.AFE.HK_DATA.NEW.key 0 0, F.AFE.HK_STAT.OVR.key 0 0, F.AFE.HK_STAT.OVR_CNT.key 0 0] s t))

/-- Housekeeping converts in order at its clock, waits for its reference, and the test DAC is refused where it may not act. (spec/06_angle_sensing.md, Housekeeping conversion; spec/06_angle_sensing.md, Reference; spec/06_angle_sensing.md, Test DAC) -/
def Obligations.HousekeepingAndTestDac : Prop :=
  ∀ s : State, s.wf → s.live = true →
    (∀ a v, s.judgeWrite a 0x1000670 (v ||| 2) = none → bits v 12 8 < 24 → Goes (.hkSingle a v) s fun t =>
      t.afe = { s.afe with single := some (bits v 12 8), hkFree := max s.afe.hkFree s.now } ∧
      t.fld F.AFE.HK_CTRL.SINGLE_IN = bits v 12 8 ∧ t.flag F.AFE.HK_CTRL.RUN = v.getLsbD 0 ∧
      t = { s with regs := t.regs, hot := t.hot, afe := t.afe, reply := some { code := 0, addr := 0x1000670, value := 0 } } ∧
      sameRegs [F.AFE.HK_CTRL.SINGLE_IN.key 0 0, F.AFE.HK_CTRL.RUN.key 0 0] s t) ∧
    (s.hkReady = true →
      (∀ m, s.afe.single = some m ∨ (s.afe.single = none ∧ s.flag F.AFE.HK_CTRL.RUN = true ∧ s.hkNext = some m) →
        Goes .hkConversionStart s fun t =>
          t.afe = { s.afe with
            single := none, last := if s.afe.single.isSome then s.afe.last else some m
            conv := some {
              input := m, settle := s.fld F.AFE.HK_IN.SETTLE m, curve := hkHonoured m (s.fld F.AFE.HK_IN.CURVE m)
              rser := s.fld F.AFE.HK_IN.R_SER m, start := s.now / 20000 * 20000, single := s.afe.single.isSome } } ∧
          t.flag F.AFE.HK_STAT.BUSY = true ∧ t = { s with regs := t.regs, hot := t.hot, afe := t.afe } ∧
          sameRegs [F.AFE.HK_STAT.BUSY.key 0 0] s t)) ∧
    (∀ (code : BitVec 16) c, s.afe.conv = some c → c.start + 10000 * ((c.settle : Int) + 1) + 20000 ≤ s.now →
      Goes (.hkResultLand code) s fun t =>
        t.flag F.AFE.HK_DATA.NEW = true ∧ t.fld F.AFE.HK_DATA.INPUT = c.input % 32 ∧ t.fld F.AFE.HK_DATA.CURVE = c.curve % 8 ∧
        t.flag F.AFE.HK_DATA.TEST =
          (s.flag F.AFE.TDAC_CFG.EN && decide (s.fld F.AFE.TDAC_CFG.TARGET = c.input + 8)) ∧
        t.flag F.AFE.HK_STAT.BUSY = false ∧ t.afe.conv = none ∧ t.afe.hkFree = c.start + 10000 * ((c.settle : Int) + 1) + 20000 ∧
        t.flag F.AFE.HK_STAT.OVR = (s.flag F.AFE.HK_STAT.OVR || s.flag F.AFE.HK_DATA.NEW) ∧
        t.fld F.AFE.HK_STAT.OVR_CNT =
          (if s.flag F.AFE.HK_DATA.NEW then min (s.fld F.AFE.HK_STAT.OVR_CNT + 1) 65535 else s.fld F.AFE.HK_STAT.OVR_CNT) ∧
        (c.curve = 0 → s.flag F.AFE.TDAC_CFG.EN = false ∨ s.fld F.AFE.TDAC_CFG.TARGET ≠ c.input + 8 → c.input ≠ 22 →
          t.fld F.AFE.HK_DATA.VALUE = code.toNat ∧ t.flag F.AFE.HK_DATA.RANGE = false ∧
          Tab.find? t.afe.vals c.input = some (code.toNat : Int) ∧
          ((Tab.find? s.afe.temps c.input).isSome = true → Tab.find? t.afe.temps c.input = some (code.toNat : Int)) ∧
          (Tab.find? s.afe.temps c.input = none → t.afe.temps = s.afe.temps)) ∧
        t.afe = { s.afe with conv := none, hkFree := t.afe.hkFree, vals := t.afe.vals, temps := t.afe.temps, ovrAt := t.afe.ovrAt } ∧
        t = { s with regs := t.regs, hot := t.hot, afe := t.afe, free := t.free } ∧
        sameOutside [(0x1000672, 0x1000673)] s t) ∧
    (∀ a v, s.judgeWrite a 0x1000674 v = none → Goes (.refSrcWrite a v) s fun t =>
      let kept := s.afe.conv.filter (fun c => decide (c.landing ≤ s.now))
      t.fld F.AFE.REF_CFG.SRC = bits v 1 0 ∧ t.flag F.AFE.REF_STAT.SETTLED = false ∧ t.hkPaused = true ∧
      t.flag F.AFE.HK_STAT.BUSY = kept.isSome ∧
      t = { s with
        regs := t.regs, hot := t.hot, afe := { s.afe with conv := kept, refStart := s.now, refHeld := false }
        dev := { s.dev with rwlAt := t.dev.rwlAt }, reply := some { code := 0, addr := 0x1000674, value := 0 } } ∧
      sameRegs [F.AFE.REF_CFG.SRC.key 0 0, F.AFE.REF_STAT.SETTLED.key 0 0, F.AFE.HK_STAT.BUSY.key 0 0] s t) ∧
    (s.flag F.AFE.REF_STAT.SETTLED = false → s.afe.refHeld = false →
      (s.afe.refStart + 320000 ≤ s.now → Goes .refSettled s fun t =>
        t.flag F.AFE.REF_STAT.SETTLED = true ∧ t.hkPaused = false ∧
        t = { s with regs := t.regs, hot := t.hot, afe := { s.afe with hkFree := max s.afe.hkFree s.now } } ∧
        sameRegs [F.AFE.REF_STAT.SETTLED.key 0 0] s t) ∧
      (s.afe.refStart + 20000000 ≤ s.now → Goes .refSettleTimeout s fun t =>
        t.flag F.AFE.REF_STAT.REF_ERR = true ∧ t = { s with regs := t.regs, hot := t.hot, afe := { s.afe with refHeld := true } } ∧
        sameRegs [F.AFE.REF_STAT.REF_ERR.key 0 0] s t)) ∧
    (∀ a (v : Word), s.judgeWrite a 0x10006A0 v = none →
      let tg := bits v 20 16
      let barred := (4 ≤ tg ∧ tg ≤ 7) ∨ (v.getLsbD 24 = true ∧
        ((tg < 4 ∧ s.isActive tg = true ∧ (s.dev.mode = .armed ∨ s.scanning = true)) ∨
          (s.flag F.AFE.TDAC_CFG.EN = true ∧ tg ≠ s.fld F.AFE.TDAC_CFG.TARGET)))
      (barred → Goes (.tdacCfgWrite a v) s fun t =>
        t = { s with reply := some { code := Err.refused.code, addr := 0x10006A0, value := 0 } }) ∧
      (¬ barred → Goes (.tdacCfgWrite a v) s fun t =>
        t.fld F.AFE.TDAC_CFG.TARGET = tg ∧ t.fld F.AFE.TDAC_CFG.LEVEL = bits v 11 0 ∧
        t.flag F.AFE.TDAC_CFG.EN = v.getLsbD 24 ∧ t.reply = some { code := 0, addr := 0x10006A0, value := 0 } ∧
        t = { s with regs := t.regs, hot := t.hot, afe := { s.afe with bridges := t.afe.bridges }, reply := t.reply } ∧
        sameRegs [F.AFE.TDAC_CFG.TARGET.key 0 0, F.AFE.TDAC_CFG.LEVEL.key 0 0, F.AFE.TDAC_CFG.EN.key 0 0] s t))

/-- Bias, staleness and calibration set their flags and report strip faults, and the write-1-to-clear conditions hold. (spec/07_receiver_tdc.md, SPAD array and bias; spec/07_receiver_tdc.md, Calibration and the range equation; spec/07_receiver_tdc.md, Strip readiness and faults; spec/16_background.md, Sampler calibration) -/
def Obligations.ReceiverBiasFaultsAndFlags : Prop :=
  ∀ s : State, s.wf → s.live = true →
    (∀ (d : Fin 24) (m : BitVec 16), s.flag F.STRIP.RX_STAT.POWERED d = true → (s.strip d).biasAt + 200000 ≤ s.now →
      Goes (.biasOkChange d m) s fun t =>
        let ok := decide (((m.toNat : Int) - clampN 1000 5000 (s.fld F.STRIP.BIAS_CFG.VEX d)).natAbs ≤ 50)
        let settled := ∀ p ∈ s.fire.parts, s.edgeAhead p = false
        t.fld F.STRIP.BIAS_STAT.VEX_M d = m.toNat ∧ t.flag F.STRIP.RX_STAT.BIAS_OK d = ok ∧
        (ok = s.flag F.STRIP.RX_STAT.BIAS_OK d → t.strips = s.strips) ∧
        (ok = true → s.flag F.STRIP.RX_STAT.BIAS_OK d = false →
          (t.strip d).okSeen = true ∧ (t.strip d).clearSum = 0 ∧ (t.strip d).biasAt = s.now ∧
          (settled → (∀ e, e ≠ d.val → t.strip e = s.strip e) ∧ (t.strip d).slots = (s.strip d).slots)) ∧
        (ok = false → s.flag F.STRIP.RX_STAT.BIAS_OK d = true →
          (t.strip d).clearAt = s.now ∧ (t.strip d).biasAt = s.now ∧
          (settled → (∀ e, e ≠ d.val → (t.strip e).ungated = (s.strip e).ungated) ∧
            ∀ e q sl, s.slot e q = some sl → ∃ g, t.slot e q = some { sl with gates := g } ∧
              Tab.find? g d = some ((Tab.find? sl.gates d).getD s.now) ∧ ∀ x, x ≠ d.val → Tab.find? g x = Tab.find? sl.gates x)) ∧
        (∀ e, t.strip e = { s.strip e with
          slots := (t.strip e).slots, chans := (t.strip e).chans, okSeen := (t.strip e).okSeen, clearSum := (t.strip e).clearSum
          clearAt := (t.strip e).clearAt, biasAt := (t.strip e).biasAt }) ∧
        t = { s with regs := t.regs, hot := t.hot, strips := t.strips } ∧
        sameRegs [F.STRIP.BIAS_STAT.VEX_M.key d 0, F.STRIP.RX_STAT.BIAS_OK.key d 0] s t) ∧
    (∀ (ds : BitVec 24) (q : Nat → Bool), (q = fun d => ds.getLsbD d && s.biasLate d && !s.flag F.STRIP.RX_STAT.BIAS_ERR d) →
      Goes (.biasErrTimeout ds) s fun t =>
        (∀ d : Fin 24, q d = true → t.flag F.STRIP.RX_STAT.BIAS_ERR d = true ∧ t.flag F.STRIP.RX_STAT.FAULT d = true) ∧
        ((∃ d : Fin 24, q d = false ∧ s.flag F.STRIP.RX_STAT.BIAS_ERR d = false) →
          t.dome.reports = s.dome.reports ++ ((List.range 24).filter q).map (fun d => (Report.strip d, s.raw))) ∧
        ((∀ d : Fin 24, q d = true) → (Report.receiver, s.raw) ∈ t.dome.reports ∧
          ∀ d : Fin 24, (Report.strip d, s.raw) ∉ t.dome.reports) ∧
        t = { s with regs := t.regs, hot := t.hot, dome := { s.dome with reports := t.dome.reports } } ∧
        sameRegs (((List.range 24).filter q).flatMap fun d =>
          [F.STRIP.RX_STAT.BIAS_ERR.key d 0, F.STRIP.RX_STAT.FAULT.key d 0]) s t) ∧
    (∀ d : Fin 24, s.biasLate d = (s.flag F.STRIP.RX_STAT.POWERED d && !s.flag F.STRIP.RX_STAT.BIAS_OK d &&
      ((!(s.strip d).okSeen && (s.strip d).powAt.any (fun t => decide (t + 4000000 ≤ s.now))) ||
        decide (20000000 ≤ s.clearTime d)))) ∧
    (∀ d : Fin 24, s.flag F.STRIP.RX_STAT.POWERED d = true → 1000 < s.calAge d → s.flag F.STRIP.RX_STAT.STALE d = false →
      Goes (.calStale d) s fun t =>
        t.flag F.STRIP.RX_STAT.STALE d = true ∧ t.flag F.STRIP.RX_STAT.FAULT d = true ∧
        t = { s with regs := t.regs, hot := t.hot, dome := { s.dome with reports := s.dome.reports ++ [(.strip d, s.raw)] } } ∧
        sameRegs [F.STRIP.RX_STAT.STALE.key d 0, F.STRIP.RX_STAT.FAULT.key d 0] s t) ∧
    (∀ a (d : Fin 24) (v : Word), s.judgeWrite a (0x1002000 + 64 * d.val) v = none → Goes (.stripFlagClear a d v) s fun t =>
      let quiet := fun (x : Fld) => decide (s.since x d = 0)
      t.flag F.STRIP.RX_STAT.BIAS_ERR d = (s.flag F.STRIP.RX_STAT.BIAS_ERR d &&
        !(v.getLsbD 5 && s.flag F.STRIP.RX_STAT.BIAS_OK d && quiet F.STRIP.RX_STAT.BIAS_ERR)) ∧
      t.flag F.STRIP.RX_STAT.STALE d = (s.flag F.STRIP.RX_STAT.STALE d &&
        !(v.getLsbD 6 && decide (s.calAge d ≤ 1000) && quiet F.STRIP.RX_STAT.STALE)) ∧
      t.flag F.STRIP.RX_STAT.FAULT d = (s.flag F.STRIP.RX_STAT.FAULT d && !(v.getLsbD 7 &&
        decide (s.fld F.STRIP.RX_STAT.RET_CH d ≤ 2) && !t.flag F.STRIP.RX_STAT.BIAS_ERR d && !t.flag F.STRIP.RX_STAT.STALE d &&
        quiet F.STRIP.RX_STAT.FAULT)) ∧
      t = { s with regs := t.regs, hot := t.hot, reply := some { code := 0, addr := 0x1002000 + 64 * d.val } } ∧
      sameRegs [F.STRIP.RX_STAT.BIAS_ERR.key d 0, F.STRIP.RX_STAT.STALE.key d 0, F.STRIP.RX_STAT.FAULT.key d 0] s t) ∧
    (∀ (d : Fin 24) (smp : Fin 33) hits (offs : BitVec 16), s.testComplete d smp hits = true →
      (smp.val < 32 → ∀ h ∈ hits, 1024 ≤ h ∧ h ≤ 7168) → Goes (.calTestComplete d smp hits offs) s fun t =>
        let first := !(s.strip d).fresh.contains smp.val
        let old := Tab.find? (s.strip d).calPend smp.val
        let held := fun (p : Nat) => if smp.val < 32 then s.chTrim (32 * d + smp) p else s.startTrim d p
        let heldOff := s.fldS F.CHAN.CAL.OFFS (32 * d + smp)
        t.fld F.STRIP.CAL_STAT.TESTS d = (s.fld F.STRIP.CAL_STAT.TESTS d + 1) % 65536 ∧
        (smp.val < 32 → t.flag F.CHAN.CAL.VALID (32 * d + smp) = true) ∧
        (t.calComplete d = true → t.flag F.STRIP.RX_STAT.CAL_VALID d = true) ∧
        (∃ c, t.strip d = { s.strip d with
            calPend := Tab.put (s.strip d).calPend smp.val c, fresh := smp.val :: (s.strip d).fresh.filter (· != smp.val)
            testAt := Tab.put (s.strip d).testAt smp.val (s.powered d)
            testFrom := Tab.put (s.strip d).testFrom smp.val ((s.strip d).freeTime s.now (smp.val / 8)) } ∧
          (∀ p < 16, c.trims.getD p 0 = calMove first ((old.map (fun c => c.trims.getD p 0)).getD (held p)) (trimOf hits p)) ∧
          c.offs = calMove first ((old.map (fun c => c.offs)).getD heldOff) (signed 16 offs.toNat)) ∧
        (∀ e, e ≠ d.val → t.strip e = s.strip e) ∧ t = { s with regs := t.regs, hot := t.hot, strips := t.strips } ∧
        sameRegs ([F.STRIP.CAL_STAT.TESTS.key d 0, F.STRIP.RX_STAT.CAL_VALID.key d 0] ++
          if smp.val < 32 then [F.CHAN.CAL.VALID.key (32 * d + smp) 0] else []) s t) ∧
    (∀ (d : Fin 24) c, Tab.find? (s.strip d).calPend 32 = some c → (∀ p < 16, -32 ≤ c.trims.getD p 0 ∧ c.trims.getD p 0 ≤ 31) →
      ((s.strip d).slots = [] → ∀ p < 16, (s.applyStart d).startTrim d p = c.trims.getD p 0) ∧
      ((s.strip d).slots ≠ [] → s.applyStart d = s)) ∧
    (∀ (d : Fin 24) (j : Fin 32) hits (offs : BitVec 16) (c : Instr), s.chRetired d j = false →
      (c = .calNoHitTimeout d j ∧ s.flag F.STRIP.RX_STAT.POWERED d = true ∧ 200000000 ≤ s.calFree d j) ∨
        (c = .calTestComplete d ⟨j.val, by omega⟩ hits offs ∧ s.testComplete d j hits = true ∧ ∃ h ∈ hits, h < 1024 ∨ 7168 < h) →
      Goes c s fun t =>
        t.chRetired d j = true ∧
        t.fld F.STRIP.RX_STAT.RET_CH d = (s.fld F.STRIP.RX_STAT.RET_CH d + 1) % 64 ∧
        (s.fld F.STRIP.RX_STAT.RET_CH d < 2 → t.dome = s.dome) ∧
        (2 ≤ s.fld F.STRIP.RX_STAT.RET_CH d → s.fld F.STRIP.RX_STAT.RET_CH d < 63 →
          s.flag F.STRIP.RX_STAT.FAULT d = false → t.flag F.STRIP.RX_STAT.FAULT d = true ∧
          t.dome = { s.dome with reports := s.dome.reports ++ [(.strip d, s.raw)] }) ∧
        (∀ e, e ≠ d.val → t.strip e = s.strip e) ∧
        t.strip d = { s.strip d with
          calPend := Tab.del (s.strip d).calPend j, testAt := Tab.del (s.strip d).testAt j
          slots := (t.strip d).slots, chans := (t.strip d).chans } ∧
        (s.slot d (j / 8) = none → (t.strip d).slots = (s.strip d).slots ∧ (t.strip d).chans = (s.strip d).chans) ∧
        (∀ sl, s.slot d (j / 8) = some sl →
          (t.strip d).slots = Tab.put (s.strip d).slots (j / 8) { sl with lost := sl.lost ||| (1 <<< (j % 8)) } ∧
          (t.strip d).chans = Tab.put (s.strip d).chans j { s.chan d j with armed := false }) ∧
        t = { s with regs := t.regs, hot := t.hot, strips := t.strips, dome := t.dome } ∧
        sameRegs [F.CHAN.CAL.RETIRED.key (32 * d + j) 0, F.STRIP.RX_STAT.RET_CH.key d 0, F.STRIP.RX_STAT.CAL_VALID.key d 0,
          F.STRIP.RX_STAT.FAULT.key d 0] s t)

/-- SPAD events count where their SPAD is enabled and has recovered, coincidences make stops and blind counts, a stop is classed by its
code against its part's start, and joins the queue at its tick's end. (spec/07_receiver_tdc.md, SPAD array and bias; spec/07_receiver_tdc.md, Coincidence; spec/07_receiver_tdc.md, Conversions; spec/09_rejection_points.md, Window-contamination monitor) -/
def Obligations.StopsAreTakenTimedAndDelivered : Prop :=
  (∀ spad ps y, recovery spad ≤ 3000 ∧ (recovered spad ps y = true ↔
    y % 32768 ≠ spad ∨ y / 32768 + recovery spad ≤ ps ∨ ps + recovery spad ≤ y / 32768)) ∧
  (∀ (s : State) (e : SpadEv),
    let spad := 256 * e.v.val + e.u.val
    s.addEvent e = { s with spads := (s.addEvent e).spads } ∧
    ∀ x, x ∈ (s.addEvent e).spads ↔ x ∈ s.spads ∨ (x = evKey e.ps spad ∧ s.spadLive e.u e.v e.ps = true ∧
      ∀ y ∈ s.spads, y = evKey e.ps spad ∨ recovered spad e.ps y = true)) ∧
  (∀ (s : State) (d : Fin 24),
    ((s.strip d).dets.length + (s.strip d).arr.length ≤ 64 → ∃ l : List Arr, l.Perm (s.strip d).arr ∧
      l.Pairwise (fun x y => y.before x = false) ∧ ((s.enterDets d).strip d).dets = (s.strip d).dets ++ l.map Arr.det ∧
      ((s.enterDets d).strip d).arr = [] ∧ s.enterDets d = { s with strips := (s.enterDets d).strips }) ∧
    (Tab.sorted s.regs = true → 64 ≤ (s.strip d).dets.length → ((s.enterDets d).strip d).dets = (s.strip d).dets ∧
      (s.enterDets d).fld F.STRIP.RX_CNT0.DROP d = (if (s.strip d).arr = [] then s.fld F.STRIP.RX_CNT0.DROP d
        else min (s.fld F.STRIP.RX_CNT0.DROP d + (s.strip d).arr.length) 4095))) ∧
  ∀ (s : State) (d : Fin 24) (j : Fin 32) (events : List SpadEv) sl p, s.wf → s.live = true → s.slot d (j / 8) = some sl →
    s.part sl.pid = some p →
    let u := events.foldl State.addEvent s
    let evs := u.chanEvents sl j
    let m := sl.m.getD (j % 8) 0
    (∀ first last, (s.chan d j).armed = true → coincidence evs (s.chan d j).from_ m (50 * sl.w) = some (first, last) →
      Goes (.channelStop d j events) s fun t =>
        t.chan d j = { armed := false, stop := evInst (first / 32768), key := first, from_ := last + 1 } ∧
        (t.strip d).convs = (s.strip d).convs ++ [{ pid := sl.pid, j := j, stop := evInst (first / 32768), blind := 0 }] ∧
        t.fld F.CHAN.CNT.STOPS (32 * d + j) = min (s.fld F.CHAN.CNT.STOPS (32 * d + j) + 1) 16777215 ∧
        t.fld F.STRIP.RX_CNT1.STOPS d = min (s.fld F.STRIP.RX_CNT1.STOPS d + 1) 16777215 ∧
        t.strip d = { s.strip d with chans := (t.strip d).chans, convs := (t.strip d).convs } ∧
        (∀ e, e ≠ d.val → t.strip e = s.strip e) ∧
        t = { s with regs := t.regs, hot := t.hot, strips := t.strips, spads := u.spads } ∧
        sameRegs [F.CHAN.CNT.STOPS.key (32 * d + j) 0, F.STRIP.RX_CNT1.STOPS.key d 0] s t) ∧
    ((s.chan d j).armed = false ∨ coincidence evs (s.chan d j).from_ m (50 * sl.w) = none →
      Goes (.channelStop d j events) s fun t => t = { s with spads := u.spads }) ∧
    (let c := s.chan d j
     let blind := coincidence (evs.filter (fun k => decide (evInst (k / 32768) < rearmAt sl c evs))) c.from_ m (50 * sl.w)
     (c.armed = true ∨ s.chRetired d j = true ∨ blind = none →
      Goes (.blindCoincidence d j events) s fun t => t = { s with spads := u.spads }) ∧
     (∀ first last, c.armed = false → s.chRetired d j = false → blind = some (first, last) →
      Goes (.blindCoincidence d j events) s fun t =>
        t.fld F.CHAN.CNT.BLIND (32 * d + j) = min (s.fld F.CHAN.CNT.BLIND (32 * d + j) + 1) 16777215 ∧
        t.fld F.STRIP.RX_CNT1.BLIND d = min (s.fld F.STRIP.RX_CNT1.BLIND d + 1) 16777215 ∧
        t.chan d j = { c with from_ := last + 1 } ∧
        ((∃ v ∈ (s.strip d).convs, v.j = j.val ∧ v.stop = c.stop) → (t.strip d).slots = (s.strip d).slots ∧
          (t.strip d).convs = (s.strip d).convs.map (fun v =>
            if v.j = j.val ∧ v.stop = c.stop then { v with blind := v.blind + 1 } else v)) ∧
        ((∀ v ∈ (s.strip d).convs, v.j = j.val → v.stop ≠ c.stop) → (t.strip d).convs = (s.strip d).convs ∧
          t.slot d (j / 8) = some (if c.early then sl else if j.val / 4 % 2 = 0 then
            { sl with blind0 := sl.blind0 + 1 } else { sl with blind1 := sl.blind1 + 1 })) ∧
        t.strip d = { s.strip d with chans := (t.strip d).chans, convs := (t.strip d).convs, slots := (t.strip d).slots } ∧
        (∀ e, e ≠ d.val → t.strip e = s.strip e) ∧
        t = { s with regs := t.regs, hot := t.hot, strips := t.strips, spads := u.spads } ∧
        sameRegs [F.CHAN.CNT.BLIND.key (32 * d + j) 0, F.STRIP.RX_CNT1.BLIND.key d 0] s t)) ∧
    (let r := rearmAt sl (s.chan d j) (s.chanEvents sl j)
     (s.chan d j).armed = false → sl.lost.testBit (j % 8) = false → s.chRetired d j = false → r ≤ s.now →
      Goes (.channelRearm d j) s fun t =>
        t = s.setChan d j { s.chan d j with armed := true, from_ := evKey (r * 50 - 49).toNat 0 }) ∧
    (∀ c t0, (s.strip d).convs.find? (fun c => c.j == j.val) = some c → c.pid = sl.pid → p.tstart = some t0 →
      max t0 c.stop + 256 ≤ s.now → Goes (.conversionComplete d j) s fun t =>
        (t.strip d).convs = (s.strip d).convs.erase c ∧ (∀ e, e ≠ d.val → t.strip e = s.strip e) ∧
        (c.stop - t0 < -128 → t = { s with strips := t.strips } ∧
          t.strip d = { s.strip d with convs := (t.strip d).convs, chans := (t.strip d).chans } ∧
          t.chan d j = { s.chan d j with early := (s.chan d j).early || decide ((s.chan d j).stop = c.stop) }) ∧
        (-128 ≤ c.stop - t0 →
          let rho := j.val / 4 % 2
          let tau := s.tau d j c.stop t0
          let cls := if c.stop - t0 ≤ -2 then 0 else if c.stop - t0 ≤ 1 then 1 else if tau < 214 then 2 else 3
          let val := if cls = 1 then 0 else if cls = 3 then tau else c.stop - t0
          let counted := fun (x : Fld) (b : Bool) => t.fld x d = if b then min (s.fld x d + 1) 4095 else s.fld x d
          counted F.STRIP.RX_CNT0.PRE (cls == 0) ∧ counted F.STRIP.RX_CNT0.COINC (cls == 1) ∧
          counted F.STRIP.RX_CNT0.SHORT (cls == 2) ∧
          Tab.get (fun _ => 0) t.wc.ev (2 * d + rho) = Tab.get (fun _ => 0) s.wc.ev (2 * d + rho) + (if cls = 3 then 0 else 1) ∧
          (∀ k, k ≠ 2 * d.val + rho → Tab.get (fun _ => 0) t.wc.ev k = Tab.get (fun _ => 0) s.wc.ev k) ∧
          t.strip d = { s.strip d with
            convs := (t.strip d).convs
            slots := Tab.put (s.strip d).slots (j / 8) (if rho = 0
              then { sl with stops0 := sl.stops0 + 1, blind0 := sl.blind0 + c.blind }
              else { sl with stops1 := sl.stops1 + 1, blind1 := sl.blind1 + c.blind })
            arr := (s.strip d).arr ++ [{ tfire := p.tfire, j := j, det := {
              pid := p.pid, rho := rho, band := j % 4, cls := cls, tau := val, forced := p.forced, lost := sl.lost, col := sl.col
              lit := (if rho = 0 then sl.cls0 else sl.cls1) == .lit && !(p.forced && sl.fskip), lcnt := p.lcnt } }] } ∧
          t = { s with regs := t.regs, hot := t.hot, strips := t.strips, wc := { s.wc with ev := t.wc.ev } } ∧
          sameRegs [F.STRIP.RX_CNT0.PRE.key d 0, F.STRIP.RX_CNT0.COINC.key d 0, F.STRIP.RX_CNT0.SHORT.key d 0] s t)) ∧
    (∀ (b : Fin 4) r, s.fire.parts.find? (fun p => p.bank == b.val && !p.closed && s.dueOpt p.gateAt) = some r →
      Goes (.listeningWindowClose b) s fun t =>
        t = { s with fire := { s.fire with parts := s.fire.parts.map (fun x => if x.pid = r.pid then { x with closed := true } else x) } })

/-- A visit's read checks and loads its tiles, detections bin while lit and in gate, and an unbooked visit ends without write-back. (spec/08_cell_contexts.md, Tile layout and check; spec/08_cell_contexts.md, Histogram words; spec/08_cell_contexts.md, Visits) -/
def Obligations.VisitsReadBinAndEmpty : Prop :=
  ∀ (s : State) (d : Fin 24), s.wf → s.live = true →
    (∀ v x, (v, x) ∈ s.openVisits d → x.read = false → x.col < 1024 → (∀ e ∈ (s.strip d).ending, e.col ≠ x.col) →
      (∀ q ∈ s.openVisits d, q ≠ (v, x) → q.2.read = true ∨ (∃ e ∈ (s.strip d).ending, e.col = q.2.col) ∨
        x.opened < q.2.opened) →
      let n0 := cellTile d x.col 0
      let n1 := cellTile d x.col 1
      let frame := s.fld F.STRIP.CTX_STAT.FRAME d
      (tileOk (s.rdTile n0) n0 = true → tileOk (s.rdTile n1) n1 = true → Goes (.visitReadDone d) s fun t =>
        t.visit d v = { x with
          read := true, readAt := s.raw, c0 := loadAcc (s.rdTile n0) frame, c1 := loadAcc (s.rdTile n1) frame } ∧
        t.strip d = { s.strip d with visits := (t.strip d).visits, lfirst := (t.strip d).lfirst } ∧
        (∀ e, e ≠ d.val → t.strip e = s.strip e) ∧ t = { s with strips := t.strips }) ∧
      (tagOk (s.rdTile n0) n0 = false → tileOk (s.rdTile n1) n1 = true → Goes (.visitReadDone d) s fun t =>
        (t.visit d v).read = true ∧ ((t.visit d v).c0.words.getD 36 0).getLsbD w36Fresh = true ∧
        ((t.visit d v).c0.words.getD 36 0).getLsbD w36Bad = true ∧ (t.visit d v).c0.words.take 35 = List.replicate 35 0 ∧
        t.fld F.STRIP.CTX_CNT0.TAG d = min (s.fld F.STRIP.CTX_CNT0.TAG d + 1) 65535 ∧ tileOk (t.rdTile n0) n0 = true ∧
        (∀ e, e ≠ d.val → t.strip e = s.strip e) ∧ (∀ c ∈ (t.strip d).cq, bits c.entry 15 0 = n0 → c.entry.getLsbD 47 = true) ∧
        t.strip d = { s.strip d with
          visits := (t.strip d).visits, lfirst := (t.strip d).lfirst, clAt := Tab.del (s.strip d).clAt n0, cq := (t.strip d).cq } ∧
        t = { s with regs := t.regs, hot := t.hot, mem := t.mem, strips := t.strips, bg := { s.bg with ctxFail := s.bg.ctxFail + 1 } } ∧
        (∀ a, a / 48 ≠ n0 → t.rdMem a = s.rdMem a) ∧ sameRegs [F.STRIP.CTX_CNT0.TAG.key d 0] s t)) ∧
    (let left := if (s.strip d).binAt = s.raw then 4 - (s.strip d).binN else 4
     let taken := fun (n : Nat) => { s.strip d with dets := (s.strip d).dets.drop n, binAt := s.raw, binN := 4 - left + n }
     (∀ e rest, (s.strip d).dets = e :: rest → s.detReady d e = false →
      Goes (.binDetection d) s fun t => t = s.setStrip d (taken 0)) ∧
     ((∀ e ∈ (s.strip d).dets.take left, s.detReady d e = true ∧ ¬(e.cls = 3 ∧ e.lit = true)) →
      Goes (.binDetection d) s fun t => t = s.setStrip d (taken (min left (s.strip d).dets.length))) ∧
     (∀ e v, 0 < left → (s.strip d).dets = [e] → s.visitOf d e.col = some v → (s.visit d v).read = true → e.cls = 3 → e.lit = true →
      Goes (.binDetection d) s fun t =>
        (t.strip d).dets = [] ∧
        (s.gateOk d e.band e.tau = true →
          ((t.visit d v).acc e.rho).words = (binInto ((s.visit d v).acc e.rho).words e.lcnt e.tau).1 ∧
          t.fld F.STRIP.CTX_CNT3.MISBAND d = s.fld F.STRIP.CTX_CNT3.MISBAND d ∧
          t.fld F.STRIP.CTX_CNT3.SAT d =
            (if (binInto ((s.visit d v).acc e.rho).words e.lcnt e.tau).2 then min (s.fld F.STRIP.CTX_CNT3.SAT d + 1) 65535
             else s.fld F.STRIP.CTX_CNT3.SAT d)) ∧
        (s.gateOk d e.band e.tau = false →
          ((t.visit d v).acc e.rho).words = addSat ((s.visit d v).acc e.rho).words 33 23 12 1 ∧
          t.fld F.STRIP.CTX_CNT3.MISBAND d = min (s.fld F.STRIP.CTX_CNT3.MISBAND d + 1) 65535) ∧
        t.strip d = { taken 1 with visits := (t.strip d).visits } ∧
        (∀ e, e ≠ d.val → t.strip e = s.strip e) ∧ t = { s with regs := t.regs, hot := t.hot, strips := t.strips } ∧
        sameRegs [F.STRIP.CTX_CNT3.SAT.key d 0, F.STRIP.CTX_CNT3.MISBAND.key d 0] s t)) ∧
    (∀ v x, List.find? (fun p : Nat × Visit => !p.2.booked && s.due (p.2.tcol + 81920)) (s.openVisits d) = some (v, x) →
      Tab.find? (s.strip d).pend (cellTile d x.col 0) = none → Tab.find? (s.strip d).pend (cellTile d x.col 1) = none →
      let left := Tab.del (s.openVisits d) v
      let free := (List.range 4).find? (fun w => (Tab.find? left w).isNone)
      Goes (.visitEmptyTimeout d) s fun t =>
        t.fld F.STRIP.CTX_CNT3.VEMPTY d = min (s.fld F.STRIP.CTX_CNT3.VEMPTY d + 1) 65535 ∧
        t.strip d = { s.strip d with visits := (t.strip d).visits } ∧
        ((∀ j, x.join = some j → j.1 ≠ s.raw) → (t.strip d).visits = left ∧ t.cores = s.cores) ∧
        (∀ tc w, x.join = some (s.raw, tc) → free = some w →
          (t.strip d).visits = Tab.put left w { col := x.col, tcol := tc, opened := s.now } ∧
          (t.core (d / 6)).zf = false) ∧
        (∀ c, t.core c = { s.core c with zf := (t.core c).zf }) ∧ (∀ e, e ≠ d.val → t.strip e = s.strip e) ∧
        t = { s with regs := t.regs, hot := t.hot, strips := t.strips, cores := t.cores } ∧
        sameRegs [F.STRIP.CTX_CNT3.VEMPTY.key d 0] s t)

/-- A write-back counts the visit, and a cell at K closes, is held, stamped, counted and queued; a full queue overflows. (spec/08_cell_contexts.md, Visits; spec/08_cell_contexts.md, Closing and close queues; spec/08_cell_contexts.md, Starved and re-initialised cells; spec/07_receiver_tdc.md, Conversions) -/
def Obligations.VisitsWriteBackAndCellsClose : Prop :=
  ∀ s : State, s.wf → s.live = true →
    (∀ (d : Fin 24) x rest, (s.strip d).ending = x :: rest → x.read = true → x.col < 1024 →
      (∀ rho : Fin 2, (x.acc rho).words.length = 48 ∧ (x.acc rho).held = false ∧ (x.acc rho).afresh = false ∧
        Tab.find? (s.strip d).pend (cellTile d x.col rho) = none) →
      let n := fun rho => cellTile d x.col rho
      let ws := fun rho => addSat (x.acc rho).words 32 39 32 1
      let shots := fun rho => shotsOf ((x.acc rho).words.getD 32 0)
      let bnd := decide ((s.strip d).bndAt = some s.raw)
      let lim := if bnd then (s.strip d).bndK else s.kOf d
      Goes (.visitWritebackDone d) s fun t =>
        (t.strip d).ending = rest ∧
        (∀ rho : Fin 2, tileOk (t.rdTile (n rho)) (n rho) = true ∧
          ∀ i < 35, t.rdMem (48 * n rho + i) = (ws rho).getD i 0) ∧
        (∀ rho : Fin 2, shots rho < lim → t.rdMem (48 * n rho + 36) = s.rdMem (48 * n rho + 36)) ∧
        (∀ rho : Fin 2, lim ≤ shots rho → t.rdMem (48 * n rho + 35) = s.timeNow ∧
          (t.rdMem (48 * n rho + 36)).getLsbD w36Closed = true ∧ (t.rdMem (48 * n rho + 36)).getLsbD w36Held = true ∧
          (t.rdMem (48 * n rho + 36)).getLsbD w36Starved = false ∧ (n rho ∈ (t.strip d).closed ↔ bnd = false) ∧
          Tab.find? (t.strip d).clAt (n rho) = some s.now) ∧
        t.fld F.STRIP.CTX_CNT1.CLOSED d = (s.fld F.STRIP.CTX_CNT1.CLOSED d + (if lim ≤ shots 0 then 1 else 0) +
          (if lim ≤ shots 1 then 1 else 0)) % 65536 ∧
        ((s.strip d).cq.length ≤ 62 → (t.strip d).cq.length = (s.strip d).cq.length +
          (if lim ≤ shots 0 then 1 else 0) + (if lim ≤ shots 1 then 1 else 0) ∧ (t.strip d).ovf = (s.strip d).ovf) ∧
        (64 ≤ (s.strip d).cq.length → (t.strip d).cq = (s.strip d).cq) ∧
        (∀ a, a / 48 ≠ n 0 → a / 48 ≠ n 1 → t.rdMem a = s.rdMem a) ∧ (∀ e, e ≠ d.val → t.strip e = s.strip e) ∧
        t.strip d = { s.strip d with
          ending := rest, closed := (t.strip d).closed, pend := (t.strip d).pend, clAt := (t.strip d).clAt
          cq := (t.strip d).cq, ovf := (t.strip d).ovf } ∧
        t = { s with
          regs := t.regs, hot := t.hot, mem := t.mem, strips := t.strips, out := { s.out with rings := t.out.rings }
          dome := { s.dome with closes := t.dome.closes } } ∧
        sameRegs [F.STRIP.CTX_CNT1.CLOSED.key d 0, F.STRIP.CTX_STAT.QOVF.key d 0] s t) ∧
    (∀ (d : Fin 24) n rest, (s.strip d).ovf = n :: rest → (s.strip d).cq.length < 64 → Goes (.overflowCellEnters d) s fun t =>
      (∃ e, (t.strip d).cq = (s.strip d).cq ++ [e] ∧ e.at_ = s.now ∧
        e.entry = closeEntry n (s.rdMem (48 * n + 32)) (s.rdMem (48 * n + 33)) (s.rdMem (48 * n + 36)) true) ∧
      t.strip d = { s.strip d with ovf := rest, cq := (t.strip d).cq } ∧
      t.fld F.STRIP.CTX_CNT1.LATE d = min (s.fld F.STRIP.CTX_CNT1.LATE d + 1) 65535 ∧
      (∀ e, e ≠ d.val → t.strip e = s.strip e) ∧ t = { s with regs := t.regs, hot := t.hot, strips := t.strips } ∧
      sameRegs [F.STRIP.CTX_CNT1.LATE.key d 0] s t) ∧
    (∀ (b : Fin 4) p, s.fire.parts.find? (fun p => p.bank == b.val && p.closed && s.dueOpt (p.gateAt.map (· + 256))) = some p →
      Goes (.partLeavesFlight b) s fun t =>
        t.fire = { s.fire with parts := s.fire.parts.filter (fun q => q.pid != p.pid) } ∧
        (∀ d, d / 6 = b.val → (∀ c ∈ (t.strip d).convs, c.pid ≠ p.pid) ∧ (∀ e ∈ (t.strip d).dets, e.pid ≠ p.pid) ∧
          (t.strip d).arr = [] ∧
          ∀ q, s.slotOf d p.pid = some q → (∀ c ∈ (s.strip d).convs, c.pid ≠ p.pid) → (s.strip d).arr = [] →
            (t.strip d).slots = Tab.del (s.strip d).slots q) ∧
        (∀ d, d / 6 ≠ b.val → t.strip d = s.strip d) ∧ (∀ k ∈ t.spads, k ∈ s.spads) ∧
        (∀ c, t.core c = { s.core c with zf := (t.core c).zf }) ∧
        t.bg = { s.bg with ctxFail := t.bg.ctxFail
                           flightEnd := Tab.put s.bg.flightEnd b.val (s.now, s.fld F.MIRR.SWEEP.COUNT) } ∧
        t = { s with
          regs := t.regs, hot := t.hot, mem := t.mem, fire := t.fire, strips := t.strips, spads := t.spads, cores := t.cores
          wc := { s.wc with ev := t.wc.ev }, bg := t.bg } ∧
        sameOutside [(0x1002000, 0x10025FF), (0x1010000, 0x1010FFF)] s t)

/-- Headers and groups enter a ring in order, a stall ends in discard mode, RING_CFG empties the ring, and windows are judged. (spec/09_rejection_points.md, Output rings and routing; spec/09_rejection_points.md, Header records; spec/09_rejection_points.md, Window-contamination monitor) -/
def Obligations.RingsTakeHeadersAndGroups : Prop :=
  ∀ (s : State) (b : Fin 4), s.wf → s.live = true →
    let u := s.sweepFirst
    let wcAt := fun (s : State) =>
      Tab.get (fun _ => 0) s.wc.begin_ b.val + (max 1 (s.act F.BANK.WC_CFG.WC_IVL b.val) : Nat) * ms
    let fits := fun (s : State) => decide (4 ≤ s.fld F.BANK.RING_CFG.NTILE b ∧
      s.fld F.BANK.RING_CFG.BASE b + s.fld F.BANK.RING_CFG.NTILE b ≤ 16384 ∧ ∀ c : Fin 12, (s.core c).stopReq = false)
    (∀ k h, fits u = true → u.now < wcAt u → (u.ring b).causes = [k] → k < 2 → (u.ring b).hNext = some h →
      (u.ring b).groups = [] → u.flag F.BANK.RING_STAT.DISC b = false →
      (4 ≤ u.ringRoom b → (u.ring b).moved = false → Goes (.ringGroupEntry b) s fun t =>
        (t.ring b).base = some h ∧ (t.ring b).causes = [] ∧ (t.ring b).head = (u.ring b).head + 4 ∧
        (∀ x, x ≠ b.val → t.ring x = u.ring x) ∧
        t.fld F.BANK.OUT_CNT0.HDRS b = (u.fld F.BANK.OUT_CNT0.HDRS b + 1) % 16777216 ∧
        (List.range 4).flatMap (fun i => t.slotWords b ((u.ring b).head + i)) = u.headerWords b k h ∧
        t = { u with regs := t.regs, hot := t.hot, mem := t.mem, out := { u.out with rings := t.out.rings } } ∧
        (∀ a, a < ssBase → t.rdMem a = u.rdMem a) ∧ sameRegs [F.BANK.OUT_CNT0.HDRS.key b 0] u t) ∧
      (8 ≤ u.ringRoom b → (u.ring b).moved = true → Goes (.ringGroupEntry b) s fun t =>
        (t.ring b).base = some h ∧ (t.ring b).causes = [] ∧ (t.ring b).head = (u.ring b).head + 8 ∧ (t.ring b).moved = false ∧
        (∀ x, x ≠ b.val → t.ring x = u.ring x) ∧
        t.fld F.BANK.OUT_CNT0.HDRS b = (u.fld F.BANK.OUT_CNT0.HDRS b + 2) % 16777216 ∧
        t.fld F.BANK.OUT_CNT2.REBASE b = min (u.fld F.BANK.OUT_CNT2.REBASE b + 1) 65535 ∧
        (List.range 4).flatMap (fun i => t.slotWords b ((u.ring b).head + i)) = u.headerWords b 2 h ∧
        t = { u with regs := t.regs, hot := t.hot, mem := t.mem, out := { u.out with rings := t.out.rings } } ∧
        (∀ a, a < ssBase → t.rdMem a = u.rdMem a) ∧
        sameRegs [F.BANK.OUT_CNT0.HDRS.key b 0, F.BANK.OUT_CNT2.REBASE.key b 0] u t)) ∧
    (fits u = true → u.now < wcAt u → (u.ring b).causes = [3] → (u.ring b).groups = [] →
      Goes (.ringGroupEntry b) s fun t => t = u) ∧
    (∀ g r rest h, fits u = true → (u.ring b).causes = [] → (u.ring b).rebase = false →
      (u.ring b).base = some h → (u.ring b).groups = g :: rest → g.recs = [r] → offBase g.tpt h = false →
      u.flag F.BANK.RING_STAT.DISC b = false → 1 ≤ u.ringRoom b → Goes (.ringGroupEntry b) s fun t =>
        let v := u.wcEnd b
        let x := v.fillRec b g h (decide (225000 < (u.raw : Int) - tickOf g.tpt)) r
        (t.ring b).groups = rest ∧ (t.ring b).head = (u.ring b).head + 1 ∧ (∀ x, x ≠ b.val → t.ring x = u.ring x) ∧
        t.fld F.BANK.OUT_CNT0.RECS b = (u.fld F.BANK.OUT_CNT0.RECS b + 1) % 16777216 ∧
        t.slotWords b (u.ring b).head = [x.1, x.2] ∧
        (∀ c, g.core = some c → (t.core c).wait = .none ∧ (t.core c).cell = none ∧ ∀ e, e ≠ c → t.core e = u.core e) ∧
        (g.core = none → t.cores = u.cores) ∧
        t.dome = { u.dome with hits := t.dome.hits, lastCupd := t.dome.lastCupd, closes := t.dome.closes } ∧
        t.bg = { u.bg with points := u.bg.points + 1 } ∧
        t = { v with
          regs := t.regs, hot := t.hot, mem := t.mem, out := { u.out with rings := t.out.rings }, dome := t.dome, cores := t.cores
          bg := t.bg } ∧
        (u.now < wcAt u → v = u) ∧ ∀ a, a < ssBase → t.rdMem a = u.rdMem a) ∧
    (∀ w, (∀ c : Fin 12, (s.core c).stopReq = false) → (s.ring b).waitAt = some w →
      max w (s.ring b).lastFree + (max 1 (s.fld F.BANK.RING_CFG.STALL b) : Nat) * ms ≤ s.now →
      Goes (.ringStallTimeout b) s fun t =>
        t.flag F.BANK.RING_STAT.DISC b = true ∧
        t = { s with regs := t.regs, hot := t.hot, mem := t.mem, out := { s.out with rings := t.out.rings }, dome := t.dome
                     cores := t.cores, bg := t.bg, wc := t.wc } ∧ ∀ a, a < ssBase → t.rdMem a = s.rdMem a) ∧
    (∀ acc (v : Word), s.judgeWrite acc (0x1001000 + 64 * b.val) v = none →
      let ok := decide (4 ≤ bits v 29 16 ∧ bits v 29 16 ≤ 4096 ∧ bits v 45 32 + bits v 29 16 - 1 ≤ 16383)
      let new := decide (bits v 45 32 ≠ s.fld F.BANK.RING_CFG.BASE b ∨ bits v 29 16 ≠ s.fld F.BANK.RING_CFG.NTILE b)
      let noted := fun (t : State) => { s.dev with rwlAt := t.dev.rwlAt }
      Goes (.ringCfgWrite acc b v) s fun t =>
        (ok = false → t = { s with dev := noted t, reply := some { code := Err.refused.code, addr := 0x1001000 + 64 * b.val } }) ∧
        (ok = true → t.fld F.BANK.RING_CFG.BASE b = bits v 45 32 ∧ t.fld F.BANK.RING_CFG.NTILE b = bits v 29 16 ∧
          t.fld F.BANK.RING_CFG.STALL b = bits v 15 8 ∧ t.fld F.BANK.RING_CFG.ROUTE b = bits v 1 0 ∧
          (new = false → t.out = s.out ∧ t.net = s.net ∧ t.bg = s.bg) ∧
          (new = true →
            let n := ((s.ring b).slots.filter (fun i => !i.hdr)).length
            t.ring b = { s.ring b with
              head := 0, tail := 0, slots := [], sent := [], acked := [], rebase := true, disc := true, moved := true
              lastFree := s.now, discard := (s.ring b).discard + n } ∧ (∀ x, x ≠ b.val → t.ring x = s.ring x) ∧
            (∀ p : Fin 3, t.port p.val = (s.port p.val).loseRing b) ∧ t.bg = { s.bg with discarded := s.bg.discarded + n } ∧
            t.fld F.BANK.OUT_CNT1.DISCARD b = min (s.fld F.BANK.OUT_CNT1.DISCARD b + n) 65535) ∧
          t = { s with regs := t.regs, hot := t.hot, out := { s.out with rings := t.out.rings }, bg := t.bg, dev := noted t
                       net := { s.net with ports := t.net.ports }, reply := some { code := 0, addr := 0x1001000 + 64 * b.val } } ∧
          sameRegs [F.BANK.RING_CFG.BASE.key b 0, F.BANK.RING_CFG.NTILE.key b 0, F.BANK.RING_CFG.STALL.key b 0,
            F.BANK.RING_CFG.ROUTE.key b 0, F.BANK.OUT_CNT1.DISCARD.key b 0] s t)) ∧
    (wcAt s ≤ s.now → Goes (.wcIntervalEnd b) s fun t =>
        (∀ i : Fin 12,
          let ev := Tab.get (fun _ => 0) s.wc.ev (12 * b + i)
          let parts := Tab.get (fun _ => 0) s.wc.parts (12 * b + i)
          let level := min 65535 (256 * ev / parts)
          t.fld F.BANK.WC_LVL.EVENTS b i = min 65535 ev ∧ t.fld F.BANK.WC_LVL.PARTS b i = min 65535 parts ∧
          (parts = 0 → t.fld F.BANK.WC_LVL.LEVEL b i = s.fld F.BANK.WC_LVL.LEVEL b i ∧
            t.bit F.BANK.WC_STAT.FLAG i b = s.bit F.BANK.WC_STAT.FLAG i b) ∧
          (0 < parts → t.fld F.BANK.WC_LVL.LEVEL b i = level ∧
            t.bit F.BANK.WC_STAT.FLAG i b = if s.act F.BANK.WC_CFG.WC_SET b ≤ level then true
              else if level < s.act F.BANK.WC_CFG.WC_CLR b then false else s.bit F.BANK.WC_STAT.FLAG i b)) ∧
        t = { s with regs := t.regs, hot := t.hot
                     wc := { s.wc with ev := t.wc.ev, parts := t.wc.parts, begin_ := Tab.put s.wc.begin_ b.val s.now } } ∧
        sameOutside [(0x1001011 + 64 * b.val, 0x100101D + 64 * b.val)] s t)

/-- The integer, logic and shift instructions write their register and set the flags named for them, and nothing else. (spec/11_ivqua_instructions.md, Integer and logic instructions; spec/10_ivqua_model.md, Encoding) -/
def Obligations.IntegerInstructionsWriteAndFlag : Prop :=
  ∀ (c : Fin 12) (w : BitVec 40) (s : State),
    let x := s.core c
    let d := fieldD w
    let a := x.rd (fieldA w)
    let b := x.rd (fieldB w)
    let i := sxImm w
    let n := if w.getLsbD 27 then w.toNat % 64 else b.toNat % 64
    let flags := fun (y : Core) (r : Word) (cf vf : Bool) =>
      { y with zf := decide (r = 0), nf := r.getLsbD 47, cf := cf, vf := vf }
    let sum := fun (p q : Word) (y : Core) =>
      flags y (p + q) (decide (2 ^ 48 ≤ p.toNat + q.toNat)) (decide ((p + q).toInt ≠ p.toInt + q.toInt))
    let diff := fun (p q : Word) (y : Core) =>
      flags y (p - q) (decide (p.toNat < q.toNat)) (decide ((p - q).toInt ≠ p.toInt - q.toInt))
    let logic := fun (r : Word) (y : Core) => flags (y.wr d r) r y.cf y.vf
    let shift := fun (r : Word) (cf : Bool) (y : Core) => flags (y.wr d r) r cf y.vf
    (s.stands c (wordOf 0x00 w) → w = 0 → Goes (.nop c w) s fun t => Ran s t c id) ∧
    (s.stands c (wordOf 0x08 w) → immLegal w = true → fieldA w = 0 → Goes (.ldi c w) s fun t =>
      Ran s t c fun y => y.wr d (BitVec.ofNat 48 (imm24 w))) ∧
    (s.stands c (wordOf 0x09 w) → immLegal w = true → fieldA w = 0 → Goes (.ldh c w) s fun t =>
      Ran s t c fun y => y.wr d (BitVec.ofNat 48 (imm24 w * 2 ^ 24 + (x.rd d).toNat % 2 ^ 24))) ∧
    (s.stands c (wordOf 0x0A w) → regLegalDA w = true → Goes (.mov c w) s fun t => Ran s t c fun y => y.wr d a) ∧
    (s.stands c (wordOf 0x10 w) → regLegal w = true → Goes (.add c w) s fun t =>
      Ran s t c fun y => sum a b (y.wr d (a + b))) ∧
    (s.stands c (wordOf 0x11 w) → immLegal w = true → Goes (.addi c w) s fun t =>
      Ran s t c fun y => sum a i (y.wr d (a + i))) ∧
    (s.stands c (wordOf 0x12 w) → regLegal w = true → Goes (.sub c w) s fun t =>
      Ran s t c fun y => diff a b (y.wr d (a - b))) ∧
    (s.stands c (wordOf 0x13 w) → immLegal w = true → Goes (.subi c w) s fun t =>
      Ran s t c fun y => diff a i (y.wr d (a - i))) ∧
    (s.stands c (wordOf 0x14 w) → regLegal w = true → Goes (.mul c w) s fun t =>
      ∃ r : Word, r.toInt = (a.setWidth 24).toInt * (b.setWidth 24).toInt ∧
        Ran s t c fun y => flags (y.wr d r) r false false) ∧
    (s.stands c (wordOf 0x15 w) → regLegalAB w = true → Goes (.cmp c w) s fun t => Ran s t c fun y => diff a b y) ∧
    (s.stands c (wordOf 0x16 w) → immLegal w = true → d = 0 → Goes (.cmpi c w) s fun t => Ran s t c fun y => diff a i y) ∧
    (s.stands c (wordOf 0x18 w) → regLegal w = true → Goes (.iand c w) s fun t => Ran s t c (logic (a &&& b))) ∧
    (s.stands c (wordOf 0x19 w) → regLegal w = true → Goes (.ior c w) s fun t => Ran s t c (logic (a ||| b))) ∧
    (s.stands c (wordOf 0x1A w) → regLegal w = true → Goes (.ixor c w) s fun t => Ran s t c (logic (a ^^^ b))) ∧
    (s.stands c (wordOf 0x1B w) → regLegalDA w = true → Goes (.inot c w) s fun t => Ran s t c (logic (~~~ a))) ∧
    (s.stands c (wordOf 0x1C w) → shiftLegal w = true → Goes (.shl c w) s fun t =>
      Ran s t c (shift (a <<< n) (decide (1 ≤ n ∧ n ≤ 47) && a.getLsbD (48 - n)))) ∧
    (s.stands c (wordOf 0x1D w) → shiftLegal w = true → Goes (.shr c w) s fun t =>
      Ran s t c (shift (a >>> n) (decide (1 ≤ n ∧ n ≤ 47) && a.getLsbD (n - 1)))) ∧
    (s.stands c (wordOf 0x1E w) → shiftLegal w = true → Goes (.sar c w) s fun t =>
      Ran s t c (shift (a.sshiftRight n) (if n = 0 then false else if n ≤ 47 then a.getLsbD (n - 1) else a.getLsbD 47)))

/-- Loads and stores reach the tile buffers, LDT and STT checked tiles of the store, and the vector instructions their lanes. (spec/11_ivqua_instructions.md, Tile buffer and shared store; spec/11_ivqua_instructions.md, Reticle vector instructions; spec/10_ivqua_model.md, What a program can reach) -/
def Obligations.BufferStoreAndVectorInstructions : Prop :=
  ∀ (c : Fin 12) (w : BitVec 40) (s : State),
    let x := s.core c
    let d := fieldD w
    let ea := (x.rd (fieldA w) + sxImm w).toNat
    let inBuf := ea < 48 ∨ (64 ≤ ea ∧ ea < 112)
    let va := x.rdV (fieldA w)
    let vb := x.rdV (fieldB w)
    let vec := vLegal w = true ∧ 4 ≤ c.val
    let lanes := fun (t : State) (g : Nat → Nat) =>
      ∃ r : Word, Ran s t c (fun y => y.wrV d r) ∧ ∀ i : Fin 4, (r.toNat / 2 ^ (12 * i.val)) % 4096 = g i
    let l := fun (v : Word) (i : Nat) => v.toNat / 2 ^ (12 * i) % 4096
    (s.stands c (wordOf 0x20 w) → immLegal w = true → Goes (.ld c w) s fun t =>
      (inBuf → Ran s t c fun y => y.wr d (x.rdB ea)) ∧ (¬inBuf → Trapped s t c tADDR)) ∧
    (s.stands c (wordOf 0x21 w) → immLegal w = true → Goes (.st c w) s fun t =>
      (inBuf → Ran s t c fun y => y.wrB ea (x.rd d)) ∧ (¬inBuf → Trapped s t c tADDR)) ∧
    (s.stands c (wordOf 0x51 w) → immLegal w = true → d < 8 → 4 ≤ c.val → Goes (.vld c w) s fun t =>
      (inBuf → Ran s t c fun y => y.wrV d (x.rdB ea)) ∧ (¬inBuf → Trapped s t c tADDR)) ∧
    (s.stands c (wordOf 0x52 w) → immLegal w = true → d < 8 → 4 ≤ c.val → Goes (.vst c w) s fun t =>
      (inBuf → Ran s t c fun y => y.wrB ea (x.rdV d)) ∧ (¬inBuf → Trapped s t c tADDR)) ∧
    (s.stands c (wordOf 0x22 w) → immLegal w = true → d ≤ 1 → Goes (.ldt c w) s fun t =>
      (ssTiles ≤ ea → Trapped s t c tADDR) ∧
      (ea < ssTiles → tileOk (s.rdTile (ctxTiles + ea)) (ctxTiles + ea) = true →
        Ran s t c fun y => y.putB (64 * d) (s.rdTile (ctxTiles + ea))) ∧
      (ea < ssTiles → tileOk (s.rdTile (ctxTiles + ea)) (ctxTiles + ea) = false → Trapped s t c tTILE)) ∧
    (s.wf → s.stands c (wordOf 0x23 w) → immLegal w = true → d ≤ 1 → Goes (.stt c w) s fun t =>
      (s.inStt c ea = false → Trapped s t c tADDR) ∧
      (s.inStt c ea = true → (∃ k, t = { s.setCore c { x.past with cache := k } with mem := t.mem }) ∧
        tileOk (t.rdTile (ctxTiles + ea)) (ctxTiles + ea) = true ∧
        (t.rdTile (ctxTiles + ea)).take 47 = x.getB (64 * d) 47 ∧
        ∀ q, (q < ssBase + 48 * ea ∨ ssBase + 48 * ea + 48 ≤ q) → t.rdMem q = s.rdMem q)) ∧
    (s.stands c (wordOf 0x53 w) → vec → Goes (.vadd c w) s fun t => lanes t fun i => min 4095 (l va i + l vb i)) ∧
    (s.stands c (wordOf 0x54 w) → vec → Goes (.vsub c w) s fun t => lanes t fun i => l va i - l vb i) ∧
    (s.stands c (wordOf 0x55 w) → vec → Goes (.vmax c w) s fun t => lanes t fun i => max (l va i) (l vb i)) ∧
    (s.stands c (wordOf 0x56 w) → vec → Goes (.vmin c w) s fun t => lanes t fun i => min (l va i) (l vb i)) ∧
    (s.stands c (wordOf 0x57 w) → regLegalDA w = true → fieldA w < 8 → 4 ≤ c.val → Goes (.vsum c w) s fun t =>
      let r := BitVec.ofNat 48 (l va 0 + l va 1 + l va 2 + l va 3)
      Ran s t c fun y => { y.wr d r with zf := decide (r = 0), nf := false }) ∧
    (s.stands c (wordOf 0x58 w) → fieldB w = 0 → low28 w < 16 → d < 8 → fieldA w < 8 → 4 ≤ c.val → Goes (.vshr c w) s fun t =>
      lanes t fun i => if 11 < low28 w then 0 else l va i / 2 ^ low28 w)

/-- Branches, calls, returns and loops go to their targets, and a trap saves the PC, sets CAUSE and goes to the vector or to FAULT. (spec/11_ivqua_instructions.md, Control transfer; spec/10_ivqua_model.md, Traps and faults; spec/10_ivqua_model.md, Execution timing) -/
def Obligations.ControlTransferAndTraps : Prop :=
  ∀ (c : Fin 12) (w : BitVec 40) (s : State), s.wf →
    let x := s.core c
    let target := (x.pc : Int) + branchOff w
    let inside := 0 ≤ target ∧ target < 47 * (x.ntile : Int)
    let v := x.rd (fieldA w) - 1
    (s.stands c (wordOf 0x28 w) → branchLegal w = true → fieldA w = 0 → fieldD w ≤ 9 → Goes (.br c w) s fun t =>
      (x.cond (s.evTrue c) (fieldD w) = false → Ran s t c id) ∧
      (x.cond (s.evTrue c) (fieldD w) = true → inside → Ran s t c fun y => { y with pc := target.toNat }) ∧
      (x.cond (s.evTrue c) (fieldD w) = true → ¬inside → Trapped s t c tADDR)) ∧
    (s.stands c (wordOf 0x29 w) → branchLegal w = true → fieldA w = 0 → fieldD w = 0 → Goes (.call c w) s fun t =>
      (16 ≤ x.stack.length → Trapped s t c tSTACK) ∧
      (x.stack.length < 16 → inside → Ran s t c fun y => { y with pc := target.toNat, stack := (x.pc + 1, false) :: x.stack }) ∧
      (x.stack.length < 16 → ¬inside → Trapped s t c tADDR)) ∧
    (s.stands c (wordOf 0x2A w) → w = 0 → Goes (.ret c w) s fun t =>
      (x.stack = [] → Trapped s t c tSTACK) ∧
      (∀ p rest, x.stack = (p, false) :: rest → Ran s t c fun y => { y with pc := p, stack := rest }) ∧
      (∀ p rest, x.stack = (p, true) :: rest → t.flag F.CORE.STAT.TRAP_ACTIVE c = false ∧
        (∃ k, t = { s.setCore c { x with pc := p, stack := rest, cache := k } with regs := t.regs, hot := t.hot }) ∧
        sameRegs [F.CORE.STAT.TRAP_ACTIVE.key c 0] s t)) ∧
    (s.stands c (wordOf 0x2B w) → branchLegal w = true → fieldD w = 0 → fieldA w ≠ 0 → Goes (.loop c w) s fun t =>
      (v = 0 → Ran s t c fun y => y.wr (fieldA w) v) ∧
      (v ≠ 0 → inside → Ran s t c fun y => { y.wr (fieldA w) v with pc := target.toNat }) ∧
      (v ≠ 0 → ¬inside → Trapped s t c tADDR)) ∧
    (s.stands c (wordOf 0x01 w) → w = 0 → Goes (.halt c w) s fun t =>
      t.fld F.CORE.STAT.STATE c = 4 ∧ sameRegs [F.CORE.STAT.STATE.key c 0] s t ∧
      ∃ k, t = { s.setCore c { x.past with cache := k } with regs := t.regs, hot := t.hot }) ∧
    (s.stands c (wordOf 0x02 w) → w = 0 → Goes (.trap c w) s fun t =>
      Trapped s t c tSOFT ∧
      (s.flag F.CORE.STAT.TRAP_ACTIVE c = false → s.flag F.CORE.CTRL.TRAP_EN c = true → x.stack.length < 16 →
        t.fld F.CORE.TRAP.CAUSE c = 9 ∧ t.fld F.CORE.TRAP.TPC c = x.pc % 65536 ∧ t.flag F.CORE.STAT.TRAP_ACTIVE c = true ∧
        (∃ k, t = { s.setCore c { x with pc := x.vec, stack := (x.pc + 1, true) :: x.stack, cache := k } with regs := t.regs, hot := t.hot }) ∧
        sameRegs [F.CORE.TRAP.CAUSE.key c 0, F.CORE.TRAP.TPC.key c 0, F.CORE.STAT.TRAP_ACTIVE.key c 0] s t) ∧
      (s.flag F.CORE.STAT.TRAP_ACTIVE c = true → t.fld F.CORE.TRAP.SEC_CAUSE c = 9 ∧ t.fld F.CORE.STAT.STATE c = 5 ∧
        t.fld F.CORE.TRAP.CAUSE c = s.fld F.CORE.TRAP.CAUSE c ∧ t.fld F.CORE.TRAP.TPC c = s.fld F.CORE.TRAP.TPC c) ∧
      (s.flag F.CORE.STAT.TRAP_ACTIVE c = false → s.flag F.CORE.CTRL.TRAP_EN c = false →
        t.fld F.CORE.TRAP.CAUSE c = 9 ∧ t.fld F.CORE.STAT.STATE c = 5 ∧
        t.fld F.CORE.TRAP.SEC_CAUSE c = s.fld F.CORE.TRAP.SEC_CAUSE c) ∧
      (s.flag F.CORE.STAT.TRAP_ACTIVE c = false → s.flag F.CORE.CTRL.TRAP_EN c = true → 16 ≤ x.stack.length →
        t.fld F.CORE.TRAP.CAUSE c = 9 ∧ t.fld F.CORE.TRAP.SEC_CAUSE c = 5 ∧ t.fld F.CORE.STAT.STATE c = 5)) ∧
    (s.canIssue c = true → 47 * x.ntile ≤ x.pc → Goes (.nop c w) s fun t => Trapped s t c tADDR) ∧
    (s.canIssue c = true → x.pc < 47 * x.ntile → s.fetch c = none → Goes (.nop c w) s fun t => Trapped s t c tFETCH) ∧
    (∀ u : Word, s.stands c u → bits u 47 40 ∉ opcodes → Goes (.nop c w) s fun t => Trapped s t c tILLEGAL) ∧
    (s.stands c (wordOf 0x40 w) → 4 ≤ c.val → Goes (.waita c w) s fun t => Trapped s t c tILLEGAL) ∧
    (s.stands c (wordOf 0x50 w) → c.val < 4 → Goes (.cpop c w) s fun t => Trapped s t c tILLEGAL) ∧
    (s.stands c (wordOf 0x10 w) → regLegal w = false → Goes (.add c w) s fun t => Trapped s t c tILLEGAL)

/-- WAITT and WAITE wait and resume, SIG signals, and SEND and RECV move a message through its mailbox. (spec/11_ivqua_instructions.md, Waiting, signals and messages; spec/10_ivqua_model.md, Events and waiting; spec/15_gloelink.md, Mailboxes) -/
def Obligations.WaitsSignalsAndMail : Prop :=
  ∀ (c : Fin 12) (w : BitVec 40) (s : State), s.wf →
    let x := s.core c
    let d := fieldD w
    let v := x.rd (fieldA w)
    let m := mailBox w
    let placer := if (s.mbx m).msg = [] ∨ (s.mbx m).at_ ≠ s.now then none
      else allCores.find? fun j => coreCode j == bits ((s.mbx m).msg.getD 0 0) 47 40
    let waits := fun (t : State) (u : Wait) =>
      t.fld F.CORE.STAT.STATE c = 3 ∧ sameRegs [F.CORE.STAT.STATE.key c 0] s t ∧
      ∃ k, t = { s.setCore c { x.past with wait := u, cache := k } with regs := t.regs, hot := t.hot }
    (s.stands c (wordOf 0x30 w) → regLegalA w = true → Goes (.waitt c w) s fun t =>
      (1250000000 ≤ v.toNat % 2 ^ 31 → Trapped s t c tILLEGAL) ∧
      (v.toNat % 2 ^ 31 < 1250000000 → s.ticksOf v ≤ s.ticks → Ran s t c id) ∧
      (v.toNat % 2 ^ 31 < 1250000000 → s.ticks < s.ticksOf v → waits t (.time (16 * (s.ticksOf v - s.clk.off))))) ∧
    (∀ i, s.live = true → s.clk.timeRun = true → x.wait = .time i → i ≤ s.now → Goes (.waittResume c) s fun t =>
      t.fld F.CORE.STAT.STATE c = 2 ∧ sameRegs [F.CORE.STAT.STATE.key c 0] s t ∧
      t = { s.setCore c { x with wait := .none } with regs := t.regs, hot := t.hot }) ∧
    (s.stands c (wordOf 0x31 w) → immLegal w = true → fieldA w = 0 → 0 < imm24 w → imm24 w < 256 →
      Goes (.waite c w) s fun t =>
        (s.pendingEv c &&& imm24 w ≠ 0 → Ran s t c fun y =>
          { y.wr d (BitVec.ofNat 48 (s.pendingEv c &&& imm24 w)) with ev := x.ev - (x.ev &&& (s.pendingEv c &&& imm24 w)) }) ∧
        (s.pendingEv c &&& imm24 w = 0 → waits t (.event (imm24 w) d))) ∧
    (∀ mask r, s.live = true → x.wait = .event mask r → s.pendingEv c &&& mask ≠ 0 → Goes (.waiteResume c) s fun t =>
      t.fld F.CORE.STAT.STATE c = 2 ∧ sameRegs [F.CORE.STAT.STATE.key c 0] s t ∧
      t = { s.setCore c { x.wr r (BitVec.ofNat 48 (s.pendingEv c &&& mask)) with
        wait := .none, ev := x.ev - (x.ev &&& (s.pendingEv c &&& mask)) } with regs := t.regs, hot := t.hot }) ∧
    (s.stands c (wordOf 0x34 w) → immLegal w = true → d = 0 → fieldA w = 0 → imm24 w ≤ 11 → Goes (.sig c w) s fun t =>
      (t.core (imm24 w)).ev = (s.core (imm24 w)).ev ||| 8 ∧
      (∀ e, e ≠ imm24 w → e ≠ c.val → t.core e = s.core e) ∧ (t.core c).pc = x.pc + 1 ∧
      (imm24 w ≠ c.val → ∃ k, t.core c = { x.past with cache := k }) ∧ t = { s with cores := t.cores }) ∧
    (s.stands c (wordOf 0x32 w) → mailLegal w = true → d = 0 → Goes (.send c w) s fun t =>
      ((s.mbx m).msg = [] → ∃ rest, (t.mbx m).msg = setBits (x.rdB (mailAt w)) 47 24
          (coreCode c * 65536 + (s.fld F.MBX.CNT.SEQ m + 1) % 65536) :: rest ∧
        rest = (x.getB (mailAt w) (mailLen w)).drop 1 ∧ (t.mbx m).at_ = s.now ∧
        t.fld F.MBX.CNT.PLACED m = (s.fld F.MBX.CNT.PLACED m + 1) % F.MBX.CNT.PLACED.span ∧
        (∃ k, t = { s.setCore c { x.past with cache := k } with regs := t.regs, hot := t.hot, net := t.net }) ∧
        sameOutside [(0x1000A00 + 8 * m, 0x1000A07 + 8 * m), (0x1000900, 0x10009BF)] s t) ∧
      ((s.mbx m).msg ≠ [] → (∀ j, placer = some j → j ≤ c.val) →
        ∃ u, u.fld F.MBX.CNT.FULL m = min (s.fld F.MBX.CNT.FULL m + 1) (F.MBX.CNT.FULL.span - 1) ∧
          u = { s with regs := u.regs, hot := u.hot } ∧ sameRegs [F.MBX.CNT.FULL.key m 0] s u ∧ Trapped u t c tMBXFULL) ∧
      (∀ j, placer = some j → c.val < j →
        let u := (s.updCore j fun y => { y with pc := y.pc - 1 }).trapTo j tMBXFULL
        (∃ rest, (t.mbx m).msg = setBits (x.rdB (mailAt w)) 47 24
            (coreCode c * 65536 + s.fld F.MBX.CNT.SEQ m) :: rest ∧ rest = (x.getB (mailAt w) (mailLen w)).drop 1) ∧
        t.fld F.MBX.CNT.FULL m = min (s.fld F.MBX.CNT.FULL m + 1) (F.MBX.CNT.FULL.span - 1) ∧
        t.fld F.MBX.CNT.PLACED m = s.fld F.MBX.CNT.PLACED m ∧
        (∀ e, e ≠ c.val → t.core e = u.core e) ∧ (∃ k, t.core c = { (u.core c).past with cache := k }) ∧
        t = { u with regs := t.regs, hot := t.hot, cores := t.cores, net := t.net } ∧
        sameOutside [(0x1000A00 + 8 * m, 0x1000A07 + 8 * m), (0x1000900, 0x10009BF)] u t)) ∧
    (s.stands c (wordOf 0x33 w) → mailLegal w = true → w.toNat % 8 = 0 → Goes (.recv c w) s fun t =>
      ((s.mbx m).msg = [] ∨ placer.isSome = true → Ran s t c fun y => { y.wr d 0 with zf := true }) ∧
      ((s.mbx m).msg ≠ [] → placer = none → (t.mbx m).msg = [] ∧ (∀ n, n ≠ m → t.mbx n = s.mbx n) ∧
        ∃ k, t = { s.setCore c { (x.past.putB (mailAt w) (s.mbx m).msg).wr d (BitVec.ofNat 48 (s.mbx m).msg.length) with
          zf := false, cache := k } with net := { s.net with mbx := t.net.mbx } }))

/-- RDS reads, WRS is judged at issue and reaches its register later, and CMT's commit is made after the writes before it. (spec/11_ivqua_instructions.md, Register access; spec/10_ivqua_model.md, What a program can reach; spec/10_ivqua_model.md, Commits from programs; spec/12_scan_programs.md, Commit groups and boundaries) -/
def Obligations.CoreRegisterAccessesAndCommits : Prop :=
  ∀ (c : Fin 12) (w : BitVec 40) (s : State), s.wf →
    let x := s.core c
    let d := fieldD w
    let addr := 0x1000000 + ((x.rd (fieldA w)).toNat + imm24 w) % 2 ^ 24
    let v := x.rd d
    let made := fun (t : State) (g : Nat) =>
      t.dev.cmtBy = Tab.put s.dev.cmtBy g (Tab.get (fun _ => []) s.dev.cmtBy g ++ [c.val]) ∧
      (s.pend (grpOf g) = false → t.bit F.DEV.CMT_STAT.PEND g = true ∧ Tab.get (fun _ => 0) t.dev.cmtAt g = s.raw ∧
        sameRegs [F.DEV.CMT_STAT.PEND.key 0 0] s t) ∧
      (s.pend (grpOf g) = true → t.fld F.DEV.CMT_CNT.MERGED = min (s.fld F.DEV.CMT_CNT.MERGED + 1) (2 ^ 24 - 1) ∧
        sameRegs [F.DEV.CMT_CNT.MERGED.key 0 0] s t) ∧
      (s.ripe (grpOf g) = false → s.lateCommits (grpOf g) = none → t.dev.cmtLate = s.dev.cmtLate) ∧
      (s.ripe (grpOf g) = true →
        t.lateCommits (grpOf g) = some ((s.lateCommits (grpOf g)).getD [] ++ [c.val]) ∧ t.dev.cmtAt = s.dev.cmtAt)
    (s.stands c (wordOf 0x36 w) → immLegal w = true → x.ops = [] → Goes (.rds c w) s fun t =>
      (blockOf addr = none → Ran s t c fun y => { y.wr d 0 with cf := true }) ∧
      (∀ blk, blockOf addr = some blk → blk ≠ 9 → blk ≠ 11 → blk ≠ 12 → latchRead addr = none → latchSet addr = none →
        (∀ p ∈ fldsAt addr, p.1.acc ≠ .rc) → Ran s t c fun y => { y.wr d ((s.beforeHot addr).view (accCode (.core c)) blk addr) with cf := false })) ∧
    (s.stands c (wordOf 0x37 w) → immLegal w = true → Goes (.wrs c w) s fun t =>
      let refusal := (s.regWrite (.core c) addr v).2
      let kept := if s.rwlWrite addr v then { s with dev := { s.dev with rwlAt := some s.raw } } else s
      (s.judgeWrite (.core c) addr v ≠ none → refusal ≠ none) ∧
      (s.judgeWrite (.core c) addr v = none → blockOf addr = some 4 ∨ blockOf addr = some 10 ∨ blockOf addr = some 14 →
        refusal = none ∧ kept = s) ∧
      (refusal ≠ none → Ran s t c fun y => { y with cf := true }) ∧
      (refusal = none → Ran kept t c fun y => { y with cf := false, ops := x.ops ++ [.wrs addr v] })) ∧
    (∀ (e : Fin 24) u rest, s.live = true → x.ops = .wrs (0x1002005 + 64 * e.val) u :: rest → Goes (.wrsArrival c) s fun t =>
        t.fld F.STRIP.COINC_CFG.M_BASE e = bits u 2 0 ∧ t.fld F.STRIP.COINC_CFG.M_MAX e = bits u 6 4 ∧
        t.fld F.STRIP.COINC_CFG.W e = bits u 10 8 ∧ t.fld F.STRIP.COINC_CFG.T1 e = bits u 23 12 ∧
        t.fld F.STRIP.COINC_CFG.T2 e = bits u 35 24 ∧ t.fld F.STRIP.COINC_CFG.T3 e = bits u 47 36 ∧
        t = { s.setCore c { x with ops := rest } with regs := t.regs, hot := t.hot } ∧
        sameOutside [(0x1002005 + 64 * e.val, 0x1002005 + 64 * e.val)] s t) ∧
    (s.stands c (wordOf 0x35 w) → immLegal w = true → d = 0 → fieldA w = 0 → imm24 w ≤ 6 → Goes (.cmt c w) s fun t =>
      (x.ops ≠ [] → Ran s t c fun y => { y with ops := x.ops ++ [.cmt (imm24 w)] }) ∧
      (x.ops = [] → made t (imm24 w) ∧ ∃ k, t = { s.setCore c { x.past with cache := k } with
        regs := t.regs, hot := t.hot
        dev := { s.dev with cmtBy := t.dev.cmtBy, cmtAt := t.dev.cmtAt, cmtLate := t.dev.cmtLate } })) ∧
    (∀ g rest, s.live = true → g ≤ 6 → x.ops = .cmt g :: rest → Goes (.cmtCommitMade c) s fun t =>
      made t g ∧ t = { s.setCore c { x with ops := rest } with
        regs := t.regs, hot := t.hot
        dev := { s.dev with cmtBy := t.dev.cmtBy, cmtAt := t.dev.cmtAt, cmtLate := t.dev.cmtLate } })

/-- The Alidade instructions present and skip events, open visits, aim the tilt, meet at barriers and book parts that are judged on arrival. (spec/11_ivqua_instructions.md, Alidade instructions; spec/10_ivqua_model.md, Events and waiting; spec/10_ivqua_model.md, Booking shots; spec/10_ivqua_model.md, Barriers) -/
def Obligations.AlidadeInstructionsAndBookings : Prop :=
  ∀ (c : Fin 12) (w : BitVec 40) (s : State), s.wf → c.val < 4 →
    let x := s.core c
    let d := fieldD w
    let v := x.rd (fieldA w)
    let fresh := x.queue.filter (fun e => decide (s.now ≤ e.tcol))
    let given := fun (y : Core) (r : Nat) (e : ColEv) (rest : List ColEv) =>
      { (y.wr r (s.wordAt e.tcol)).wr (r + 1) e.descriptor with queue := rest, cur := some e, booked := false }
    (s.stands c (wordOf 0x40 w) → regLegalD w = true → d ≠ 0 → d ≠ 15 → Goes (.waita c w) s fun t =>
      t.fld F.ALD.EVT_CNT.STALE c = min (s.fld F.ALD.EVT_CNT.STALE c + (x.queue.length - fresh.length)) 16777215 ∧
      (∀ e rest, fresh = e :: rest → (∃ k, t = { s.setCore c { given x.past d e rest with
        wd := s.now, wdExp := false, cache := k } with regs := t.regs, hot := t.hot }) ∧ sameRegs [F.ALD.EVT_CNT.STALE.key c 0] s t) ∧
      (fresh = [] → t.fld F.CORE.STAT.STATE c = 3 ∧
        (∃ k, t = { s.setCore c { x.past with
          wait := .column d, queue := [], wd := s.now, wdExp := false, cache := k } with regs := t.regs, hot := t.hot }) ∧
        sameRegs [F.ALD.EVT_CNT.STALE.key c 0, F.CORE.STAT.STATE.key c 0] s t)) ∧
    (∀ r e rest, s.live = true → x.wait = .column r → x.queue = e :: rest → Goes (.waitaResume c) s fun t =>
      t.fld F.CORE.STAT.STATE c = 2 ∧ t = { s.setCore c { given x r e rest with wait := .none } with regs := t.regs, hot := t.hot } ∧
      sameRegs [F.CORE.STAT.STATE.key c 0] s t) ∧
    (s.stands c (wordOf 0x47 w) → regLegalDA w = true → Goes (.skipq c w) s fun t =>
      let old := x.queue.filter fun e => e.at_ ≠ s.raw
      let n := min v.toNat old.length
      t.fld F.ALD.EVT_CNT.SKIPPED c = min (s.fld F.ALD.EVT_CNT.SKIPPED c + n) 16777215 ∧
      (∃ k, t = { s.setCore c { x.past.wr d (BitVec.ofNat 48 n) with
        queue := x.queue.drop n, zf := decide (old.length ≤ v.toNat), cache := k } with regs := t.regs, hot := t.hot }) ∧
      sameRegs [F.ALD.EVT_CNT.SKIPPED.key c 0] s t) ∧
    (s.stands c (wordOf 0x42 w) → immLegal w = true → d = 0 → (fieldA w = 0 ∨ imm24 w = 0) → Goes (.win c w) s fun t =>
      (fieldA w ≠ 0 → Ran s t c fun y => { y with win := clampN 1 4096 v.toNat }) ∧
      (fieldA w = 0 → imm24 w ≠ 0 → Ran s t c fun y => { y with win := clampN 1 4096 (imm24 w) }) ∧
      (fieldA w = 0 → imm24 w = 0 → x.cur = none → Trapped s t c tBOOK) ∧
      (∀ e, fieldA w = 0 → imm24 w = 0 → x.cur = some e →
        Ran s t c fun y => { y with win := clampN 1 4096 (bits e.word1 20 8) })) ∧
    (s.stands c (wordOf 0x43 w) → regLegalA w = true → Goes (.visit c w) s fun t =>
      ((∀ e, x.cur = some e → e.col ≠ v.toNat % 1024) → Trapped s t c tBOOK) ∧
      (∀ e, x.cur = some e → e.col = v.toNat % 1024 →
        ((∀ q ∈ bankStrips c, s.visitOf q e.col = none → s.freeVisit q ≠ none) →
          (∃ k, t = { s.setCore c { x.past with
            zf := decide (∀ q ∈ bankStrips c, s.visitOf q e.col ≠ none), cf := false, cache := k } with strips := t.strips }) ∧
          (∀ q ∈ bankStrips c,
            (∀ n, s.visitOf q e.col = some n → t.strip q = { s.strip q with
              visits := Tab.put (s.openVisits q) n { s.visit q n with join := some (s.raw, e.tcol) } }) ∧
            (∀ n, s.visitOf q e.col = none → s.freeVisit q = some n → t.strip q = { s.strip q with
              visits := Tab.put (s.openVisits q) n
                { col := e.col, tcol := e.tcol, opened := s.now, join := some (s.raw, e.tcol) } })) ∧
          ∀ q, q ∉ bankStrips c → t.strip q = s.strip q) ∧
        ((∃ q ∈ bankStrips c, s.visitOf q e.col = none ∧ s.freeVisit q = none) →
          (∃ k, t = { s.setCore c { x.past with zf := false, cf := true, cache := k } with regs := t.regs, hot := t.hot }) ∧
          (∀ q ∈ bankStrips c, t.fld F.STRIP.CTX_CNT2.VREF q = min (s.fld F.STRIP.CTX_CNT2.VREF q + 1) 65535) ∧
          sameRegs ((bankStrips c).map (F.STRIP.CTX_CNT2.VREF.key · 0)) s t))) ∧
    (s.stands c (wordOf 0x44 w) → w = 0 → Goes (.close c w) s fun t =>
      ∃ k, t = { s.setCore c { x.past with zf := s.dev.close && s.dev.closeAt ≠ s.raw, cache := k } with
        dev := { s.dev with close := true, closeAt := if s.dev.close then s.dev.closeAt else s.raw } }) ∧
    (s.stands c (wordOf 0x45 w) → regLegalA w = true → Goes (.vpos c w) s fun t =>
      let g := (v.setWidth 24).toInt
      let u := max (-745654) (min 745654 g)
      (∃ k, (t.core c) = { x.past with
        vf := decide (u ≠ g), cf := decide (s.fld F.MIRR.V_CFG.OWNER ≠ c.val), zf := s.flag F.MIRR.STAT.V_INPOS, cache := k }) ∧
      (s.fld F.MIRR.V_CFG.OWNER = c.val → t = { s.setCore c (t.core c) with mirr := { s.mirr with vpos := some u } }) ∧
      (s.fld F.MIRR.V_CFG.OWNER ≠ c.val → t = { s.setCore c (t.core c) with regs := t.regs, hot := t.hot } ∧
        t.fld F.MIRR.V_STAT.NOTOWN = min (s.fld F.MIRR.V_STAT.NOTOWN + 1) 65535 ∧
        sameRegs [F.MIRR.V_STAT.NOTOWN.key 0 0] s t)) ∧
    (s.stands c (wordOf 0x46 w) → regLegalA w = true → Goes (.synca c w) s fun t =>
      (v.getLsbD c = false → Trapped s t c tILLEGAL) ∧
      (v.getLsbD c = true → t.fld F.CORE.STAT.STATE c = 3 ∧ sameRegs [F.CORE.STAT.STATE.key c 0] s t ∧
        ∃ k, t = { s.setCore c { x.past with wait := .sync (v.toNat % 16), cache := k } with regs := t.regs, hot := t.hot })) ∧
    (∀ m, s.live = true → m < 16 → x.wait = .sync m →
      (∀ i : Fin 4, m.testBit i = true → s.coreRuns i = true → (s.core i).wait = .sync m) → Goes (.syncaRelease c) s fun t =>
        let missing := decide (∃ i : Fin 4, m.testBit i = true ∧ s.coreRuns i = false)
        (∀ i : Fin 4, m.testBit i = true → (s.core i).wait = .sync m →
          t.core i = { s.core i with wait := .none, vf := missing } ∧ t.fld F.CORE.STAT.STATE i = 2 ∧
          t.fld F.ALD.SYNC.INCOMPLETE i = if missing then min (s.fld F.ALD.SYNC.INCOMPLETE i + 1) 65535
            else s.fld F.ALD.SYNC.INCOMPLETE i) ∧
        (∀ i, ¬(i < 4 ∧ m.testBit i = true ∧ (s.core i).wait = .sync m) → t.core i = s.core i) ∧
        t = { s with regs := t.regs, hot := t.hot, cores := t.cores }) ∧
    (s.stands c (wordOf 0x41 w) → regLegalAB w = true → Goes (.fire c w) s fun t =>
      let bad := ∀ e, x.cur = some e → x.booked = true ∨ (∃ q ∈ bankStrips c, s.visitOf q e.col = none) ∨
        v.toInt < -20000 ∨ 20000 < v.toInt
      (bad → Trapped s t c tBOOK) ∧
      (¬bad → ∀ e, x.cur = some e → Ran s t c fun y => { y with book := some (v.toInt,
        if fieldB w ≠ 0 then (x.rd (fieldB w)).toNat % 4096 else segMask e.word1 c) })) ∧
    (∀ o m e, s.live = true → x.stopReq = false → x.book = some (o, m) → x.cur = some e → Goes (.bookingArrival c) s fun t =>
      let s := s.sweepFirst
      let x := s.core c
      let spans := (s.fire.parts.filter (fun p => p.bank == c.val && s.spans p (e.fireAt o))).length
      (e.deadline o < s.now + 16 →
        t.core c = { x with book := none, cf := true, vf := false, booked := false } ∧ t.fire = s.fire ∧
        t.fld F.FIRE.REFUSE_CNT.LATE = min (s.fld F.FIRE.REFUSE_CNT.LATE + 1) 16777215 ∧
        t.fld F.ALD.BOOK_CNT.REFUSED c = (s.fld F.ALD.BOOK_CNT.REFUSED c + 1) % 16777216) ∧
      (s.now + 16 ≤ e.deadline o → 4 ≤ spans →
        t.core c = { x with book := none, cf := true, vf := true, booked := false } ∧ t.fire = s.fire ∧
        t.fld F.FIRE.REFUSE_CNT.FLIGHT = min (s.fld F.FIRE.REFUSE_CNT.FLIGHT + 1) 16777215 ∧
        t.fld F.ALD.BOOK_CNT.REFUSED c = (s.fld F.ALD.BOOK_CNT.REFUSED c + 1) % 16777216) ∧
      (s.now + 16 ≤ e.deadline o → spans < 4 →
        t.core c = { x with book := none, cf := false, vf := false, booked := true } ∧
        t.fire = { s.fire with
          parts := insertPart { pid := s.fire.nextPid, bank := c, col := e.col, mask := m, lcnt := x.win, pxb := bits e.word1 7 0
                                tfire := e.tcol + o + 16 * ((e.d : Int) - 128) } s.fire.parts
          nextPid := s.fire.nextPid + 1 } ∧
        t.fld F.ALD.BOOK_CNT.ACCEPTED c = (s.fld F.ALD.BOOK_CNT.ACCEPTED c + 1) % 16777216) ∧
      t = { s with regs := t.regs, hot := t.hot, fire := t.fire, strips := t.strips, cores := t.cores } ∧
      (∀ i, i ≠ c.val → t.core i = s.core i))

/-- The Reticle cell instructions take a cell, measure, correct, search and grade it, emit its records and release its tile. (spec/11_ivqua_instructions.md, Reticle cell instructions; spec/08_cell_contexts.md, Closing and close queues; spec/09_rejection_points.md, Point records) -/
def Obligations.ReticleCellInstructions : Prop :=
  ∀ (c : Fin 12) (w : BitVec 40) (s : State), s.wf → 4 ≤ c.val →
    let x := s.core c
    let d := fieldD w
    let a := x.rd (fieldA w)
    let b := x.rd (fieldB w)
    let set := s.fld F.RTL.SVC.SET (c.val - 4)
    let eff := x.adopted.foldl (fun m p => m ||| p.2)
    let first := ∀ j, 4 ≤ j → j < c.val → (s.core j).wait.isCell = false
    let popped := fun (t : State) (y : Core) (r q : Nat) (e : CqE) (at_ : Inst) =>
      let n := bits e.entry 15 0
      t.strip q = { s.strip q with cq := (s.strip q).cq.erase e, clAt := Tab.del (s.strip q).clAt n } ∧
      (∀ u, u ≠ q → t.strip u = s.strip u) ∧
      (∃ k, t.core c = { (y.putB 0 (s.rdTile n)).wr r e.entry with
        cell := some { entry := e.entry, tpt := at_, emits := [] }, cache := k }) ∧
      t = { s with cores := t.cores, strips := t.strips, regs := t.regs, hot := t.hot } ∧
      ∀ u, u ≠ c.val → t.core u = { s.core u with adopted := (t.core u).adopted }
    (s.stands c (wordOf 0x50 w) → regLegalD w = true → Goes (.cpop c w) s fun t =>
      (x.cell ≠ none → Trapped s t c tCELL) ∧
      (∀ q e at_, x.cell = none → first → s.oldest (eff set) = some (q, e) → q < 24 → e.entry.getLsbD 47 = false →
        tileOk (s.rdTile (bits e.entry 15 0)) (bits e.entry 15 0) = true →
        Tab.find? (s.strip q).clAt (bits e.entry 15 0) = some at_ → popped t { x.past with svc := some set } d q e at_ ∧
        t.regs = s.regs) ∧
      (∀ (j : Fin 12) r q e at_, x.cell = none → 4 ≤ j.val → j.val < c.val → (∀ i, 4 ≤ i → i < j.val → (s.core i).wait.isCell = false) →
        (s.core j).wait = .cell r → s.oldest (s.svcEff j) = some (q, e) → (s.oldest (eff set)).map Prod.fst = some q →
        q < 24 → e.entry.getLsbD 47 = false → tileOk (s.rdTile (bits e.entry 15 0)) (bits e.entry 15 0) = true →
        Tab.find? (s.strip q).clAt (bits e.entry 15 0) = some at_ →
        (t.core j).cell = some { entry := e.entry, tpt := at_, emits := [] } ∧ (t.core j).wait = .none ∧
          t.fld F.CORE.STAT.STATE j = 2 ∧ e ∉ (t.strip q).cq) ∧
      (x.cell = none → s.oldest (eff set) = none → first → t.fld F.CORE.STAT.STATE c = 3 ∧
        (∃ k, t = { s.setCore c { x.past with svc := some set, wait := .cell d, cache := k } with regs := t.regs, hot := t.hot }) ∧
        sameRegs [F.CORE.STAT.STATE.key c 0] s t)) ∧
    (∀ r q e at_, s.live = true → first → x.wait = .cell r → x.svc = some set → s.oldest (eff set) = some (q, e) → q < 24 →
      e.entry.getLsbD 47 = false → tileOk (s.rdTile (bits e.entry 15 0)) (bits e.entry 15 0) = true →
      Tab.find? (s.strip q).clAt (bits e.entry 15 0) = some at_ → Goes (.cpopResume c) s fun t =>
        popped t { x with wait := .none } r q e at_ ∧ t.fld F.CORE.STAT.STATE c = 2 ∧
        sameRegs [F.CORE.STAT.STATE.key c 0] s t) ∧
    (s.stands c (wordOf 0x5A w) → regLegalDA w = true → d ≠ 0 → d ≠ 15 → Goes (.bgnd c w) s fun t =>
      let l := a.toNat % 8192
      let n := bits (x.rdB 32) 47 40
      let dark := bits (x.rdB 33) 11 4
      ∃ floor amb, Ran s t c (fun y => (y.wr d (BitVec.ofNat 48 floor)).wr (d + 1) (BitVec.ofNat 48 (min amb 0xFFFFFF))) ∧
        (∀ is : List Nat, is.Nodup → is.length = 8 → (∀ i ∈ is, i < 32) →
          floor ≤ is.foldl (fun t i => t + x.bin 24 i) 0) ∧
        (∃ is : List Nat, is.Nodup ∧ is.length = 8 ∧ (∀ i ∈ is, i < 32) ∧
          floor = is.foldl (fun t i => t + x.bin 24 i) 0) ∧
        amb = (if l = 0 then 0 else if 4 ≤ dark then bits (x.rdB 34) 47 24 * 1250 / (dark * l)
          else if n = 0 then 0 else floor * 20000 / (n * l))) ∧
    (s.stands c (wordOf 0x5B w) → regLegalAB w = true → Goes (.pile c w) s fun t =>
      ∃ ws : List Word, Ran s t c (fun y => y.putB 0 ws) ∧ (ws = [] ∨ ws.length = 24) ∧
        (bits (x.rdB 32) 47 40 = 0 ∨ (x.rdB 41).getLsbD 47 = false → ws = [])) ∧
    (s.stands c (wordOf 0x59 w) → w.toNat % 2 ^ 27 = 0 → d ≠ 0 → Goes (.peak c w) s fun t =>
      ∃ (ws : List Word) (n m : Nat), Ran s t c (fun y => (y.putB (64 + 2 * m) ws).wr d (BitVec.ofNat 48 n)) ∧
        n ≤ 3 ∧ m ≤ n ∧ ws.length = 2 * (n - m) ∧ m = (if w.getLsbD 27 then min (x.rd d).toNat 3 else 0) ∧
        (w.getLsbD 27 = false → (x.rdB 41).getLsbD 47 = false → n = 0)) ∧
    (s.stands c (wordOf 0x5C w) → regLegal w = true → fieldB w ≠ 0 → fieldB w ≤ 13 → Goes (.occ c w) s fun t =>
      let n := min (x.rd d).toNat 3
      ∃ (w37 : Word) (ws es : List Word), Ran s t c (fun y => { (y.putB 37 (w37 :: ws)).putB 64 es with zf := decide (n = 0) }) ∧
        ws.length = 4 ∧ es.length = 2 * n ∧ bits w37 19 0 = 0 ∧
        bits w37 47 36 = if (x.rdB 36).getLsbD w36Fresh then min 4095 (bits a 23 0)
          else min 4095 ((3 * bits (x.rdB 37) 47 36 + bits a 23 0) / 4)) ∧
    (s.stands c (wordOf 0x5D w) → regLegalAB w = true → Goes (.emit c w) s fun t =>
      (x.cell = none → Ran s t c fun y => { y with cf := true }) ∧
      (∀ k, x.cell = some k → (bits b 23 22 = 3 ∨ 3 ≤ k.emits.length) → Ran s t c fun y => { y with cf := true }) ∧
      (∀ k, x.cell = some k → bits b 23 22 ≠ 3 → k.emits.length < 3 → Ran s t c fun y => { y with
        cf := false
        cell := some { k with emits := k.emits ++ [(a &&& 0xFFFFFFFF0000, b &&& 0x000000FFFFFF)] } })) ∧
    (s.stands c (wordOf 0x5E w) → w = 0 → Goes (.cupd c w) s fun t =>
      (x.cell = none → Trapped s t c tCELL) ∧
      let s := s.sweepFirst
      let x := s.core c
      (∀ k, x.cell = some k → bits k.entry 15 0 < 49152 →
        let n := bits k.entry 15 0
        ((s.rdMem (48 * n + 36)).getLsbD w36Held = false →
          (t.core c).cf = true ∧ (t.core c).cell = none ∧ t.mem = s.mem ∧ (∀ e, e ≠ c.val → t.core e = s.core e) ∧
          t.fld F.RTL.STAT.CELLS (c.val - 4) = (s.fld F.RTL.STAT.CELLS (c.val - 4) + 1) % 16777216 ∧
          t = { s with regs := t.regs, hot := t.hot, cores := t.cores, dome := t.dome }) ∧
        ((s.rdMem (48 * n + 36)).getLsbD w36Held = true →
          (∀ i < 10, t.rdMem (48 * n + 37 + i) = x.rdB (37 + i)) ∧ (t.rdMem (48 * n + 36)).getLsbD w36Held = false ∧
          (t.rdMem (48 * n + 36)).getLsbD w36Fresh = false ∧ (t.rdMem (48 * n + 36)).getLsbD w36Bad = false ∧
          tileOk (t.rdTile n) n = true ∧ (∀ q, q < ssBase → q / 48 ≠ n → t.rdMem q = s.rdMem q) ∧
          (t.core c).cf = false ∧ ((t.core c).wait = .ring ∨ (t.core c).cell = none) ∧
          (∀ e, e ≠ c.val → t.core e = s.core e) ∧ t.fire = s.fire ∧ t.mirr = s.mirr ∧ t.force = s.force ∧
          ((∀ v, s.visitOf (n / 2048) (n % 2048 / 2) = some v → (s.visit (n / 2048) v).read = true →
            (s.visit (n / 2048) v).readAt ≠ s.raw) → t.strips = s.strips) ∧
          (∀ v, s.visitOf (n / 2048) (n % 2048 / 2) = some v → (s.visit (n / 2048) v).read = true →
            (s.visit (n / 2048) v).readAt = s.raw → ((t.visit (n / 2048) v).acc (n % 2)).held = false ∧
            ((t.visit (n / 2048) v).acc (n % 2)).words.drop 37 = (t.rdTile n).drop 37))))

/-- START clears a core and loads its image, which must pass its checks; STOP, HOSTEV and PROG_LOCK act; a watchdog expires once. (spec/10_ivqua_model.md, Loading and verifying programs and tables; spec/10_ivqua_model.md, Traps and faults; spec/10_ivqua_model.md, Events and waiting) -/
def Obligations.CoresStartLoadStopAndExpire : Prop :=
  ∀ (s : State) (acc : Accessor) (c : Fin 12), s.wf → s.live = true →
    let x := s.core c
    let base := coreBase c
    let img := s.rdTile (ctxTiles + x.base)
    let head := img.getD 0 0
    (∀ v, v = s.holdWith base 1 → v.getLsbD 0 = true → v.getLsbD 1 = false → v.getLsbD 4 = false → v.getLsbD 6 = false →
      s.judgeWrite acc base v = none →
      (s.startRefused c = true → Goes (.coreStart acc c) s fun t => t = s.answer base (s, some .refused)) ∧
      (s.startRefused c = false → x.cell = none → Goes (.coreStart acc c) s fun t =>
        t.reply = some { code := 0, addr := base } ∧ t.fld F.CORE.STAT.STATE c = 1 ∧ t.fld F.CORE.TRAP.CAUSE c = 0 ∧
        t.flag F.CORE.STAT.TRAP_ACTIVE c = false ∧
        t.core c = { x with stack := [], zf := false, nf := false, cf := false, vf := false, cache := [], cur := none
                            booked := false, g := [], base := s.fld F.CORE.PROG.BASE c, start := some s.now
                            wd := (t.core c).wd } ∧
        (∀ e, e ≠ c.val → t.core e = s.core e) ∧ t = { s with regs := t.regs, hot := t.hot, cores := t.cores, reply := t.reply } ∧
        sameOutside [(base, base), (base + 1, base + 1), (base + 4, base + 4)] s t)) ∧
    (s.fld F.CORE.STAT.STATE c = 1 → s.imageErr c x.base = 0 → Goes (.coreLoadDone c) s fun t =>
      tileOk img (ctxTiles + x.base) = true ∧ bits head 47 32 = 0x1B7A ∧
      (∀ k, k < bits head 27 16 →
        tileOk (s.rdTile (ctxTiles + x.base + 1 + k)) (ctxTiles + x.base + 1 + k) = true) ∧
      t.fld F.CORE.STAT.STATE c = 2 ∧ t = { s.setCore c { x with
        pc := bits head 15 0, ntile := bits head 27 16, vec := bits (img.getD 1 0) 15 0, wait := .none } with regs := t.regs, hot := t.hot } ∧
      sameRegs [F.CORE.STAT.STATE.key c 0] s t) ∧
    (s.fld F.CORE.STAT.STATE c = 1 → s.imageErr c x.base ≠ 0 → Goes (.coreLoadDone c) s fun t =>
      t.fld F.CORE.STAT.LOAD_ERR c = s.imageErr c x.base ∧ t.fld F.CORE.STAT.STATE c = 0 ∧ t.mirr = s.mirr ∧ t.strips = s.strips) ∧
    (∀ v, v = s.holdWith base 2 → v.getLsbD 0 = false → v.getLsbD 1 = true → v.getLsbD 4 = false → v.getLsbD 6 = false →
      s.judgeWrite acc base v = none → c.val < 4 → s.scanning = false → s.coreRuns c = true → x.book = none →
      x.wait ≠ .ring → Goes (.coreStop acc c) s fun t =>
        t.fld F.CORE.STAT.STATE c = 0 ∧ (t.core c).wait = .none ∧ (t.core c).pc = x.pc ∧
        (∀ e, e ≠ c.val → t.core e = s.core e) ∧ t.mem = s.mem ∧ t.strips = s.strips ∧ t.dome = s.dome) ∧
    (∀ v, v = s.holdWith base 16 → v.getLsbD 0 = false → v.getLsbD 1 = false → v.getLsbD 4 = true → v.getLsbD 6 = false →
      s.judgeWrite acc base v = none → Goes (.hostev acc c) s fun t =>
        (t.core c).ev = x.ev ||| 64 ∧ (∀ e, e ≠ c.val → t.core e = s.core e) ∧
        t = { s with regs := t.regs, hot := t.hot, cores := t.cores, reply := t.reply } ∧ sameOutside [(base, base)] s t) ∧
    (∀ v, v = s.holdWith base 64 → v.getLsbD 0 = false → v.getLsbD 1 = false → v.getLsbD 4 = false → v.getLsbD 6 = true →
      s.judgeWrite acc base v = none → Goes (.progLock acc c) s fun t =>
        t.flag F.CORE.CTRL.PROG_LOCK c = true ∧ (∀ e, e ≠ c.val → t.core e = s.core e) ∧
        t = { s with regs := t.regs, hot := t.hot, cores := t.cores, reply := t.reply } ∧ sameOutside [(base, base)] s t) ∧
    (c.val < 4 → s.fld F.ALD.CTRL.WD c ≠ 0 → x.wdExp = false → x.wd + 200000 * (s.fld F.ALD.CTRL.WD c : Int) ≤ s.now →
      Goes (.watchdogExpiry c) s fun t =>
        t.flag F.ALD.STAT.WD_EXP c = true ∧ (s.scanning = false → t.dome = s.dome) ∧
        (s.scanning = true → t.dome = { s.dome with reports := s.dome.reports ++ [(.seq c, s.raw)] }) ∧
        t = { s.setCore c { x with wdExp := true } with regs := t.regs, hot := t.hot, dome := t.dome } ∧
        sameRegs [F.ALD.STAT.WD_EXP.key c 0] s t)

/-- An Ephemeris load is verified whole before READY sets, and a commit write pends its groups or merges. (spec/10_ivqua_model.md, Loading and verifying programs and tables; spec/12_scan_programs.md, Commit groups and boundaries; spec/12_scan_programs.md, The Ephemeris table) -/
def Obligations.EphemerisLoadAndCommits : Prop :=
  ∀ (s : State) (a : Accessor) (v : Word), s.wf → Tab.sorted s.ephStd = true → s.live = true →
    let go := v ||| 0x10000
    let pendSwap := s.bit F.DEV.CMT_STAT.PEND 0 && s.flag F.ALD.EPH_CTRL.SWAP
    let tile := fun k => s.rdTile (ctxTiles + s.ephTile + k)
    let word0 := fun n => (tile (n / 23)).getD (2 * (n % 23)) 0
    let word1 := fun n => (tile (n / 23)).getD (2 * (n % 23) + 1) 0
    let angle := fun n => signed 24 ((word0 n).toNat % 2 ^ 24)
    let sound := s.ephTile + 44 ≤ 16383 ∧
      (∀ k < 45, tileOk (tile k) (ctxTiles + s.ephTile + k) = true) ∧
      (∀ n < 1024, (word0 n).toNat < 2 ^ 24 ∧ (n ≠ 0 → angle (n - 1) < angle n) ∧
        bits (word1 n) 23 21 = 0 ∧ 1 ≤ bits (word1 n) 20 8 ∧ bits (word1 n) 20 8 ≤ 4096 ∧ bits (word1 n) 7 0 ≤ 252) ∧
      (∀ k < 44, (tile k).getD 46 0 = 0) ∧ ∀ w < 47, 24 ≤ w → (tile 44).getD w 0 = 0
    let makes := fun (g : Nat) => v.getLsbD g && decide (a ≠ .dome)
    let again := (List.range 7).filter (fun g => makes g && s.bit F.DEV.CMT_STAT.PEND g)
    (s.judgeWrite a 0x1000C20 go = none → (s.flag F.ALD.EPH_STAT.BUSY || pendSwap) = true → Goes (.ephLoadGo a v) s fun t =>
      t = s.answer 0x1000C20 (s, some .refused)) ∧
    (s.judgeWrite a 0x1000C20 go = none → (s.flag F.ALD.EPH_STAT.BUSY || pendSwap) = false → Goes (.ephLoadGo a v) s fun t =>
      t.fld F.ALD.EPH_LOAD.TILE = v.toNat % 2 ^ 14 ∧ t.flag F.ALD.EPH_STAT.BUSY = true ∧ t.flag F.ALD.EPH_STAT.READY = false ∧
      t = { s with regs := t.regs, hot := t.hot, ephTile := v.toNat % 2 ^ 14, reply := some { code := 0, addr := 0x1000C20 } } ∧
      sameRegs [F.ALD.EPH_LOAD.TILE.key 0 0, F.ALD.EPH_STAT.BUSY.key 0 0, F.ALD.EPH_STAT.READY.key 0 0] s t) ∧
    (s.flag F.ALD.EPH_STAT.BUSY = true → s.flag F.ALD.EPH_STAT.READY = false → Goes .ephVerifyDone s fun t =>
      (t.flag F.ALD.EPH_STAT.READY = true ↔ sound) ∧ t.flag F.ALD.EPH_STAT.BUSY = false ∧
      (sound → t.fld F.ALD.EPH_STAT.ERR = 0 ∧
        ∀ n < 1024, Tab.get (fun _ => 0) t.ephStd (2 * n) = word0 n ∧ Tab.get (fun _ => 0) t.ephStd (2 * n + 1) = word1 n) ∧
      (¬sound → t.fld F.ALD.EPH_STAT.ERR ≠ 0) ∧ (16383 < s.ephTile + 44 → t.fld F.ALD.EPH_STAT.ERR = 5) ∧
      t = { s with regs := t.regs, hot := t.hot, ephStd := t.ephStd } ∧ sameOutside [(0x1000C21, 0x1000C21)] s t) ∧
    (s.judgeWrite a 0x1000010 v = none → Goes (.commitGo a v) s fun t =>
      (∀ g < 7, t.bit F.DEV.CMT_STAT.PEND g = (s.bit F.DEV.CMT_STAT.PEND g || makes g)) ∧
      (∀ g < 7, makes g = true → s.bit F.DEV.CMT_STAT.PEND g = false → t.ripe (grpOf g) = false) ∧
      (∀ g < 7, makes g = true → s.ripe (grpOf g) = true → t.ripe (grpOf g) = true ∧ (t.lateCommits (grpOf g)).isSome = true) ∧
      t.fld F.DEV.CMT_CNT.MERGED = (if again = [] then s.fld F.DEV.CMT_CNT.MERGED
        else min (s.fld F.DEV.CMT_CNT.MERGED + again.length) 0xFFFFFF) ∧
      t = { s with regs := t.regs, hot := t.hot, dev := { s.dev with cmtAt := t.dev.cmtAt, cmtLate := t.dev.cmtLate }
                   reply := some { code := 0, addr := 0x1000010 } } ∧
      sameRegs [F.DEV.CMT_STAT.PEND.key 0 0, F.DEV.CMT_CNT.MERGED.key 0 0] s t)

/-- A mode request is taken or refused with the reason R296 gives, and the entry checks end in SCAN, HOLDOVER, DEGRADED or ENTRY_STAT. (spec/13_modes_startup.md, Requests and transitions; spec/13_modes_startup.md, Arming and the first frame; spec/14_safety.md, SCAN entry) -/
def Obligations.ModeRequestsAndEntry : Prop :=
  ∀ (s : State) (a : Accessor), s.wf → s.live = true →
    let m := s.dev.mode
    let busy := s.flag F.DEV.MODE_STAT.BUSY
    let err := F.DEV.MODE_STAT.REQ_ERR.key 0 0
    let pend := [F.DEV.MODE_STAT.BUSY.key 0 0, F.DEV.MODE_STAT.PEND_TO.key 0 0]
    let taken := fun (t : State) (n : Mode) => ModeChange s t n ∧ t.reply = some { code := 0, addr := 0x1000002 }
    let turned := fun (t : State) (k : Nat) (ks : List Nat) => t.fld F.DEV.MODE_STAT.REQ_ERR = k ∧
      t = { s with regs := t.regs, hot := t.hot, reply := some { code := 4, addr := 0x1000002 } } ∧ sameRegs ks s t
    let ended := if busy then err :: pend else [err]
    let lost := !s.flag F.TIME.PLL_STAT.TPLL_LOCK || s.flag F.TIME.PLL_STAT.REF_LOSS
    (s.judgeWrite a 0x1000002 1 = none → Goes (.requestIdle a) s fun t =>
      (m ∈ [.armed, .scan, .degraded, .holdover] ∨ (m = .safe ∧ s.fltWord = 0) → taken t .idle) ∧
      (m = .safe ∧ s.fltWord ≠ 0 → turned t 8 ended) ∧ (m = .boot ∨ m = .idle → turned t 2 ended)) ∧
    (s.judgeWrite a 0x1000002 2 = none → Goes (.requestArmed a) s fun t =>
      (busy = true → turned t 1 [err]) ∧
      (busy = false → m = .idle → lost = true → turned t 3 [err]) ∧
      (busy = false → m = .idle → lost = false → s.axisBroken = true → turned t 4 [err]) ∧
      (busy = false → m = .idle → lost = false → s.axisBroken = false →
        taken t .armed ∧ t.fld F.DEV.MODE_STAT.ARM_ERR = 0 ∧ t.mirr.restart = true) ∧
      (busy = false → m ∈ [.scan, .degraded, .holdover] → taken t .armed ∧ t.fld F.DEV.MODE_STAT.ARM_ERR = 0) ∧
      (busy = false → m ∈ [.boot, .armed, .safe] → turned t 2 [err])) ∧
    (s.judgeWrite a 0x1000002 3 = none → Goes (.requestScan a) s fun t =>
      let ok5 := s.armedOk
      let ok6 := s.flag F.FIRE.EYE_CFG.LOCK
      let ok7 := s.flag F.ALD.EPH_STAT.INFORCE
      (busy = true → turned t 1 [err]) ∧
      (busy = false → m ≠ .armed → turned t 2 [err]) ∧
      (busy = false → m = .armed → ok5 = false → turned t 5 [err]) ∧
      (busy = false → m = .armed → ok5 = true → ok6 = false → turned t 6 [err]) ∧
      (busy = false → m = .armed → ok5 = true → ok6 = true → ok7 = false → turned t 7 [err]) ∧
      (busy = false → m = .armed → ok5 = true → ok6 = true → ok7 = true →
        t.flag F.DEV.MODE_STAT.BUSY = true ∧ t.fld F.DEV.MODE_STAT.PEND_TO = 3 ∧
        t = { s with regs := t.regs, hot := t.hot, reply := some { code := 0, addr := 0x1000002 } } ∧ sameRegs pend s t)) ∧
    (s.judgeWrite a 0x1000002 5 = none → Goes (.requestSafe a) s fun t =>
      (m ∈ [.idle, .armed, .scan, .degraded, .holdover] → taken t .safe) ∧ (m = .boot ∨ m = .safe → turned t 2 ended)) ∧
    (∀ env : EntryEnv, m = .armed → busy = true → s.dev.rwlAt = some s.raw → Goes (.scanEntryChecksDone env) s fun t => t = s) ∧
    (∀ env : EntryEnv, m = .armed → busy = true → s.dev.rwlAt ≠ some s.raw → Goes (.scanEntryChecksDone env) s fun t =>
      let fails := [!s.onlyLatched, !env.selfTest || !s.flag F.SAFE.STAT.LOCKSTEP_OK, !zoneNums.all s.zoneSound,
        (List.range 24).any (fun d => s.zoneStrip d && s.actFlag F.STRIP.CELL_CFG.ZSKIP d), !s.contactsOk,
        env.readback != 0, !env.lsrFollows]
      (∀ i, fails.findIdx? id = some i → t.fld F.SAFE.ENTRY_STAT.ERR = i + 1 ∧ t.flag F.DEV.MODE_STAT.BUSY = false ∧
        t.fld F.DEV.MODE_STAT.PEND_TO = 0 ∧ t = { s with regs := t.regs, hot := t.hot } ∧
        sameRegs (F.SAFE.ENTRY_STAT.ERR.key 0 0 :: pend) s t) ∧
      (fails.all (!·) = true → s.latchedFault = false →
        ModeChange s t (if s.onBackup then .holdover else .scan) ∧
        ∀ z < 8, t.bit F.SAFE.SF2_STAT.INTR z = s.flag F.SAFE.ZONE_A.EN z) ∧
      (fails.all (!·) = true → s.latchedFault = true → s.latchedUnits.length ≤ 1 →
        ModeChange s t .degraded ∧ (∀ z < 8, t.bit F.SAFE.SF2_STAT.INTR z = s.flag F.SAFE.ZONE_A.EN z) ∧
        ∀ u ∈ s.latchedUnits, t.unitOn u = true) ∧
      (fails.all (!·) = true → s.latchedFault = true → 1 < s.latchedUnits.length →
        t.dev.mode = .safe ∧ t.flag F.SAFE.FLT.SECOND = true ∧ t.fire.lsrEn = false))

/-- A reset leaves every field at its reset value but for the always-on domain and shows its cause, and reset end enters BOOT with the
time on backup counted from there. (spec/13_modes_startup.md, Reset; spec/13_modes_startup.md, Power-on and boot; spec/13_modes_startup.md, Supplies, switch-over and HOLDOVER) -/
def Obligations.ResetsHoldAndEnd : Prop :=
  ∀ (s : State) (a : Accessor) (v : Word) (k : Fin 4) (sel : BitVec 2), s.wf →
    let onward := fun (x t : State) (cause : Fld) => t.flag cause = true ∧
      (x.dev.inReset = true → t = { x with regs := t.regs, hot := t.hot, reply := t.reply } ∧ sameRegs [cause.key 0 0] x t) ∧
      (x.dev.inReset = false →
        t = { State.reset with
          pending := x.pending, fuses := x.fuses, aon := x.aon, free := x.free, tap := x.tap, regs := t.regs, hot := t.hot, reply := t.reply
          fire := { lfsr := seedLoad x.fuses.seed }
          dev := { rails := x.dev.rails, por := x.dev.por, pin := x.dev.pin, inReset := true
                   parkH := x.dev.parkH, parkV := x.dev.parkV, bkAt := x.aon } } ∧
        (∀ q, q / 64 ≠ 0x1000004 → q / 64 ≠ 0x1000018 → Tab.find? t.regs q = none) ∧
        (∀ q, q / 64 = 0x1000004 ∨ q / 64 = 0x1000018 → q ≠ cause.key 0 0 → q ≠ F.DEV.AON_STAT.FRZ_DONE.key 0 0 →
          Tab.find? t.regs q = Tab.find? x.regs q) ∧
        (x.dev.frzDone = true → t.flag F.DEV.AON_STAT.FRZ_DONE = true) ∧
        (x.dev.frzDone = false → t.flag F.DEV.AON_STAT.FRZ_DONE = x.flag F.DEV.AON_STAT.FRZ_DONE))
    let key := v.toNat / 2 ^ 32 = 0x4B52 ∧ v.getLsbD 0 = true
    let settled := fun (r : Rail) => (r.mOk = true ∧ r.mSince + aonMs ≤ s.aon) ∨ (r.bOk = true ∧ r.bSince + aonMs ≤ s.aon)
    let ready := s.dev.inReset = true ∧ s.dev.pin = none ∧ (s.dev.por = true → ∀ j < 4, settled (s.rail j))
    Goes (.powerOnReset k) s (fun t =>
      onward { s with dev := { s.dev with por := true, rails := t.dev.rails } } t F.DEV.RST_CAUSE.POR ∧
      t.rail k = { s.rail k with mSince := s.aon, bSince := s.aon } ∧ ∀ j, j ≠ k.val → t.rail j = s.rail j) ∧
    Goes .resetNAssert s (fun t =>
      onward { s with dev := { s.dev with pin := some (s.dev.pin.getD (s.aon - 10000)) } } t F.DEV.RST_CAUSE.PIN) ∧
    (s.live = true → Goes .domeReset s fun t => onward s t F.DEV.RST_CAUSE.DOME) ∧
    Goes .frzReset s (fun t => onward { s with tap := { s.tap with ir := 0x24, irCap := 1, dr := 0, extest := false } } t
      F.DEV.RST_CAUSE.TAP) ∧
    (s.live = true → s.judgeWrite a 0x1000005 v = none → Goes (.softReset a v) s fun t =>
      (key → onward s t F.DEV.RST_CAUSE.SOFT ∧ t.reply = some { code := 0, addr := 0x1000005 }) ∧
      (¬key → t = s.answer 0x1000005 (s, some .refused))) ∧
    Goes .resetNRelease s (fun t =>
      (s.dev.pin = none → t = s) ∧
      ∀ p, s.dev.pin = some p → t = { s with regs := t.regs, hot := t.hot, dev := { s.dev with pin := none } } ∧
        t.fld F.DEV.AON_STAT.RST_HOLD = min 65535 ((s.aon - p) / aonMs) ∧
        t.flag F.DEV.AON_STAT.RST_STUCK = (s.flag F.DEV.AON_STAT.RST_STUCK || decide (8000 * aonMs < s.aon - p)) ∧
        sameRegs [F.DEV.AON_STAT.RST_HOLD.key 0 0, F.DEV.AON_STAT.RST_STUCK.key 0 0] s t) ∧
    (¬ready → Goes (.resetEnd sel) s fun t => t = s) ∧
    (ready → s.dev.mode = .boot → s.fire.cap = false →
      (∀ j < 4, (s.rail j).mOk = true ∧ (s.rail j).bOk = true ∧ (s.rail j).onBk = false) → Goes (.resetEnd sel) s fun t =>
      t = { s with regs := t.regs, hot := t.hot
                   dev := { s.dev with inReset := false, por := false, bkAcc := 0, bkAt := s.aon, supChg := false } } ∧ t.bkTime = 0 ∧
      t.fld F.DEV.BOOT_STAT.SEL = sel.toNat ∧ sameRegs [F.DEV.BOOT_STAT.SEL.key 0 0] s t) ∧
    (s.live = true → s.dev.boot = .clearing → (∀ p < 3, (s.port p).rxq = []) → Goes .sharedStoreCleared s fun t =>
      let flash := decide (s.fld F.DEV.BOOT_STAT.SEL = 0)
      t.dev = { s.dev with boot := if flash then .qspi else .hostWait } ∧ (∀ p, t.port p = s.port p) ∧
      t.flag F.DEV.BOOT_STAT.BUSY = (flash || s.flag F.DEV.BOOT_STAT.BUSY) ∧
      t = { s with regs := t.regs, hot := t.hot, dev := t.dev, net := { s.net with ports := t.net.ports } } ∧
      sameRegs [F.DEV.BOOT_STAT.BUSY.key 0 0] s t)

/-- A host load is started from an allowed port in BOOT, and an image boots only if the checks of R304 pass in their order. (spec/13_modes_startup.md, Power-on and boot) -/
def Obligations.BootLoads : Prop :=
  ∀ (s : State) (a : Accessor) (v : Word) (env : BootEnv), s.wf → s.live = true →
    let go := v ||| 0x10000
    let sel := s.fld F.DEV.BOOT_STAT.SEL
    let allowed := (a = .portA ∧ sel ≠ 2) ∨ (a = .portB ∧ sel ≠ 1)
    let idle := s.dev.mode = .boot ∧ s.flag F.DEV.BOOT_STAT.BUSY = false
    let checks := fun (m : Image) (stage : Option Nat) (used : Nat) (t : State) =>
      let data := sectionsOf m 2
      let sound := data.all (fun i => decide (secDest m i + secTiles m i ≤ ssTiles) &&
        data.all (fun j => i == j || apart (secDest m i) (secTiles m i) (secDest m j) (secTiles m j)) &&
        stage.all (fun q => apart (secDest m i) (secTiles m i) q (imageTiles m)))
      let fails := [bits (m 0) 47 32 != 0x4B42,
        !(zeroFields m stage.isSome && decide (1 ≤ nsec m ∧ nsec m ≤ 16) && (sectionsOf m 0).length == 1 &&
          (sectionsOf m 1).length == 1),
        !sound, s.fuses.keyHash.any (fun h => sha256 (packed m 17) != h),
        !ecdsaOk (packed m 17) (packed m 28) (message m), !env.selfTest,
        decide (10922 < imageTiles m) || (stage.isNone && !env.readOk)]
      let first5 := (fails.take 5).all (!·)
      (∀ i, fails.findIdx? id = some i → t.fld F.DEV.BOOT_STAT.ERR = i + 1 ∧ t.flag F.DEV.BOOT_STAT.BUSY = false ∧
        (i < 5 → t.mem = s.mem) ∧
        t = { s with regs := t.regs, hot := t.hot, mem := t.mem, dev := { s.dev with boot := .hostWait }, free := t.free } ∧
        sameRegs ([F.DEV.BOOT_STAT.ERR.key 0 0, F.DEV.BOOT_STAT.BUSY.key 0 0, F.DEV.BOOT_STAT.OPEN.key 0 0] ++
          if i < 5 then [] else [F.SAFE.STAT.SELFTEST.key 0 0, F.SAFE.STAT.LOCKSTEP_OK.key 0 0]) s t) ∧
      (first5 = true → t.flag F.SAFE.STAT.SELFTEST = env.selfTest ∧ t.flag F.SAFE.STAT.LOCKSTEP_OK = env.selfTest) ∧
      (fails.findIdx? id = none →
        t.fld F.DEV.BOOT_STAT.VERSION = bits (m 0) 31 16 ∧ t.fld F.DEV.BOOT_STAT.USED = used ∧
        t.flag F.DEV.BOOT_STAT.BUSY = false ∧ t.dev.boot = .done ∧ (t.dev.mode = .idle ∨ t.dev.mode = .safe) ∧
        ((∀ F ∈ fltFlds, s.flag F = false) → t.dev.mode = .idle)) ∧
      (first5 = true →
        (∀ i ∈ data, ∀ k < secTiles m i, tileOk (t.rdTile (ctxTiles + secDest m i + k)) (ctxTiles + secDest m i + k) = true ∧
          ∀ w < 47, t.rdMem (ssBase + 48 * (secDest m i + k) + w) = m (48 * (1 + tilesBefore m i + k) + w)) ∧
        ∀ q, (∀ i ∈ data, q < ssBase + 48 * secDest m i ∨ ssBase + 48 * (secDest m i + secTiles m i) ≤ q) →
          t.rdMem q = s.rdMem q) ∧
      t.flag F.DEV.BOOT_STAT.OPEN = (s.flag F.DEV.BOOT_STAT.OPEN || (s.fuses.keyHash.isNone && (fails.take 3).all (!·)))
    (s.judgeWrite a 0x1000020 go = none → Goes (.bootGo a v) s fun t =>
      (¬(allowed ∧ idle) → t = s.answer 0x1000020 (s, some .refused)) ∧
      (allowed → idle → t.fld F.DEV.BOOT_CTRL.SRC = v.toNat % 2 ^ 14 ∧ t.fld F.DEV.BOOT_STAT.ERR = 0 ∧
        t.flag F.DEV.BOOT_STAT.BUSY = true ∧
        t = { s with regs := t.regs, hot := t.hot, dev := { s.dev with boot := .hostCheck, bootPort := if a = .portA then 1 else 2 }
                     reply := some { code := 0, addr := 0x1000020 } } ∧
        sameRegs [F.DEV.BOOT_CTRL.SRC.key 0 0, F.DEV.BOOT_STAT.ERR.key 0 0, F.DEV.BOOT_STAT.BUSY.key 0 0] s t)) ∧
    (s.dev.mode = .boot → s.dev.boot = .qspi → Goes (.bootChecksDone env) s fun t => checks (flashImage env.flash) none 0 t) ∧
    (s.dev.mode = .boot → s.dev.boot = .hostCheck → s.dev.bootPort < 3 → Goes (.bootChecksDone env) s fun t =>
      let src := s.fld F.DEV.BOOT_CTRL.SRC
      checks (s.stagedImage src) (some src) s.dev.bootPort t) ∧
    (s.dev.mode ≠ .boot → Goes (.bootChecksDone env) s fun t => t = s)

/-- A rail goes to its backup when its main input leaves, back when it has stayed, stays as it was where both leave in one tick, and
with the tick's end the mode follows and the faults of the inputs are reported; SUP_STAT shows the inputs at once. (spec/13_modes_startup.md, Supplies, switch-over and HOLDOVER; spec/18_package_electrical.md, Events that meet; that the consequences settle at the tick's end, log entry 136) -/
def Obligations.SuppliesSwitchAndReport : Prop :=
  ∀ (s : State) (k : Fin 4) (b : Bool), s.wf →
    let r := s.rail k
    let use := s.bit F.DEV.SUP_CFG.BK_USE k
    let onto := fun (x : Rail) (bk : Bool) =>
      { x with onBk := bk, was := if x.was.any (fun p => p.1 == s.aon) then x.was else some (s.aon, x.onBk) }
    let began := match r.was with
      | some p => if p.1 = s.aon then p.2 else r.onBk
      | none => r.onBk
    let moved := fun (t : State) (y : Rail) => t.rail k = y ∧ (∀ j, j ≠ k.val → t.rail j = s.rail j) ∧ t.bkTime = s.bkTime ∧
      t = { s with regs := t.regs, hot := t.hot
                   dev := { s.dev with rails := t.dev.rails, bkAcc := t.dev.bkAcc, bkAt := t.dev.bkAt, supChg := true } } ∧
      sameRegs [F.DEV.SUP_CNT.SWITCH.key 0 0] s t
    let switch := fun (t : State) => t.fld F.DEV.SUP_CNT.SWITCH
    let judged := fun (x : Rail) (t : State) =>
      (x.mOk = false → x.bOk = false → x.onBk = began → moved t x ∧ t.regs = s.regs) ∧
      (x.mOk = false → x.bOk = false → x.onBk ≠ began → moved t (onto x began) ∧
        switch t = if x.onBk && !s.dev.inReset then switch s - 1 else switch s) ∧
      (x.bOk = true → x.onBk = false → x.mOk = false → use = true → moved t (onto x true) ∧
        switch t = if s.dev.inReset then switch s else min (switch s + 1) 65535) ∧
      (x.bOk = true → ¬(x.onBk = false ∧ x.mOk = false ∧ use = true) → moved t x ∧ t.regs = s.regs) ∧
      (x.mOk = true → x.bOk = false → x.onBk = true → x.bSince = s.aon → moved t (onto x false) ∧ t.regs = s.regs) ∧
      (x.mOk = true → x.bOk = false → ¬(x.onBk = true ∧ x.bSince = s.aon) → moved t x ∧ t.regs = s.regs)
    let anew := fun (x : Rail) => if s.dev.por then { x with mSince := s.aon, bSince := s.aon } else x
    let due := r.onBk = true ∧ r.mOk = true ∧ r.mSince + max 1 (s.fld F.DEV.SUP_CFG.RET) * aonMs ≤ s.aon
    let calm := { s with dev := { s.dev with supChg := false } }
    let cap := s.dev.mode = .holdover ∨ (s.dev.mode = .degraded ∧ s.onBackup = true)
    Goes (.supplyInputOutOfWindow k b) s (judged (anew (if !b then { r with mOk := false }
      else if r.bOk then { r with bOk := false, bSince := s.aon } else r))) ∧
    Goes (.supplyInputInWindow k b) s
      (judged (if b then { r with bOk := true, bSince := s.aon } else { r with mOk := true, mSince := s.aon })) ∧
    (due → Goes (.supplySwitchBack k) s fun t => moved t (onto r false) ∧ t.regs = s.regs) ∧
    (¬due → Goes (.supplySwitchBack k) s fun t => t = s) ∧
    (s.live = false → s.supplySettle = s) ∧
    (s.live = true →
      (s.dev.mode = .scan → s.onBackup = true → ∃ m, ModeChange calm m .holdover ∧
        s.supplySettle = forEach [0, 1, 2, 3] m State.supplyFaults) ∧
      (s.dev.mode = .holdover → s.onBackup = false → ∃ m, ModeChange calm m .scan ∧
        s.supplySettle = forEach [0, 1, 2, 3] m State.supplyFaults) ∧
      (¬(s.dev.mode = .scan ∧ s.onBackup = true) → ¬(s.dev.mode = .holdover ∧ s.onBackup = false) →
        (s.fire.cap = true ↔ cap) → s.supplySettle = forEach [0, 1, 2, 3] calm State.supplyFaults)) ∧
    (let t := s.supplyFaults k
     let bk := r.bOk = false ∧ r.onBk = false ∧ use = true ∧ s.bit F.DEV.SUP_STAT.BK_FLT k = false
     let dual := r.mOk = false ∧ r.bOk = false ∧ s.bit F.DEV.SUP_STAT.DUAL k = false
     t.bit F.DEV.SUP_STAT.BK_FLT k = (s.bit F.DEV.SUP_STAT.BK_FLT k || decide bk) ∧
     t.bit F.DEV.SUP_STAT.DUAL k = (s.bit F.DEV.SUP_STAT.DUAL k || decide dual) ∧
     t.dome.reports = s.dome.reports ++ (if bk then [(.supBk k, s.raw)] else []) ++ (if dual then [(.supDual k, s.raw)] else []) ∧
     t = { s with regs := t.regs, hot := t.hot, dome := { s.dome with reports := t.dome.reports } } ∧
     sameRegs [F.DEV.SUP_STAT.BK_FLT.key 0 0, F.DEV.SUP_STAT.DUAL.key 0 0] s t)

/-- An accepted freeze stops emission, outputs and links and parks the drives, and the test port reads, resumes and identifies. (spec/13_modes_startup.md, Freeze; spec/18_package_electrical.md, Signal list) -/
def Obligations.FreezeAndTestPort : Prop :=
  ∀ (s : State) (a : Accessor) (v : Word), s.wf →
    let frozen := fun (t : State) (src : Nat) =>
      t.dev = { s.dev with mode := .frozen, frzSrc := src, frzDone := true, frzRails := some s.dev.rails } ∧
      t.fire.lsrEn = false ∧ t.dome.cmd = false ∧ (∀ ch < 4, t.dome.levels.testBit ch = false) ∧ t.fire.blocked = true ∧
      t.fire.pulses = [] ∧ t.fire.trim = [] ∧
      t.mirr = { s.mirr with lH := s.dev.parkH, lVP := s.dev.parkV, lVN := s.dev.parkV, driven := false } ∧
      (∀ p < 3, t.fld F.LINK.STAT.STATE p = 0) ∧ t.fld F.DEV.MODE_STAT.SEQ = (s.fld F.DEV.MODE_STAT.SEQ + 1) % 65536 ∧
      t.flag F.DEV.MODE_STAT.BUSY = false ∧ t.fld F.DEV.MODE_STAT.PEND_TO = 0 ∧
      (∀ c < 12, t.core c = { s.core c with ev := (s.core c).ev ||| 128 }) ∧
      t = { s with regs := t.regs, hot := t.hot, reply := t.reply, fire := t.fire, mirr := t.mirr, dev := t.dev, dome := t.dome
                   cores := t.cores, out := t.out, net := t.net } ∧
      sameOutside [(0x1000001, 0x1000001), (0x1000804, 0x1000804), (0x100080C, 0x100080D), (0x1000900, 0x10009BF),
        (0x1001000, 0x10010FF)] s t
    let ignored := fun (t : State) => t.fld F.DEV.AON_STAT.FRZ_IGN = min (s.fld F.DEV.AON_STAT.FRZ_IGN + 1) 65535 ∧
      t = { s with regs := t.regs, hot := t.hot, reply := t.reply } ∧ sameRegs [F.DEV.AON_STAT.FRZ_IGN.key 0 0] s t
    let may := s.flag F.DEV.DBG_CFG.FREEZE_EN && s.live
    let host := a = .portA ∨ a = .portB
    let loads := fun (c : Instr) (ir dr : Nat) => Goes c s fun t =>
      t = { s with tap := { s.tap with ir := ir, irCap := 1, dr := dr, extest := false } }
    let pulled := s.mon.anyEnd.isSome
    let captured := fun (t : State) => (∀ b < 4, t.tap.dr.testBit (3 + 2 * b) = (s.live && s.fireLevel b)) ∧
      t.tap.dr.testBit 15 = s.fire.lsrEn ∧ (∀ ch < 4, t.tap.dr.testBit (44 + 2 * ch) = s.dome.levels.testBit ch) ∧
      (s.fld F.MON.MU_CFG.ROLE = 1 → t.tap.dr.testBit 19 = s.flag F.MON.MU_STAT.ARM_BUS) ∧
      t.tap.dr.testBit 21 = !(pulled || decide (s.now < s.mon.otherEnd)) ∧ (pulled = true → t.tap.dr.testBit 22 = false) ∧
      t.tap.dr.testBit 56 = s.tpLevel false ∧ t.tap.dr.testBit 58 = s.tpLevel true ∧
      t.tap.dr < 2 ^ 68 ∧ t.tap.irCap = 1 ∧ t = { s with tap := t.tap, free := s.free + 1 }
    let frz := s.dev.mode = .frozen
    Goes .freezePin s (fun t =>
      (s.flag F.DEV.DBG_CFG.PIN_EN = false → t = s) ∧
      (s.flag F.DEV.DBG_CFG.PIN_EN = true → may = true → frozen t 1) ∧
      (s.flag F.DEV.DBG_CFG.PIN_EN = true → may = false → ignored t)) ∧
    (s.live = true → s.judgeWrite a 0x100001A 1 = none → Goes (.freeze a) s fun t =>
      t.reply = some { code := 0, addr := 0x100001A } ∧ (host → may = true → frozen t 2) ∧ (host → may = false → ignored t) ∧
      (¬host → t = { s with reply := t.reply })) ∧
    (s.live = true → s.judgeWrite a 0x1000019 (v ||| 0x100) = none → Goes (.dbgLock a v) s fun t =>
      let barred := s.flag F.DEV.DBG_CFG.LOCK || s.flag F.DEV.DBG_CFG.DISABLED
      t.flag F.DEV.DBG_CFG.LOCK = true ∧ t.flag F.DEV.DBG_CFG.PIN_EN = v.getLsbD 1 ∧
      t.flag F.DEV.DBG_CFG.FREEZE_EN = (v.getLsbD 0 && (!barred || s.flag F.DEV.DBG_CFG.FREEZE_EN)) ∧
      t = { s with regs := t.regs, hot := t.hot, reply := some { code := 0, addr := 0x1000019 }
                   dev := { s.dev with rwlAt := t.dev.rwlAt } } ∧
      sameRegs [F.DEV.DBG_CFG.LOCK.key 0 0, F.DEV.DBG_CFG.PIN_EN.key 0 0, F.DEV.DBG_CFG.FREEZE_EN.key 0 0] s t) ∧
    loads .idcode 0x02 (s.fuses.rev % 16 * 2 ^ 28 + 0x04896DAB) ∧ loads .bypass 0xFF 0 ∧
    loads .frzStat 0x20 ((if frz then 1 else 0) + 2 * s.dev.frzSrc) ∧
    (∀ x, Goes (.samplePreload x) s fun t =>
      captured t ∧ t.tap.ir = 1 ∧ t.tap.extest = false ∧ t.tap.cells = x.toNat) ∧
    (frz → Goes .extest s fun t => captured t ∧ t.tap.ir = 0 ∧ t.tap.extest = true ∧ t.tap.cells = s.tap.cells) ∧
    (frz → ∀ x : BitVec 26, inMem x.toNat = true →
      loads (.frzMem x) 0x21 (x.toNat * 2 ^ 49 + 2 ^ 48 + (s.rdMem x.toNat).toNat)) ∧
    (frz → ∀ (x : BitVec 26) (blk : Nat), inMem x.toNat = false → blockOf x.toNat = some blk → openToTap x.toNat = false →
      loads (.frzMem x) 0x21 (x.toNat * 2 ^ 49 + 2 ^ 48 + (s.view 0 blk x.toNat).toNat)) ∧
    (frz → ∀ x : BitVec 26, inMem x.toNat = false → blockOf x.toNat = none → Goes (.frzMem x) s fun t =>
      t.tap.dr / 2 ^ 48 = 2 * x.toNat ∧ t.tap.ir = 0x21 ∧ t.tap.irCap = 1 ∧ t = { s with tap := t.tap, free := s.free + 1 }) ∧
    (frz → Goes .frzChain s fun t => t = { s with tap := t.tap, free := s.free + 1 } ∧ t.tap.ir = 0x22) ∧
    (¬frz → loads .extest 0 0 ∧ loads .frzChain 0x22 0 ∧ loads .frzResume 0x23 0 ∧ ∀ x, loads (.frzMem x) 0x21 0) ∧
    (frz → Goes .frzResume s fun t => t.dev.mode = .safe ∧ t.dev.frzRails = none ∧ t.flag F.TIME.STAT.SUSPECT = true ∧
      t.fire.blocked = true ∧ t.fire.lsrEn = false ∧ t.tap = { s.tap with ir := 0x23, irCap := 1, dr := 0, extest := false } ∧
      t.mem = s.mem ∧ t.force = s.force ∧ (s.dev.frzDone = true → t.flag F.DEV.AON_STAT.FRZ_DONE = true))

/-- The Dome takes up reported faults, degrades or goes to SAFE, raises LSR_EN only while it may, and clears only flags whose source is clear. (spec/14_safety.md, Degraded operation; spec/14_safety.md, Fault reactions; spec/14_safety.md, The Dome) -/
def Obligations.FaultsReact : Prop :=
  ∀ (s : State) (a : Accessor) (v : Word), s.wf → s.live = true →
    let m := s.dev.mode
    let frame := fun (t : State) =>
      t = { s with regs := t.regs, hot := t.hot, reply := t.reply, fire := t.fire, mirr := t.mirr, afe := t.afe, strips := t.strips
                   dev := t.dev, dome := t.dome, cores := t.cores, out := t.out, net := t.net, bg := t.bg } ∧
      t.dev = { s.dev with mode := t.dev.mode } ∧
      sameOutside [(0x1000001, 0x1000001), (0x1000201, 0x1000201), (0x1000404, 0x1000407), (0x1000800, 0x1000801),
        (0x1000804, 0x1000804), (0x1000809, 0x1000809), (0x100080C, 0x100080D), (0x1000900, 0x10009BF),
        (0x1002000, 0x10025E7)] s t
    (∀ r q rest, s.dome.reports = (r, q) :: rest → Goes .domeFaultReaction s fun t =>
      let rs := (s.dome.reports.filter (fun p => p.2 == q)).map Prod.fst
      let us := rs.filterMap s.unitOf
      let all := unitNums.filter (fun u => us.contains u || (decide (m = .degraded) && s.unitOn u))
      frame t ∧ (∀ x ∈ rs, t.flag x.fld = true) ∧ t.dome.reports = s.dome.reports.filter (fun p => p.2 != q) ∧
      (rs.any s.safeClass = true → (m = .idle ∨ m = .armed ∨ s.scanning = true) → t.dev.mode = .safe ∧ t.fire.lsrEn = false) ∧
      (rs.any s.safeClass = true → (m = .boot ∨ m = .safe) → t.dev.mode = m) ∧
      (rs.any s.safeClass = false → s.scanning = false ∨ us = [] → t.dev.mode = m) ∧
      (rs.any s.safeClass = false → s.scanning = true → us ≠ [] → 1 < all.length →
        t.dev.mode = .safe ∧ t.flag F.SAFE.FLT.SECOND = true ∧ t.fire.lsrEn = false) ∧
      (rs.any s.safeClass = false → s.scanning = true → us ≠ [] → all.length ≤ 1 →
        t.dev.mode = .degraded ∧ t.flag F.SAFE.DEG_STAT.ACKED = false ∧ ∀ u ∈ us, t.unitOn u = true)) ∧
    Goes .lockstepMismatch s (fun t =>
      frame t ∧ t.dev = s.dev ∧ t.flag F.SAFE.STAT.LOCKSTEP_OK = false ∧ t.flag F.SAFE.FLT.LOCKSTEP = true ∧
      t.fire = { s.fire with lsrEn := false } ∧ (∀ ch < 4, t.dome.levels.testBit ch = false) ∧
      t.dome.reports = s.dome.reports ++ [(.lockstep, s.raw)] ∧ t.cores = s.cores ∧ t.strips = s.strips) ∧
    (∀ (c : DomeCheck) (failed : Bool), Goes (.domePeriodicCheck c failed) s fun t =>
      let own := match c with
        | .refRatio => some 0 | .lsrReadback => some 1 | .zoneSelfTest => some 4 | .progress => some 3 | .calAge => none
      let late := s.closeWaiting && s.due (s.dome.lastCupd + 5 * ms)
      let found := if c = .progress then late else failed
      t = { s with dome := { s.dome with failing := t.dome.failing, reports := t.dome.reports } } ∧
      (∀ k, own = some k → t.dome.failing.testBit k = found ∧
        (∀ j, j ≠ k → t.dome.failing.testBit j = s.dome.failing.testBit j) ∧
        t.dome.reports = s.dome.reports ++ if found then [(if c = .progress then .proc else .domeChk, s.raw)] else []) ∧
      (c = .calAge → t.dome.failing = s.dome.failing ∧ t.dome.reports = s.dome.reports ++
        ((List.range 24).filter (fun d => s.flag F.STRIP.RX_STAT.STALE d)).map (fun d => (.strip d, s.raw)))) ∧
    Goes .lsrEnRaise s (fun t =>
      let may := s.scanning && s.flag F.FIRE.EYE_CFG.LOCK && s.lsrFaultFree && s.contactsOk && !s.mirr.feH && !s.mirr.feV
      t = if may then { s with fire := { s.fire with lsrEn := true }, dome := { s.dome with cmd := true } } else s) ∧
    (let late := m = .degraded ∧ s.dome.degAt + (clampN 1 100 (s.fld F.SAFE.DEG_CFG.TMAX) : Nat) * (100 * ms) ≤ s.now
     s.judgeWrite a 0x1000802 1 = none → Goes (.degAck a) s fun t =>
      (s.fltWord ≠ 0 ∨ s.dome.reports ≠ [] ∨ late → t = s.answer 0x1000802 (s, some .refused)) ∧
      (s.fltWord = 0 → s.dome.reports = [] → ¬late → t.flag F.SAFE.DEG_STAT.ACKED = (decide (m = .degraded) || s.flag F.SAFE.DEG_STAT.ACKED) ∧
        t = { s with regs := t.regs, hot := t.hot, reply := some { code := 0, addr := 0x1000802 } } ∧
        sameRegs [F.SAFE.DEG_STAT.ACKED.key 0 0] s t)) ∧
    (let late := s.dome.degAt + (clampN 1 100 (s.fld F.SAFE.DEG_CFG.TMAX) : Nat) * (100 * ms) ≤ s.now
     let confined := [F.SAFE.FLT.STRIP, F.SAFE.FLT.SEQ, F.SAFE.FLT.BRIDGE, F.SAFE.FLT.MIRROR, F.SAFE.FLT.PORT, F.SAFE.FLT.SUP_BK]
     let out := m = .degraded ∧ s.flag F.SAFE.DEG_STAT.ACKED = true ∧ ¬late ∧
       ∀ F ∈ confined, s.flag F = false ∧ ∀ r ∈ s.dome.reports, r.1.fld ≠ F
     Goes .degradedExit s fun t =>
      (out → ModeChange s t (if s.onBackup then .holdover else .scan)) ∧ (¬out → t = s)) ∧
    (let late := m = .degraded ∧ s.dome.degAt + (clampN 1 100 (s.fld F.SAFE.DEG_CFG.TMAX) : Nat) * (100 * ms) ≤ s.now
     Goes .degTmaxExpiry s fun t =>
      (late → frame t ∧ t.dev.mode = .safe ∧ t.flag F.SAFE.FLT.DEG_TMO = true ∧ t.fire.lsrEn = false) ∧ (¬late → t = s)) ∧
    (s.judgeWrite a 0x1000801 v = none → Goes (.fltClear a v) s fun t =>
      (∀ F ∈ fltFlds, t.flag F = (s.flag F && !(v.getLsbD F.lo && s.sourceClear F.lo && s.since F == 0))) ∧
      t = { s with regs := t.regs, hot := t.hot, reply := some { code := 0, addr := 0x1000801 } } ∧
      sameRegs (fltFlds.map (fun F => F.key 0 0)) s t) ∧
    (s.judgeWrite a 0x1000808 (v ||| 1) = none → Goes (.sf2Lock a v) s fun t =>
      t.flag F.SAFE.SF2_CFG.LOCK = true ∧ t.flag F.SAFE.SF2_CFG.EN = v.getLsbD 1 ∧
      t.fld F.SAFE.SF2_CFG.N_CONF = bits v 19 16 ∧ t.fld F.SAFE.SF2_CFG.N_REL = bits v 23 20 ∧
      t.fld F.SAFE.SF2_CFG.FRAME_MAX = bits v 47 32 ∧
      t = { s with regs := t.regs, hot := t.hot, reply := some { code := 0, addr := 0x1000808 }
                   dev := { s.dev with rwlAt := if s.rwlWrite 0x1000808 (v ||| 1) then some s.raw else s.dev.rwlAt } } ∧
      sameOutside [(0x1000808, 0x1000808)] s t)

/-- A verdict confirms or releases each zone and stops the outputs without demand, a late frame stops them all, and outputs toggle every 10 µs, gap in their slots of the Dome's cycle and are checked. (spec/14_safety.md, Protective zones; spec/14_safety.md, Dynamic outputs) -/
def Obligations.ZonesAndOutputs : Prop :=
  ∀ s : State, s.wf → s.live = true →
    let quiet := fun (t : State) (rs : List (Nat × Nat)) => t = { s with regs := t.regs, hot := t.hot, dome := t.dome } ∧ sameOutside rs s t
    (∀ f tv rest, s.dome.verdicts = (f, tv) :: rest → Goes .zoneVerdict s fun t =>
      (s.now < tv → t = s) ∧
      (tv ≤ s.now → quiet t [(0x1000809, 0x100080A), (0x100080C, 0x100080D), (0x1000820, 0x100083F)] ∧
        t.dome.verdicts = rest ∧ t.fld F.SAFE.SF2_STAT.VERDICTS = (s.fld F.SAFE.SF2_STAT.VERDICTS + 1) % 65536 ∧
        t.dome.reports = s.dome.reports ∧ t.dome.closes = s.dome.closes ∧
        (∀ z < 8, s.flag F.SAFE.ZONE_A.EN z = false → t.bit F.SAFE.SF2_STAT.OCC z = false ∧
          t.bit F.SAFE.SF2_STAT.INCOMP z = false ∧ t.bit F.SAFE.SF2_STAT.INTR z = s.bit F.SAFE.SF2_STAT.INTR z) ∧
        (∀ z < 8, s.flag F.SAFE.ZONE_A.EN z = true →
          let inc := s.dome.closes.any (fun p => decide (p.2 ≤ f) && s.tileInZone z p.1)
          let occ := inc || s.dome.hits.contains (z, f)
          let old := Tab.get (fun _ => {}) s.dome.zones z
          let new : Zone := if occ then { occ := old.occ + 1, clr := 0 }
            else { occ := 0, clr := if s.dome.fromFrame ≤ f then old.clr + 1 else old.clr }
          t.bit F.SAFE.SF2_STAT.OCC z = occ ∧ t.bit F.SAFE.SF2_STAT.INCOMP z = inc ∧
          Tab.get (fun _ => {}) t.dome.zones z = new ∧
          t.bit F.SAFE.SF2_STAT.INTR z = (decide (max 1 (s.fld F.SAFE.SF2_CFG.N_CONF) ≤ new.occ) ||
            (!decide (max 1 (s.fld F.SAFE.SF2_CFG.N_REL) ≤ new.clr) && s.bit F.SAFE.SF2_STAT.INTR z)) ∧
          (inc = true → t.fld F.SAFE.ZONE_STAT.INCOMP_CNT z = min (s.fld F.SAFE.ZONE_STAT.INCOMP_CNT z + 1) 65535) ∧
          (occ = true → t.fld F.SAFE.ZONE_STAT.OCC_CNT z = min (s.fld F.SAFE.ZONE_STAT.OCC_CNT z + 1) 65535)) ∧
        (∀ j < 2, t.demandOf j = false → t.soutOn j = false ∧ t.dome.levels.testBit (2 * j) = false ∧
          t.dome.levels.testBit (2 * j + 1) = false) ∧
        (∀ j < 2, t.demandOf j = true → t.soutOn j = s.soutOn j))) ∧
    (s.dome.verdicts = [] → Goes .zoneVerdict s fun t => t = s) ∧
    (let late := s.scanning = true ∧ s.dome.lastB + (max 1 (s.fld F.SAFE.SF2_CFG.FRAME_MAX) : Nat) * 2000000 ≤ s.now
     Goes .frameTimeout s fun t => (¬late → t = s) ∧
      (late → t.dev.mode = .safe ∧ t.flag F.SAFE.FLT.FRAME = true ∧ t.fire.lsrEn = false ∧ t.soutOn 0 = false ∧
        t.soutOn 1 = false ∧ (∀ ch < 4, t.dome.levels.testBit ch = false) ∧
        t.fld F.SAFE.SF2_CNT.FTMO = min (s.fld F.SAFE.SF2_CNT.FTMO + 1) 65535 ∧ t.mem = s.mem ∧ t.force = s.force)) ∧
    (∀ (ch : Fin 4) (high : Bool), Goes (.soutTestGap ch high) s fun t =>
      let on := s.soutOn (ch / 2)
      let k := (s.now / (25 * ms)).toNat
      let start : Inst := k * (25 * ms)
      let due := s.dome.slotN ≤ k ∧ k % 4 = ch.val ∧ s.now < start + 300 * us
      (¬due → t = s) ∧
      (due → t.dome = { s.dome with
          gap := some ch, gapEnd := start + 300 * us, gapOn := on, gapHigh := high, slotN := k + 1, levels := t.dome.levels } ∧
        (∀ c < 4, t.dome.levels.testBit c = (s.dome.levels.testBit c && !(on && c == ch.val))) ∧
        t.fld F.SAFE.SOUT_CNT.GAPS = (if on then (s.fld F.SAFE.SOUT_CNT.GAPS + 1) % 65536 else s.fld F.SAFE.SOUT_CNT.GAPS) ∧
        t = { s with regs := t.regs, hot := t.hot, dome := t.dome } ∧ sameRegs [F.SAFE.SOUT_CNT.GAPS.key 0 0] s t)) ∧
    (∀ levels : BitVec 4, s.now < s.dome.halfN * (10 * us) → Goes (.soutHalfPeriod levels) s fun t => t = s) ∧
    (∀ levels : BitVec 4, (s.dome.halfN * (10 * us) : Int) ≤ s.now → Goes (.soutHalfPeriod levels) s fun t =>
      let slot := fun ch => s.dome.gap = some ch ∧ s.now < s.dome.gapEnd
      let ended := fun ch => s.dome.gap = some ch ∧ s.dome.gapEnd ≤ s.now
      let low := fun ch => decide (slot ch) && s.dome.gapOn
      let held := fun ch => decide (s.dome.gap = some ch) && s.dome.gapOn
      quiet t [(0x100080C, 0x100080C)] ∧
      t.dome = { s.dome with
        levels := t.dome.levels, gap := t.dome.gap, gapOn := t.dome.gapOn, gapHigh := t.dome.gapHigh, mism := t.dome.mism
        offHigh := t.dome.offHigh, halfN := (s.now / (10 * us)).toNat + 1 } ∧
      (∀ j < 2, s.soutOn j = true →
        let a := if low (2 * j) then s.dome.levels.testBit (2 * j + 1) else !s.dome.levels.testBit (2 * j)
        t.soutOn j = true ∧ t.dome.levels.testBit (2 * j) = (a && !low (2 * j)) ∧
        t.dome.levels.testBit (2 * j + 1) = (!a && !low (2 * j + 1))) ∧
      (∀ j < 2, s.soutOn j = false →
        let start := s.demandOf j = true ∧ ¬slot (2 * j) ∧ ¬slot (2 * j + 1) ∧ s.flag F.DEV.BOOT_STAT.OPEN = false ∧
          s.flag F.SAFE.STAT.LOCKSTEP_OK = true
        (start → t.soutOn j = true ∧ t.dome.levels.testBit (2 * j) = true ∧ t.dome.levels.testBit (2 * j + 1) = false) ∧
        (¬start → t.soutOn j = false ∧ t.dome.levels.testBit (2 * j) = s.dome.levels.testBit (2 * j) ∧
          t.dome.levels.testBit (2 * j + 1) = s.dome.levels.testBit (2 * j + 1))) ∧
      (∀ ch < 4, s.soutOn (ch / 2) = true → held ch = false → Tab.get (fun _ => 0) t.dome.mism ch =
        if levels.getLsbD ch = s.dome.levels.testBit ch then 0 else Tab.get (fun _ => 0) s.dome.mism ch + 1) ∧
      (∀ ch < 4, ended ch → s.dome.gapOn = true → t.bit F.SAFE.SOUT_STAT.GAP_OK ch = !s.dome.gapHigh) ∧
      (∀ ch < 4, ended ch → t.dome.gap = none)) ∧
    (∀ ch : Fin 4, Goes (.soutReadbackFailure ch) s fun t =>
      let on := s.soutOn (ch / 2)
      let held := s.dome.gapOn = true ∧ s.dome.gap = some ch.val
      let bad := (held ∧ s.dome.gapHigh = true) ∨
        (¬held ∧ (on = false ∨ 3 ≤ Tab.get (fun _ => 0) s.dome.mism ch))
      (¬bad → t = s) ∧
      (bad → quiet t [(0x100080C, 0x100080D)] ∧ t.bit F.SAFE.SOUT_STAT.FLT ch = true ∧ t.soutOn (ch / 2) = false ∧
        t.dome.levels.testBit (2 * (ch / 2)) = false ∧ t.dome.levels.testBit (2 * (ch / 2) + 1) = false ∧
        t.demandOf (ch / 2) = false ∧ t.dome.reports = s.dome.reports ++ [(.sout, s.raw)]))

/-- Each contact channel's level shows, an open checked pair, a lasting disagreement and two failed gap checks are reported, and an overload sets its flag. (spec/14_safety.md, Test-pulsed inputs; spec/14_safety.md, SAFE registers) -/
def Obligations.ContactsAndPulses : Prop :=
  ∀ (s : State) (k : Fin 4), s.wf → s.live = true → Tab.sorted s.dome.disc = true →
    let used := fun (p : Nat) => s.fld F.SAFE.SIN_CFG.FUNC 0 p != 0
    let set := fun (t : State) (chB op : Bool) =>
      let c := 2 * k.val + if chB then 1 else 0
      let cl := fun (x : State) (i : Nat) => !(x.contact i).open_
      let agree := cl t (2 * k) == cl t (2 * k + 1)
      t.contact c = { open_ := op, fails := 0 } ∧ (∀ i, i ≠ c → t.contact i = s.contact i) ∧
      t.bit F.SAFE.SIN_STAT.A_CL k = cl t (2 * k) ∧ t.bit F.SAFE.SIN_STAT.B_CL k = cl t (2 * k + 1) ∧
      t.bit F.SAFE.SIN_STAT.CLOSED k = (cl t (2 * k) && cl t (2 * k + 1)) ∧
      Tab.find? t.dome.disc k = (if agree then none else some ((Tab.find? s.dome.disc k).getD s.now)) ∧
      (∀ i, i ≠ k.val → Tab.find? t.dome.disc i = Tab.find? s.dome.disc i) ∧
      t = { s with regs := t.regs, hot := t.hot, dome := { s.dome with sin := t.dome.sin, disc := t.dome.disc, reports := t.dome.reports } } ∧
      sameRegs [F.SAFE.SIN_STAT.A_CL.key 0 0, F.SAFE.SIN_STAT.B_CL.key 0 0, F.SAFE.SIN_STAT.CLOSED.key 0 0] s t
    (∀ chB, Goes (.contactOpen k chB) s fun t => set t chB true ∧ t.dome.reports = s.dome.reports ++
      if used k && s.flag F.SAFE.SIN_CFG.ACT 0 k then [(.sin k, s.raw)] else []) ∧
    (∀ chB, Goes (.contactClosed k chB) s fun t => set t chB false ∧ t.dome.reports = s.dome.reports) ∧
    Goes (.contactDiscrepancy k) s (fun t =>
      let since := Tab.find? s.dome.disc k
      let long := since.any (fun q => decide (q + (max 1 (s.fld F.SAFE.SIN_CFG.DISC_T) : Nat) * (10 * ms) < s.now))
      ((used k && long) = false → t = s) ∧
      ((used k && long) = true → t.bit F.SAFE.SIN_STAT.DISC k = true ∧
        t = { s with regs := t.regs, hot := t.hot, dome := { s.dome with reports := s.dome.reports ++ [(.sinX k, s.raw)] } } ∧
        sameRegs [F.SAFE.SIN_STAT.DISC.key 0 0] s t)) ∧
    (∀ (src : Bool) (ins : BitVec 8), Goes (.tpGap src ins) s fun t =>
      let own := fun (c : Nat) => src == decide (c % 2 = 1)
      let sits := fun (c : Nat) => used (c / 2) && !(s.contact c).open_
      let fails := fun (c : Nat) => sits c && (ins.getLsbD c == own c)
      let bad := (List.range 8).filter (fun c => fails c && decide ((s.contact c).fails ≠ 0))
      let k := (s.now / (5 * ms)).toNat
      let due := s.dome.tpN ≤ k ∧ k % 2 = (if src then 1 else 0) ∧ (k * (5 * ms) + 150 * us : Int) ≤ s.now
      (¬due → t = s) ∧
      (due → (∀ c < 8, t.contact c = if sits c then
          { s.contact c with fails := if !fails c then 0 else if (s.contact c).fails = 0 then 1 else 2 } else s.contact c) ∧
        (∀ p < 4, t.bit F.SAFE.SIN_STAT.CROSS p = (s.bit F.SAFE.SIN_STAT.CROSS p || bad.any (fun c => c / 2 == p))) ∧
        t.dome.reports = s.dome.reports ++ bad.map (fun c => (.sinX (c / 2), s.raw)) ∧
        t = { s with regs := t.regs, hot := t.hot
                     dome := { s.dome with sin := t.dome.sin, reports := t.dome.reports, tpN := k + 1 } } ∧
        sameRegs [F.SAFE.SIN_STAT.CROSS.key 0 0] s t)) ∧
    (∀ src : Bool, Goes (.tpOvercurrent src) s fun t =>
      let F := if src then F.SAFE.TP_STAT.OVC_B else F.SAFE.TP_STAT.OVC_A
      t.flag F = true ∧ t = { s with regs := t.regs, hot := t.hot, dome := { s.dome with reports := s.dome.reports ++ [(.tp, s.raw)] } } ∧
      sameRegs [F.key 0 0] s t)

/-- A port trains on eight good TRAIN frames, sending its own, comes UP on FLOW, and goes down with its cause when it loses lock, is retrained or disabled. (spec/15_gloelink.md, Bring-up; spec/15_gloelink.md, Blocks; spec/15_gloelink.md, Training frames; spec/15_gloelink.md, Chaining; what a lane has sent before a frame is free, log entry 137) -/
def Obligations.PortsTrainAndFall : Prop :=
  ∀ (s : State) (p : Fin 3), s.wf → s.live = true →
    let x := s.port p
    let st := s.fld F.LINK.STAT.STATE p
    let frame := fun (t : State) => (∀ q, q ≠ p.val → t.port q = s.port q) ∧
      t = { s with regs := t.regs, hot := t.hot, reply := t.reply, net := { s.net with ports := t.net.ports } }
    let port := fun (t : State) (y : Port) => t.port p = y ∧ frame t
    let onLane := fun (y : Port) (f : List Word) (r : BitVec 58) =>
      let tag := tagMake y.av (if y.av then y.rxSeq + 127 else 0) y.nakOwed
      { y with tx := ⟨r, lineBlocks r.toNat (frameBlocks tag f)⟩, txN := y.txN + 1, nakOwed := false }
    let sends := fun (t : State) (y : Port) (f : List Word) => (∃ r, t.port p = onLane y f r) ∧ frame t
    let trainF := fun (rxok : Bool) => s.frame 0x0E 0 0
      [BitVec.ofNat 48 (0x4896 * 2 ^ 32 + (if p = 2 then 2 else 1) * 2 ^ 30 + s.chainPos * 2 ^ 28 + if rxok then 2 else 0),
        BitVec.ofNat 48 (s.fuses.serial % 2 ^ 24)]
    let flowF := fun (y : Port) => s.frame 0x0D 0 (16 * 2 ^ 8 + 8) [BitVec.ofNat 48 (y.freed0 * 2 ^ 16 + y.freed1)]
    let started := fun (z y : Port) => (s.flag F.LINK.PHY_CFG.EQ_HOLD p = true → z.eq = x.eq) ∧
      ∃ r, z = onLane { y.restart with slew := s.fld F.LINK.PHY_CFG.SLEW p, deemph := min 12 (s.fld F.LINK.PHY_CFG.DEEMPH p)
                                       trainN := x.trainN + 1, eq := z.eq } (trainF false) r
    let wire := fun (t : State) =>
      t = { s with regs := t.regs, hot := t.hot, reply := t.reply, out := t.out, net := t.net } ∧
      sameOutside [(0x1000900, 0x10009BF), (0x1001000, 0x10010FF)] s t
    let down := fun (t : State) (cause : Nat) (lock : Bool) =>
      let y := { x with lock := lock, downAt := if st = 3 then s.now else x.downAt }
      t.fld F.LINK.STAT.STATE p = (if cause = 6 then 0 else 1) ∧
      t.fld F.LINK.STAT.DN_CAUSE p = (if 2 ≤ st then cause else s.fld F.LINK.STAT.DN_CAUSE p) ∧
      (if cause = 6 then t.port p = y.restart else started (t.port p) y) ∧ (st ≠ 3 → frame t) ∧
      (p = 2 → st = 3 → t.net.below = 0) ∧ wire t
    let ctrl := fun (t : State) (v : Word) =>
      t.fld F.LINK.CTRL.EV_EN p = bits v 47 40 ∧ t.flag F.LINK.CTRL.EN p = v.getLsbD 0 ∧
      t.reply = some { code := 0, addr := 0x1000900 + 64 * p } ∧
      (v.getLsbD 0 = false → st ≠ 0 → down t 6 x.lock) ∧
      (v.getLsbD 0 = true → st = 0 → t.fld F.LINK.STAT.STATE p = 1 ∧ started (t.port p) x ∧ frame t ∧
        sameRegs [F.LINK.CTRL.EV_EN.key p 0, F.LINK.CTRL.EN.key p 0, F.LINK.STAT.STATE.key p 0] s t) ∧
      (v.getLsbD 0 = true → st ≠ 0 → v.getLsbD 1 = true → down t 3 x.lock) ∧
      ((v.getLsbD 0 = false ∧ st = 0) ∨ (v.getLsbD 0 = true ∧ st ≠ 0 ∧ v.getLsbD 1 = false) →
        t = { s with regs := t.regs, hot := t.hot, reply := t.reply } ∧
        sameRegs [F.LINK.CTRL.EV_EN.key p 0, F.LINK.CTRL.EN.key p 0] s t)
    let last64 := fun (rx : LineRun) => rx.blocks.drop (rx.blocks.length - 64)
    let locks := fun (rx : LineRun) (inv : Bool) =>
      64 ≤ rx.blocks.length ∧ ∀ b ∈ last64 rx, b.toNat / 2 ^ 64 = if inv then 2 else 1
    let bad := fun (rx : LineRun) => (last64 rx).countP (fun b => b.toNat / 2 ^ 64 != if s.flag F.LINK.STAT.RX_INV p then 2 else 1)
    (∀ rx, Goes (.blockLock ⟨p, rx⟩) s fun t =>
      (x.lock = true ∨ (¬locks rx false ∧ ¬locks rx true) → t = s) ∧
      ∀ inv, x.lock = false → locks rx inv → t.flag F.LINK.STAT.RX_INV p = inv ∧ sameRegs [F.LINK.STAT.RX_INV.key p 0] s t ∧
        (st ≠ 1 → port t { x with lock := true, badAt := [] }) ∧
        (st = 1 → sends t { x with lock := true, badAt := [] } (trainF x.trained))) ∧
    (∀ rx, Goes (.blockLockLoss ⟨p, rx⟩) s fun t =>
      (x.lock = false ∨ bad rx < 16 → t = s) ∧
      (x.lock = true → 16 ≤ bad rx → st = 0 → port t { x with lock := false } ∧ t.regs = s.regs) ∧
      (x.lock = true → 16 ≤ bad rx → st ≠ 0 → down t 1 false)) ∧
    (∀ f : List Word, Goes (.train p f) s fun t =>
      let here := x.lock = true ∧ frType f = 0x0E ∧ st ≠ 0
      let a := f.getD 1 0
      let y : Port := { x with good := min 8 (x.good + 1), trained := true, role := bits a 31 30, pos := bits a 29 28 }
      let done := min 8 (x.good + 1) = 8 ∧ a.getLsbD 1 = true
      let barred := (p = 0 ∧ bits a 31 30 = 2 ∧ bits a 29 28 = 3) ∨ (p = 1 ∧ s.chainPos ≠ 0) ∨ (p = 2 ∧ s.chainPos = 3)
      (¬here → t = s) ∧
      (here → frameOk f = false → t.fld F.LINK.ERR_CNT0.CRC p = min (s.fld F.LINK.ERR_CNT0.CRC p + 1) 65535 ∧
        port t (if st = 3 then { x with good := 0, nakOwed := x.nakOwed || x.nakOk, nakOk := false } else { x with good := 0 }) ∧
        sameRegs [F.LINK.ERR_CNT0.CRC.key p 0] s t) ∧
      (here → frameOk f = true → 2 ≤ st → down t 4 x.lock) ∧
      (here → frameOk f = true → st < 2 → ¬done → sends t y (trainF true) ∧ t.regs = s.regs) ∧
      (here → frameOk f = true → st < 2 → done → barred → port t y ∧ t.fld F.LINK.STAT.STATE p = st ∧
        (p = 2 → t.fld F.LINK.STAT.DN_CAUSE 2 = 7) ∧ sameRegs (if p = 2 then [F.LINK.STAT.DN_CAUSE.key 2 0] else []) s t) ∧
      (here → frameOk f = true → st < 2 → done → ¬barred → sends t { y with flowAt := s.now } (flowF y) ∧
        t.fld F.LINK.STAT.STATE p = 2 ∧ sameRegs [F.LINK.STAT.STATE.key p 0] s t)) ∧
    (∀ f : List Word, Goes (.flow p f) s fun t =>
      let good := frType f = 0x0D ∧ frameOk f = true
      let a := f.getD 1 0
      let taken := t.fld F.LINK.CREDIT.P_BUF0 p = frTs f 15 8 ∧ t.fld F.LINK.CREDIT.P_BUF1 p = frTs f 7 0 ∧
        (t.port p).pFreed0 = bits a 31 16 ∧ (t.port p).pFreed1 = bits a 15 0
      (¬good ∨ st < 2 → t = s) ∧
      (good → st = 2 → taken ∧ t.fld F.LINK.STAT.STATE p = 3 ∧
        t.fld F.LINK.STAT.UPCNT p = (s.fld F.LINK.STAT.UPCNT p + 1) % 65536 ∧
        t.fld F.LINK.STAT.P_ROLE p = x.role % 4 ∧ t.fld F.LINK.STAT.P_POS p = x.pos % 4 ∧ (t.port p).rxSeq = 0 ∧ wire t) ∧
      (good → st = 3 → taken ∧ t.fld F.LINK.STAT.STATE p = 3 ∧ (t.port p).rxSeq = x.rxSeq ∧ wire t)) ∧
    Goes (.flowSend p) s (fun t => (st < 2 → t = s) ∧ (2 ≤ st → sends t { x with flowAt := s.now } (flowF x) ∧ t.regs = s.regs)) ∧
    (∀ a v, v = s.holdWith (0x1000900 + 64 * p) 2 → s.judgeWrite a (0x1000900 + 64 * p) v = none →
      Goes (.retrain a p) s fun t => ctrl t v) ∧
    (∀ a v, s.judgeWrite a (0x1000900 + 64 * p) v = none → Goes (.portEnableWrite a p v) s fun t => ctrl t v) ∧
    Goes (.portFault p) s (fun t =>
      let due := s.flag F.LINK.FLT_CFG.REQ p = true ∧ st ≠ 3 ∧ s.flag F.LINK.STAT.FAULT p = false ∧
        x.downAt + (max 1 (s.fld F.LINK.FLT_CFG.DOWN_T p) : Nat) * ms ≤ s.now ∧ ¬(p = 1 ∧ s.chainPos ≠ 0)
      (¬due → t = s) ∧
      (due → t.flag F.LINK.STAT.FAULT p = true ∧ t.dev = s.dev ∧
        t.dome = { s.dome with reports := s.dome.reports ++ if p.val < 2 then [(.port p, s.raw)] else [] } ∧
        t = { s with regs := t.regs, hot := t.hot, net := t.net, dome := t.dome } ∧ sameOutside [(0x1000900, 0x10009BF)] s t)) ∧
    (∀ a, s.judgeWrite a (0x1000902 + 64 * p) 0x100 = none → Goes (.portFaultClear a p) s fun t =>
      t.flag F.LINK.STAT.FAULT p = (s.flag F.LINK.STAT.FAULT p && !((decide (st = 3) || !s.flag F.LINK.FLT_CFG.REQ p) &&
        s.since F.LINK.STAT.FAULT p == 0)) ∧
      t = { s with regs := t.regs, hot := t.hot, reply := some { code := 0, addr := 0x1000902 + 64 * p } } ∧
      sameRegs [F.LINK.STAT.FAULT.key p 0] s t)

/-- Valid acknowledgements release frames and ring slots, a NAK or a timeout sends the rest again once in a tick, a bad block or frame is counted and NAKed, and a due point frame is sent. (spec/15_gloelink.md, Sequencing, retry and credits; spec/15_gloelink.md, Blocks; spec/15_gloelink.md, Frames; spec/09_rejection_points.md, Output rings and routing) -/
def Obligations.RetryReleasesAndReplays : Prop :=
  ∀ (s : State) (p : Fin 3), s.wf → s.live = true →
    let x := s.port p
    let up := s.linkUp p
    let count := fun (t : State) (F : Fld) (n : Nat) => t.fld F p = min (s.fld F p + n) 65535
    let wire := fun (t : State) =>
      t = { s with regs := t.regs, hot := t.hot, out := t.out, net := t.net } ∧
      sameOutside [(0x1000900, 0x10009BF), (0x1001000, 0x10010FF)] s t
    let blocks := fun (rx : LineRun) => runReceived rx (s.flag F.LINK.STAT.RX_INV p)
    let acks := fun (rx : LineRun) => (heard (blocks rx)).filter blkAv |>.map blkAck
    let left := fun (l : List TxF) (n : Nat) =>
      let k := (n + 1 + 128 - ((l.map TxF.seq).head?).getD 0) % 128
      if k = 0 ∨ l.length < k then l else l.drop k
    let kept := fun (rx : LineRun) => if up then (acks rx).foldl left x.unacked else x.unacked
    let freed := fun (rx : LineRun) => x.unacked.take (x.unacked.length - (kept rx).length)
    let released := fun (t : State) (rx : LineRun) =>
      (kept rx ≠ x.unacked → (t.port p).tmo = 0 ∧ (t.port p).oldAt = s.now) ∧
      ∀ g ∈ freed rx, ∀ b q, g.ring = some (b, q) → (Tab.find? (s.ring b).acked (frOrig g.words)).isSome = true →
        q ≤ Tab.get (fun _ => 0) (t.ring b).acked (frOrig g.words)
    let nakked := fun (t : State) (y : Port) =>
      t.port p = (if up then { y with good := 0, nakOwed := x.nakOwed || x.nakOk, nakOk := false } else { y with good := 0 }) ∧
      (∀ q, q ≠ p.val → t.port q = s.port q) ∧
      t = { s with regs := t.regs, hot := t.hot, net := { s.net with ports := t.net.ports } }
    (∀ rx, Goes (.ackReceived p rx) s fun t => (kept rx = x.unacked → t = s.pump p) ∧
      (∃ l, (t.port p).unacked = kept rx ++ l) ∧ released t rx ∧ wire t) ∧
    (∀ rx, Goes (.nakReceived p rx) s fun t =>
      let nak := up = true ∧ ∃ b ∈ heard (blocks rx), blkNak b = true
      let again := kept rx ≠ [] ∧ x.replayAt ≠ some s.now
      (¬nak → t = s) ∧
      (nak → count t F.LINK.ERR_CNT1.NAK 1 ∧ wire t ∧ (∃ l, (t.port p).unacked = kept rx ++ l) ∧ released t rx ∧
        count t F.LINK.ERR_CNT1.REPLAY (if again then (kept rx).length else 0) ∧
        (again → (t.port p).replayAt = some s.now ∧ (t.port p).oldAt = s.now ∧ (x.q0 = [] → x.q1 = [] →
          let tag := tagMake x.av (if x.av then x.rxSeq + 127 else 0) x.nakOwed
          ∃ r : BitVec 58, (t.port p).tx = ⟨r, lineBlocks r.toNat ((kept rx).flatMap (fun f => frameBlocks tag f.words))⟩)))) ∧
    Goes (.ackTimeout p) s (fun t =>
      let due := up = true ∧ x.unacked ≠ [] ∧ x.oldAt + 20 * us ≤ s.now
      let again := x.replayAt ≠ some s.now
      (¬due → t = s) ∧ (due → count t F.LINK.ERR_CNT1.TMO 1 ∧ wire t) ∧
      (due → x.tmo + 1 < 8 → (t.port p).unacked = x.unacked ∧ (t.port p).tmo = x.tmo + 1 ∧ t.out = s.out ∧
        (again → (t.port p).oldAt = s.now ∧ (t.port p).replayAt = some s.now) ∧
        count t F.LINK.ERR_CNT1.REPLAY (if again then x.unacked.length else 0)) ∧
      (due → 8 ≤ x.tmo + 1 → t.fld F.LINK.STAT.STATE p = 1 ∧ t.fld F.LINK.STAT.DN_CAUSE p = 2 ∧ (t.port p).unacked = [])) ∧
    (s.fld F.LINK.STAT.STATE p = 0 → ∀ why, Goes (.frameDiscarded p why) s fun t => t = s) ∧
    (s.fld F.LINK.STAT.STATE p ≠ 0 →
      (∀ rx, Goes (.frameDiscarded p (.block rx)) s fun t =>
        let invalid := (blocks rx).countP (fun b => !b.1)
        let n := badBlocks (blocks rx)
        let at_ := x.badAt.filter (fun q => decide (s.now - 8192 < q)) ++ List.replicate invalid s.now
        let lost := x.lock = true ∧ 16 ≤ at_.length
        (n = 0 → t = s) ∧ (n ≠ 0 → count t F.LINK.ERR_CNT0.BLK n) ∧
        (n ≠ 0 → ¬lost → sameRegs [F.LINK.ERR_CNT0.BLK.key p 0] s t ∧
          if rx.blocks.length = 1 then t.port p = { x with badAt := at_ } else nakked t { x with badAt := at_ }) ∧
        (n ≠ 0 → lost → t.fld F.LINK.STAT.STATE p = 1 ∧ (t.port p).lock = false ∧ wire t ∧
          (2 ≤ s.fld F.LINK.STAT.STATE p → t.fld F.LINK.STAT.DN_CAUSE p = 1))) ∧
      (∀ rx, Goes (.frameDiscarded p (.crc rx)) s fun t =>
        let bad := frameShape (blocks rx) = true ∧ frameCrcOk (blocks rx) = false
        (¬bad → t = s) ∧
        (bad → count t F.LINK.ERR_CNT0.CRC 1 ∧ nakked t x ∧ sameRegs [F.LINK.ERR_CNT0.CRC.key p 0] s t)) ∧
      (∀ f, wellFormedOn p f = false → reqType (frType f) = false → Goes (.frameDiscarded p (.malformed f)) s fun t =>
        count t F.LINK.ERR_CNT0.CRC 1 ∧ nakked t x ∧ sameRegs [F.LINK.ERR_CNT0.CRC.key p 0] s t) ∧
      (∀ f, wellFormedOn p f = true → Goes (.frameDiscarded p (.malformed f)) s fun t => t = s) ∧
      ∀ n : BitVec 7, Goes (.frameDiscarded p (.seq n)) s fun t =>
        let d := (x.rxSeq + 128 - n.toNat) % 128
        (up = false ∨ n.toNat = x.rxSeq → t = s) ∧
        (up = true → d ≠ 0 → d ≤ 64 → count t F.LINK.ERR_CNT0.DUP 1 ∧ t = { s with regs := t.regs, hot := t.hot } ∧
          sameRegs [F.LINK.ERR_CNT0.DUP.key p 0] s t) ∧
        (up = true → 64 < d → t.regs = s.regs ∧ (∀ q, q ≠ p.val → t.port q = s.port q) ∧
          t.port p = { x with nakOwed := x.nakOwed || x.nakOk, nakOk := false } ∧
          t = { s with net := { s.net with ports := t.net.ports } })) ∧
    (∀ (o : Fin 2) (b : Fin 4), Goes (.pointFrameSend o b) s fun t =>
      let q := s.portOf o
      let ready := s.streamReady b o = true ∧ s.canSend q 1 = true
      (¬ready → t = s) ∧
      (ready → wire t ∧ ∃ f, s.streamFrame b o = some f ∧
        (∃ g ∈ (t.port q).unacked, g.ring = f.ring ∧ g.words.drop 1 = f.words.drop 1 ∧ g.seq = (s.port q).txSeq) ∧
        ∀ m, f.ring.map Prod.snd = some m → Tab.find? (t.ring b).sent o = some m))

/-- A request in sequence is executed once and answered, held while the store clears, forwarded down the chain or refused; any other is a duplicate or NAKed. (spec/15_gloelink.md, Host ports and requests; spec/15_gloelink.md, Sequencing, retry and credits; spec/15_gloelink.md, Mailboxes; spec/15_gloelink.md, Semaphores; spec/15_gloelink.md, Chaining) -/
def Obligations.RequestsExecuteOnceAndAnswer : Prop :=
  ∀ (s : State) (p : Fin 3) (f : List Word), s.wf → s.live = true → s.chainPos < 4 →
    let x := s.port p
    let typ := frType f
    let up := s.linkUp p = true
    let d := (x.rxSeq + 128 - frSeq f) % 128
    let own : List (Instr × Bool) :=
      [(.regRd p f, typ == 1), (.regWr p f, typ == 2), (.memRd p f, typ == 3), (.memWr p f, typ == 4),
       (.mbxSend p f, typ == 0x0B && frTs f 15 12 == 0), (.mbxRecv p f, typ == 0x0B && frTs f 15 12 == 1),
       (.semQuery p f, typ == 0x0C), (.downstreamForward p f, reqType typ && decide (s.chainPos < frHop f))]
    let s1 := (s.setPort p { x with rxSeq := (x.rxSeq + 1) % 128, nakOk := true }).cnt F.LINK.TRAFFIC.RXFR 1 p
    let queued := fun (t : State) (q : Nat) (P : List Word → Prop) =>
      ∃ g ∈ (t.port q).unacked ++ (t.port q).q0 ++ (t.port q).q1, P g.words
    let keeps := fun (u t : State) =>
      t = { u with regs := t.regs, hot := t.hot, net := t.net, reply := t.reply, free := t.free } ∧ sameOutside [(0x1000900, 0x10009BF)] u t
    let resp := fun (t : State) (body : List Word) => queued t p fun w =>
      frType w = 5 ∧ frOrig w = frOrig f ∧ frRid w = frRid f ∧ w.drop 1 = body
    let err := fun (t : State) (code : Nat) => queued t p fun w =>
      frType w = 6 ∧ frOrig w = frOrig f ∧ frRid w = frRid f ∧ frTs w 15 8 = code
    let errAt := fun (t : State) (e : Err) (i : Nat) => queued t p fun w =>
      frType w = 6 ∧ frRid w = frRid f ∧ frTs w 15 8 = e.code ∧ frTs w 7 0 = i ∧ w.drop 1 = [BitVec.ofNat 48 (frAddr f + i)]
    let a := s.accessorOf p f
    let n := frTs f 5 0 + 1
    let m := frTs f 11 8
    let reads := fun (t : State) (r : List Word × State × Option (Err × Nat)) =>
      keeps r.2.1 t ∧ (r.2.2 = none → resp t r.1) ∧ ∀ e i, r.2.2 = some (e, i) → errAt t e i
    let writes := fun (t : State) (r : State × Option (Err × Nat)) =>
      r.1.linkUp p = true → r.1.chainPos < 4 → (r.2 = none → resp t []) ∧ ∀ e i, r.2 = some (e, i) → errAt t e i
    let executed := fun (t : State) =>
      (typ = 1 → reads t (State.regReads a n 0 (frAddr f) [] s1)) ∧
      (typ = 2 → let r := State.regWrites a 0 (frAddr f) (f.drop 2) s1
        writes t r ∧ t.mem = r.1.mem ∧ t.force = r.1.force ∧ t.dev = r.1.dev ∧ t.fire = r.1.fire ∧ t.cores = r.1.cores ∧
        t.dome = r.1.dome ∧ sameOutside [(0x1000900, 0x10009BF)] r.1 t) ∧
      (typ = 3 → reads t (State.memReads n 0 (frAddr f) [] s1)) ∧
      (typ = 4 → let r := State.memWrites 0 (frAddr f) (f.drop 2) s1
        writes t r ∧ keeps r.1 t) ∧
      (typ = 0x0B → frTs f 15 12 = 0 → (s.mbx m).msg = [] →
        resp t [] ∧ (t.mbx m).msg = setBits (f.getD 1 0) 47 24 (accCode a * 65536 + t.fld F.MBX.CNT.SEQ m) :: f.drop 2 ∧
        t.fld F.MBX.CNT.SEQ m = (s.fld F.MBX.CNT.SEQ m + 1) % 65536 ∧ t.mem = s.mem ∧ t.cores = s.cores ∧ t.dev = s.dev) ∧
      (typ = 0x0B → frTs f 15 12 = 0 → (s.mbx m).msg ≠ [] →
        err t 5 ∧ (t.mbx m).msg = (s.mbx m).msg ∧ t.fld F.MBX.CNT.FULL m = min (s.fld F.MBX.CNT.FULL m + 1) 65535) ∧
      (typ = 0x0B → frTs f 15 12 = 1 → (t.mbx m).msg = [] ∧ keeps s t ∧
        ((s.mbx m).msg.length ≤ 8 → resp t (s.mbx m).msg)) ∧
      (typ = 0x0C → resp t ((List.range 32).map (fun i => s.semWord i (accCode a))) ∧ keeps s t)
    (∀ q ∈ own, Goes q.1 s fun t =>
      (q.2 = false ∨ ¬up → t = s) ∧
      (q.2 = true → up → d ≠ 0 → d ≤ 64 → t.fld F.LINK.ERR_CNT0.DUP p = min (s.fld F.LINK.ERR_CNT0.DUP p + 1) 65535 ∧
        t = { s with regs := t.regs, hot := t.hot } ∧ sameRegs [F.LINK.ERR_CNT0.DUP.key p 0] s t) ∧
      (q.2 = true → up → 64 < d →
        t = s.setPort p { x with nakOwed := x.nakOwed || x.nakOk, nakOk := false }) ∧
      (q.2 = true → up → d = 0 →
        (s.dev.boot = .clearing → (t.port p).rxq = x.rxq ++ [f] ∧ keeps s t ∧ (t.port p).rxSeq = (x.rxSeq + 1) % 128) ∧
        (s.dev.boot ≠ .clearing → p = 2 ∨ frameOk f = false → err t 7 ∧ keeps s t) ∧
        (s.dev.boot ≠ .clearing → p ≠ 2 → frameOk f = true →
          (frHop f = s.chainPos → executed t) ∧
          (s.chainPos < frHop f → s.net.below.testBit (frHop f) = true → keeps s t ∧
            (s.linkUp 2 = true → queued t 2 fun w => frType w = typ ∧ frRid w = frRid f ∧ w.drop 1 = f.drop 1)) ∧
          (frHop f < s.chainPos ∨ (s.chainPos < frHop f ∧ s.net.below.testBit (frHop f) = false) →
            err t 8 ∧ keeps s t)))) ∧
    (wellFormedOn p f = false → reqType typ = true → up → d = 0 → s.dev.boot ≠ .clearing →
      Goes (.frameDiscarded p (.malformed f)) s fun t => err t 7 ∧ keeps s t)

/-- A semaphore is claimed, guarded, released with notices and freed when its owner is gone; mail is acknowledged; chain frames update the map and go up. (spec/15_gloelink.md, Semaphores; spec/15_gloelink.md, Mailboxes; spec/15_gloelink.md, Chaining) -/
def Obligations.ChainAndSemaphores : Prop :=
  ∀ (s : State) (a : Accessor) (n : Fin 32) (v : Word), s.wf → s.live = true →
    let sem := 0x1000A80 + n.val
    let mine := (s.sem n).owner = accCode a
    let wire := fun (t : State) => t = { s with regs := t.regs, hot := t.hot, net := t.net, reply := t.reply } ∧
      sameOutside [(0x1000900, 0x10009BF), (0x1000A00, 0x1000A9F)] s t
    let others := fun (t : State) => ∀ i, i ≠ n.val → t.sem i = s.sem i
    let queued := fun (t : State) (q : Nat) (P : List Word → Prop) =>
      ∃ g ∈ (t.port q).unacked ++ (t.port q).q0 ++ (t.port q).q1, P g.words
    let freed := fun (t : State) => t.sem n = { owner := 0, wait := [] } ∧
      (s.chainPos < 4 → ∀ o ∈ (s.sem n).wait, o < 2 → s.linkUp (s.portOf o) = true →
        queued t (s.portOf o) fun w => frType w = 0x0C ∧ frTs w 15 12 = 1 ∧ frTs w 4 0 = n)
    let host := accCode a = 1 ∨ accCode a = 2
    Goes (.semClaim a n) s (fun t =>
      let code := (s.sem n).owner
      let told := fun (w : Word) (y : Sem) =>
        t = { s with net := t.net, reply := some { code := 0, addr := sem, value := w } } ∧
        t.net = { s.net with sems := t.net.sems } ∧ t.sem n = y ∧ others t
      (code = 0 → told 0 { s.sem n with owner := accCode a }) ∧ (code = accCode a → told 0 (s.sem n)) ∧
      (code ≠ 0 → code ≠ accCode a → told (s.semWord n (accCode a))
        { s.sem n with wait := (s.sem n).wait ++
          if host ∧ accCode a - 1 ∉ (s.sem n).wait then [accCode a - 1] else [] })) ∧
    (s.judgeWrite a sem (v ||| 2) = none → Goes (.semSetg a n v) s fun t =>
      (¬mine → t = s.answer sem (s, some .semOwn)) ∧
      (mine → t.fld F.SEM.CLAIM.GRP n = bits v 38 32 ∧ t.fld F.SEM.CLAIM.BLK n = bits v 31 16 ∧ wire t ∧ others t ∧
        (v.getLsbD 0 = false → t.net = s.net) ∧ (v.getLsbD 0 = true → freed t))) ∧
    (s.judgeWrite a sem 1 = none → Goes (.semRel a n) s fun t =>
      (¬mine → t = s.answer sem (s, some .semOwn)) ∧
      (mine → freed t ∧ wire t ∧ others t ∧ t.fld F.SEM.CLAIM.GRP n = s.fld F.SEM.CLAIM.GRP n ∧
        t.fld F.SEM.CLAIM.BLK n = s.fld F.SEM.CLAIM.BLK n)) ∧
    (∀ p : Fin 3, Goes (.semHoldExpiry p) s fun t =>
      let gone := s.linkUp p = false ∧
        (s.port p).downAt + (max 1 (s.fld F.LINK.FLT_CFG.SEM_HOLD p) : Nat) * ms ≤ s.now
      (¬gone → t = s) ∧
      (gone → wire t ∧ ∀ i < 32, t.sem i =
        if (s.hostsOf p).any (fun o => (s.sem i).owner == o + 1) then { owner := 0, wait := [] } else s.sem i)) ∧
    (∀ m : Fin 16, s.judgeWrite a (0x1000A03 + 8 * m) 1 = none → Goes (.mbxAck a m) s fun t =>
      t.flag F.MBX.ACK.ACK m = true ∧ (t.mbx m).msg = (s.mbx m).msg ∧ wire t ∧
      t.reply = some { code := 0, addr := 0x1000A03 + 8 * m }) ∧
    (∀ m : Fin 16, s.judgeWrite a (0x1000A03 + 8 * m) 2 = none → Goes (.mbxAckc a m) s fun t =>
      t.flag F.MBX.ACK.ACK m = false ∧ t.mbx m = { s.mbx m with ackDue := false } ∧
      (∀ i, i ≠ m.val → t.mbx i = s.mbx i) ∧ t.net = { s.net with mbx := t.net.mbx } ∧
      t = { s with regs := t.regs, hot := t.hot, net := t.net, reply := some { code := 0, addr := 0x1000A03 + 8 * m } } ∧
      sameRegs [F.MBX.ACK.ACK.key m 0] s t) ∧
    (∀ (p : Fin 3) (f : List Word), Goes (.chain p f) s fun t =>
      let good := p = 2 ∧ frType f = 0x0F ∧ frameOk f = true
      (¬good ∨ s.linkUp 2 = false → t = s) ∧
      (good → s.linkUp 2 = true → frSeq f = (s.port 2).rxSeq → t.net.below = bits (f.getD 1 0) 3 0 ∧ wire t ∧
        t.fld F.LINK.CHAIN.PRESENT 2 = (bits (f.getD 1 0) 3 0 ||| 1 <<< s.chainPos) % 16 ∧
        (t.port 2).rxSeq = ((s.port 2).rxSeq + 1) % 128)) ∧
    (∀ f : List Word, Goes (.upstreamFrameForward f) s fun t =>
      let good := upType (frType f) = true ∧ upOk f = true
      (upType (frType f) = false ∨ s.linkUp 2 = false → t = s) ∧
      (upType (frType f) = true → upOk f = false → s.linkUp 2 = true →
        t.fld F.LINK.ERR_CNT0.CRC 2 = min (s.fld F.LINK.ERR_CNT0.CRC 2 + 1) 65535 ∧
        t.port 2 = { s.port 2 with good := 0, nakOwed := (s.port 2).nakOwed || (s.port 2).nakOk, nakOk := false } ∧
        (∀ q, q ≠ 2 → t.port q = s.port q) ∧ sameRegs [F.LINK.ERR_CNT0.CRC.key 2 0] s t ∧
        t = { s with regs := t.regs, hot := t.hot, net := { s.net with ports := t.net.ports } }) ∧
      (good → s.linkUp 2 = true → frSeq f = (s.port 2).rxSeq → wire t ∧
        (t.port 2).rxSeq = ((s.port 2).rxSeq + 1) % 128 ∧
        (s.linkUp (s.portOf (frOrig f)) = true → queued t (s.portOf (frOrig f)) fun w =>
          frType w = frType f ∧ frHop w = frHop f ∧ w.drop 1 = f.drop 1)))

/-- The scrubber checks the next place of its pass, re-initialises a context tile that fails, logs a store tile that fails, and retries a tile that a visit holds. (spec/16_background.md, Scrubbing) -/
def Obligations.ScrubbingChecksEveryTile : Prop :=
  ∀ s : State, s.wf → s.live = true →
    let k := s.bg.scrubK
    let due := s.bg.almAt.isSome = true ∧ s.bg.scrubAt + k * s.passLen / 16384 ≤ s.now
    let frame := fun (t : State) =>
      t = { s with regs := t.regs, hot := t.hot, mem := t.mem, bg := t.bg, out := t.out } ∧
      sameOutside [(0x1000B00, 0x1000B5F), (0x1001000, 0x10010FF), (0x1002000, 0x10025E7)] s t
    let checked := fun (t : State) (n : Nat) =>
      tileOk (t.rdTile n) n = true ∧ (tileOk (s.rdTile n) n = true → t.rdTile n = s.rdTile n)
    let apart := fun (t : State) (P : Nat → Prop) => ∀ q, (q < 0x240000 → ¬P (q / 48)) → t.rdMem q = s.rdMem q
    (¬due → Goes .scrubTileCheck s fun t => t = s) ∧
    (due → k < 16384 → Goes .scrubTileCheck s fun t =>
      let fails := tileOk (s.rdTile (ctxTiles + k)) (ctxTiles + k) = false
      let turn := k % 8 = 0
      let held := (List.range 24).filter (fun d => s.tileHeld d (2048 * d + k / 8))
      frame t ∧ t.bg.scrubK = (k + 1) % 16384 ∧ t.bg.scrubAt = (if k = 16383 then s.bg.scrubAt + s.passLen else s.bg.scrubAt) ∧
      t.fld F.BGND.SCRUB_STAT.PASSES = (if k = 16383 then (s.fld F.BGND.SCRUB_STAT.PASSES + 1) % 65536
        else s.fld F.BGND.SCRUB_STAT.PASSES) ∧
      (fails → t.fld F.BGND.SCRUB_CNT.SS = min (s.fld F.BGND.SCRUB_CNT.SS + 1) 65535 ∧ t.fld F.BGND.SCRUB_LOG.TILE = k ∧
        t.flag F.BGND.SCRUB_LOG.VALID = true ∧ t.bg.ssFail = s.bg.ssFail + 1) ∧
      (¬fails → t.out = s.out ∧ t.bg.ssFail = s.bg.ssFail) ∧
      apart t (fun n => turn ∧ n % 2048 = k / 8) ∧
      (turn → t.bg.retry = s.bg.retry ++ held.map (fun d => (2048 * d + k / 8, s.now + 20 * us, 0)) ∧
        ∀ d < 24, s.tileHeld d (2048 * d + k / 8) = false → checked t (2048 * d + k / 8)) ∧
      (¬turn → t.bg.retry = s.bg.retry)) ∧
    (s.bg.retry = [] → Goes .scrubRetry s fun t => t = s) ∧
    (∀ n at_ i l, s.bg.retry = (n, at_, i) :: l → n < 49152 → Goes .scrubRetry s fun t =>
      let held := s.tileHeld (n / 2048) n
      (s.now < at_ → t = s) ∧
      (at_ ≤ s.now → frame t ∧ t.out = s.out ∧
        (held = false → t.bg.retry = l ∧ checked t n ∧ apart t (fun j => j = n)) ∧
        (held = true → t.mem = s.mem) ∧ (held = true → i < 3 → t.bg.retry = l ++ [(n, s.now + 20 * us, i + 1)] ∧ t.regs = s.regs) ∧
        (held = true → 3 ≤ i → t.bg.retry = l ∧ t.fld F.BGND.SCRUB_STAT.SKIP = min (s.fld F.BGND.SCRUB_STAT.SKIP + 1) 65535)))

/-- Breakdown is tracked, hot SPADs are counted and marked, the ageing loop forms its mean and steps the width under its semaphore, and Almanac records are sent. (spec/16_background.md, Breakdown tracking; spec/16_background.md, Hot SPADs; spec/16_background.md, Laser ageing compensation; spec/16_background.md, Almanac) -/
def Obligations.BackgroundMeasuresAndRecords : Prop :=
  ∀ s : State, s.wf → s.live = true →
    (∀ (d : Fin 24) (vbd vspad : BitVec 16), Goes (.breakdownMeasurement d vbd vspad) s fun t =>
      let due := s.flag F.STRIP.RX_STAT.POWERED d = true ∧
        ((s.strip d).vaFirst = false ∨ Tab.get (fun _ => 0) s.bg.vbdAt d + ms ≤ s.now)
      let l := (vbd.toNat :: Tab.get (fun _ => []) s.bg.vbd d).take 16
      let n := t.fld F.STRIP.BIAS_STAT.VBD d
      let need : Int := vspad.toNat - n - clampN 1000 5000 (s.fld F.STRIP.BIAS_CFG.VEX d)
      let va : Option Nat := if (s.strip d).vaFirst then (t.strip d).vaNext else some (t.fld F.STRIP.BIAS_STAT.VA d)
      (¬due → t = s) ∧
      (due → Tab.get (fun _ => []) t.bg.vbd d = l ∧ Tab.get (fun _ => 0) t.bg.vbdAt d = s.now ∧ (t.strip d).vaFirst = true ∧
        t = { s with regs := t.regs, hot := t.hot, bg := t.bg, strips := t.strips, dome := t.dome, free := t.free } ∧
        sameOutside [(0x1002000, 0x10025E7)] s t ∧ ∀ e, e ≠ d.val → t.strip e = s.strip e) ∧
      (due → (∀ v ∈ l, v ≤ 65534) → n % 2 = 0 ∧ n * l.length < l.foldl (· + ·) 0 + 2 * l.length ∧
        l.foldl (· + ·) 0 < (n + 2) * l.length) ∧
      (due → s.flag F.STRIP.BIAS_CFG.TRACK d = true → 0 ≤ need → need ≤ 8000 →
        ∃ v, va = some v ∧ v % 2 = 0 ∧ (v : Int) ≤ need + 1 ∧ need ≤ v + 1 ∧ t.dome = s.dome) ∧
      (due → s.flag F.STRIP.BIAS_CFG.TRACK d = true → (need < 0 ∨ 8000 < need) →
        t.flag F.STRIP.RX_STAT.BIAS_ERR d = true)) ∧
    (∀ (d : Fin 24) (counts : List Nat), Goes (.hotSpadTestWindow d counts) s fun t =>
      let last := Tab.find? s.bg.flightEnd (d.val / 6)
      let sweep := (last.map Prod.snd).getD 0
      let runs := s.flag F.BGND.HOT_CFG.EN = true ∧ s.flag F.MIRR.STAT.H_LOCKED = true ∧ s.inFlight (d / 6) = 0 ∧
        (∃ e ∈ last, e.1 + 25 * us ≤ s.now) ∧ Tab.find? s.bg.hotSweep d ≠ some sweep
      let sums := (List.range 64).map (fun k => (Tab.get (fun _ => []) s.bg.hotSum d).getD k 0 + counts.getD k 0)
      let n := Tab.get (fun _ => 0) s.bg.hotWin d + 1
      let marked := fun (x : State) => Tab.get (fun _ => []) x.bg.hotDue d
      (¬runs → t = s) ∧
      (runs → t = { s with regs := t.regs, hot := t.hot, bg := t.bg } ∧ Tab.find? t.bg.hotSweep d = some sweep ∧
        sameOutside [(0x1000B00, 0x1000B5F)] s t) ∧
      (runs → n ≠ 64 → Tab.get (fun _ => 0) t.bg.hotWin d = n ∧ Tab.get (fun _ => []) t.bg.hotSum d = sums ∧ t.regs = s.regs ∧
        t.bg.hotDue = s.bg.hotDue) ∧
      (runs → n = 64 → ∃ l, marked t = marked s ++ l ∧
        (l ≠ [] → (s.strip d).retired.length + (marked s ++ l).length ≤ 20) ∧
        ∀ p ∈ l, ∃ k < 64, p = spadOf d (64 * Tab.get (fun _ => 0) s.bg.hotGrp d + k) ∧ s.isHot sums (sums.getD k 0) = true)) ∧
    Goes .ageingIntervalEnd s (fun t =>
      let ivl : Int := (max 1 (s.fld F.BGND.AGE_CFG.IVL) : Nat) * 1000 * ms
      let due := s.bg.almAt.isSome = true ∧ s.bg.ageAt + ivl ≤ s.now
      let on := s.flag F.BGND.AGE_CFG.AUTO = true ∧ s.flag F.MON.AVG_CFG.EN = true
      let e := t.fld F.BGND.AGE_STAT.E_MEAN
      let r := s.fld F.BGND.AGE_STAT.E_REF
      let db := s.fld F.BGND.AGE_CFG.DB
      let w := s.act F.FIRE.PULSE_CFG.WIDTH
      let up := r ≠ 0 ∧ e * 1000 < r * (1000 - db) ∧ w < s.fld F.BGND.AGE_CFG.W_MAX
      let dn := r ≠ 0 ∧ ¬up ∧ r * (1000 + db) < e * 1000 ∧ s.fld F.BGND.AGE_CFG.W_MIN < w
      let free := (s.sem (s.fld F.BGND.AGE_CFG.SEM)).owner = 0
      let taken := (s.sem (s.fld F.BGND.AGE_CFG.SEM)).owner ≠ 0 ∧ (s.sem (s.fld F.BGND.AGE_CFG.SEM)).owner ≠ 4
      (¬due → t = s) ∧
      (due → t.bg.ageAt = s.bg.ageAt + ivl ∧ t.mon = { s.mon with ageSum := 0, ageN := 0 } ∧
        t = { s with regs := t.regs, hot := t.hot, bg := t.bg, mon := t.mon, net := t.net, dev := t.dev, free := t.free }) ∧
      (due → ¬on → t.regs = s.regs ∧ t.net = s.net) ∧
      (due → on → s.mon.ageN = 0 → t.flag F.BGND.AGE_STAT.NODATA = true ∧ sameRegs [F.BGND.AGE_STAT.NODATA.key 0 0] s t) ∧
      (due → on → s.mon.ageN ≠ 0 → s.mon.ageSum < 65535 * s.mon.ageN → t.flag F.BGND.AGE_STAT.NODATA = false ∧
        e * s.mon.ageN < s.mon.ageSum + s.mon.ageN ∧ s.mon.ageSum < (e + 1) * s.mon.ageN ∧
        (s.bg.capNow = true → t.fld F.BGND.AGE_STAT.E_REF = e ∧ t.fld F.FIRE.PULSE_CFG.WIDTH = s.fld F.FIRE.PULSE_CFG.WIDTH) ∧
        (s.bg.capNow = false → t.fld F.BGND.AGE_STAT.E_REF = r ∧
          (up → free → t.fld F.FIRE.PULSE_CFG.WIDTH = (w + 1) % 256 ∧ t.pend .firing = true) ∧
          (dn → free → t.fld F.FIRE.PULSE_CFG.WIDTH = (w - 1) % 256 ∧ t.pend .firing = true) ∧
          (up ∨ dn → taken → t.fld F.BGND.AGE_CNT.SEMBUSY = min (s.fld F.BGND.AGE_CNT.SEMBUSY + 1) 65535 ∧
            t.fld F.FIRE.PULSE_CFG.WIDTH = s.fld F.FIRE.PULSE_CFG.WIDTH ∧ t.net = s.net) ∧
          (¬up → ¬dn → t.fld F.FIRE.PULSE_CFG.WIDTH = s.fld F.FIRE.PULSE_CFG.WIDTH ∧ t.net = s.net)))) ∧
    (∀ a, s.judgeWrite a 0x1000B07 (s.holdWith 0x1000B07 2) = none → Goes (.ageCapture a) s fun t =>
      t = { s with regs := t.regs, hot := t.hot, bg := { s.bg with capNext := true }, reply := some { code := 0, addr := 0x1000B07 } } ∧
      sameOutside [(0x1000B07, 0x1000B07)] s t) ∧
    (∀ z, s.bg.almAt = some z → s.chainPos < 4 → Goes .almanacRecord s fun t =>
      let next := z + (max 1 (s.fld F.BGND.ALM_CFG.IVL) : Nat) * 10 * ms
      let seq := (s.fld F.BGND.ALM_STAT.ASEQ + 1) % 65536
      let ports := [0, 1, 2].filter (fun p => s.linkUp p && s.bit F.LINK.CTRL.EV_EN 2 p)
      (s.now < next → t = s) ∧
      (next ≤ s.now → t.fld F.BGND.ALM_STAT.ASEQ = seq ∧
        t.fld F.BGND.ALM_STAT.UNSENT = (if ports = [] then min (s.fld F.BGND.ALM_STAT.UNSENT + 1) 65535
          else s.fld F.BGND.ALM_STAT.UNSENT) ∧
        t.bg = { s.bg with almAt := some next, fired := 0, skipped := 0, points := 0, discarded := 0, ctxFail := 0, ssFail := 0 } ∧
        t = { s with regs := t.regs, hot := t.hot, net := t.net, bg := t.bg } ∧ sameOutside [(0x1000900, 0x10009BF), (0x1000B0B, 0x1000B0B)] s t ∧
        ∀ p ∈ ports, ∃ g ∈ (t.port p).unacked ++ (t.port p).q0, frType g.words = 0x0A ∧ frRid g.words = 3 ∧
          g.words.length = 13 ∧ g.words.getD 1 0 = s.timeNow ∧ bits (g.words.getD 2 0) 15 0 = seq ∧
          bits (g.words.getD 2 0) 47 16 = s.epoch)) ∧
    (s.bg.almAt = none → Goes .almanacRecord s fun t => t = s)

/-- A step runs the command at the front of the queue on the state with the queue's rest, and on an empty queue one tick passes. (spec/INDEX.md) -/
def Obligations.StepRunsTheFrontCommand : Prop :=
  (∀ (c : Instr) (rest : List Instr) (s : State),
    step { s with pending := c :: rest } = exec c { s with pending := rest }) ∧
  ∀ s : State, s.pending = [] → ∃ t, step s = .next t ∧ t.pending = [] ∧ t.aon = s.aon + 8 ∧
    (s.live = true → t.raw = s.raw + 1 ∧ t.hot = [] ∧
      (s.calm → s.lastTick = false → t = { s with raw := s.raw + 1, aon := s.aon + 8, hot := [] })) ∧
    (s.live = false → t = { s with aon := s.aon + 8 }) ∧
    (s.live = false ∨ s.calm → t.mem = s.mem ∧ t.fire = s.fire ∧ t.net = s.net)

/-- Reset leaves BOOT with every register at the reset value that its field table states, memory at its reset contents and nothing pending. (spec/13_modes_startup.md, Reset; spec/13_modes_startup.md, The eight modes; spec/08_cell_contexts.md, Tile layout and check) -/
def Obligations.ResetLeavesTheSpecsState : Prop :=
  let s := State.reset
  s.wf ∧ s.dev.mode = .boot ∧ s.live = true ∧ s.pending = [] ∧ s.dome.reports = [] ∧ s.fire.parts = [] ∧ s.fire.lsrEn = false ∧
  s.dome.levels = 0 ∧ s.fld F.DEV.CMT_STAT.PEND = 0 ∧ (∀ p, (s.port p).unacked = [] ∧ (s.port p).q0 = [] ∧ (s.port p).q1 = []) ∧
  s.fld F.FIRE.PULSE_CFG.WIDTH = 60 ∧ s.act F.FIRE.PULSE_CFG.WIDTH = 60 ∧ s.fld F.SAFE.SF2_CFG.FRAME_MAX = 500 ∧
  s.fld F.DEV.BOOT_STAT.USED = 3 ∧ s.fld F.SAFE.DEG_CFG.TMAX = 20 ∧ s.flag F.DEV.DBG_CFG.FREEZE_EN = false ∧
  (∀ c < 12, (s.core c).wait = .none ∧ s.fld F.CORE.STAT.STATE c = 0) ∧
  ∀ n < 65536, (∀ w < 47, s.rdMem (tileBase n + w) = if w = 36 ∧ n < 49152 then 0x2000 else 0) ∧ tileOk (s.rdTile n) n = true

/-- Every step from a well-kept state, whatever command waits, ends in a well-kept state: memory canonical and the register tables in order. (spec/17_register_map.md, Address space; spec/08_cell_contexts.md, Tile layout and check; spec/12_scan_programs.md, Commit groups and boundaries) -/
def Obligations.EveryStepKeepsTheState : Prop :=
  ∀ s t : State, s.wf → step s = .next t → t.wf

/-- Every command answers a next state from every state, and leaves the fuses and the commands that wait behind it as they are. (spec/INDEX.md; spec/00_scope.md, Register fields and access; spec/13_modes_startup.md, Reset) -/
def Obligations.EveryCommandGoesOn : Prop :=
  (∀ (c : Instr) (s : State), Goes c s fun t => t.pending = s.pending ∧ t.fuses = s.fuses) ∧
  ∀ (cs : List Instr) (s : State), s.wf → s.pending = cs → s.safeFor cs.length

/-- No command but LSR_EN_RAISE raises LSR_EN, and that one only while every condition of R334 holds. (spec/14_safety.md, Fault reactions; spec/14_safety.md, The Dome; spec/03_firing.md, LSR_EN and the emission gate) -/
def Obligations.LsrEnRisesOnlyByTheDome : Prop :=
  ∀ (c : Instr) (s t : State), exec c s = .next t → t.fire.lsrEn = true →
    s.fire.lsrEn = true ∨ (c = .lsrEnRaise ∧ s.live = true ∧ s.scanning = true ∧ s.flag F.FIRE.EYE_CFG.LOCK = true ∧
      s.contactsOk = true ∧ s.lsrFaultFree = true ∧ s.mirr.feH = false ∧ s.mirr.feV = false)

/-- While a reset holds the device, and in FROZEN, a command of a unit whose clocks have stopped changes nothing. (spec/13_modes_startup.md, Reset; spec/13_modes_startup.md, Freeze) -/
def Obligations.StoppedClocksTakeNoCommand : Prop :=
  ∀ (c : Instr) (s : State), s.live = false → alwaysOn c = false → exec c s = .next s

/-- In SCAN, DEGRADED and HOLDOVER a write that would change an RWL field is refused whole, and one that carries their present values is judged on its other fields. (R404) -/
def Obligations.RwlWritesAreJudgedByTheirValue : Prop :=
  ∀ (s : State) (a : Accessor) (addr : BitVec 25) (v : Word) (blk : Nat), s.live = true → s.scanning = true →
    blockOf addr.toNat = some blk → (∀ c, a = .core c → wrsAllowed c.val blk addr.toNat = true) →
    s.guarded a blk addr.toNat v = false →
    let changes := ∃ p ∈ fldsAt addr.toNat, p.1.acc = .rwl ∧
      v.toNat / 2 ^ p.1.low p.2.2 % p.1.span ≠ (s.hwHeld p.1 p.2.1 p.2.2).getD (s.fld p.1 p.2.1 p.2.2)
    (changes → Goes (.registerWrite a addr v) s fun t => t = { s with reply := some { code := 2, addr := addr.toNat } }) ∧
    (¬changes → Goes (.registerWrite a addr v) s fun t =>
      t = s.answer addr.toNat (s.effectWrite a blk addr.toNat v) ∧ ∃ r, t.reply = some r ∧ r.code ≠ 2 ∧ r.addr = addr.toNat)

/-- A write to a register without an action of its own gives every field there what its access code says, and changes no other field. (spec/00_scope.md, Register fields and access; spec/17_register_map.md, Writes that mix field kinds) -/
def Obligations.RegisterWritesFollowTheAccessCodes : Prop :=
  ∀ (s : State) (a : Accessor) (addr : BitVec 25) (v : Word) (blk : Nat), s.wf → s.live = true →
    blockOf addr.toNat = some blk → writeActs addr.toNat = false → s.judgeWrite a addr.toNat v = none →
    Goes (.registerWrite a addr v) s fun t =>
      t = { s with regs := t.regs, hot := t.hot, reply := some { code := 0, addr := addr.toNat }
                   dev := { s.dev with rwlAt := if s.rwlWrite addr.toNat v then some s.raw else s.dev.rwlAt } } ∧
      (∀ p ∈ fldsAt addr.toNat,
        let n := v.toNat / 2 ^ p.1.low p.2.2 % p.1.span
        let old := s.fld p.1 p.2.1 p.2.2
        let new := t.fld p.1 p.2.1 p.2.2
        match p.1.acc with
        | .rw | .rws => new = n
        | .rwl => new = if s.hwHeld p.1 p.2.1 p.2.2 = some n then old else n
        | .w1c => ∀ k < p.1.hi + 1 - p.1.lo,
            new.testBit k = (old.testBit k && !(n.testBit k && !(s.since p.1 p.2.1 p.2.2).testBit k))
        | .w1s => ∀ k < p.1.hi + 1 - p.1.lo, new.testBit k = (old.testBit k || n.testBit k)
        | .ro | .rc | .wo => new = old) ∧
      sameRegs ((fldsAt addr.toNat).map (fun p => p.1.key p.2.1 p.2.2)) s t
end

