-- ==== Sys2Proof/Laws/State.lean ====
section
/-!
SUPPORT. What each primitive update of the state leaves alone: one lemma per field per update, so that no proof unfolds an
update.
-/
namespace Sys2Proof.Machine

/-! ## State.setFld -/

@[simp] theorem State.setFld_pending (s : State) (F : Fld) (v i j : Nat) : (s.setFld F v i j).pending = s.pending := rfl
@[simp] theorem State.setFld_fuses (s : State) (F : Fld) (v i j : Nat) : (s.setFld F v i j).fuses = s.fuses := rfl
@[simp] theorem State.setFld_hot (s : State) (F : Fld) (v i j : Nat) : (s.setFld F v i j).hot = s.hot := rfl
@[simp] theorem State.setFld_spads (s : State) (F : Fld) (v i j : Nat) : (s.setFld F v i j).spads = s.spads := rfl
@[simp] theorem State.setFld_aon (s : State) (F : Fld) (v i j : Nat) : (s.setFld F v i j).aon = s.aon := rfl
@[simp] theorem State.setFld_raw (s : State) (F : Fld) (v i j : Nat) : (s.setFld F v i j).raw = s.raw := rfl
@[simp] theorem State.setFld_free (s : State) (F : Fld) (v i j : Nat) : (s.setFld F v i j).free = s.free := rfl
@[simp] theorem State.setFld_force (s : State) (F : Fld) (v i j : Nat) : (s.setFld F v i j).force = s.force := rfl
@[simp] theorem State.setFld_mem (s : State) (F : Fld) (v i j : Nat) : (s.setFld F v i j).mem = s.mem := rfl
@[simp] theorem State.setFld_latch (s : State) (F : Fld) (v i j : Nat) : (s.setFld F v i j).latch = s.latch := rfl
@[simp] theorem State.setFld_reply (s : State) (F : Fld) (v i j : Nat) : (s.setFld F v i j).reply = s.reply := rfl
@[simp] theorem State.setFld_clk (s : State) (F : Fld) (v i j : Nat) : (s.setFld F v i j).clk = s.clk := rfl
@[simp] theorem State.setFld_fire (s : State) (F : Fld) (v i j : Nat) : (s.setFld F v i j).fire = s.fire := rfl
@[simp] theorem State.setFld_mon (s : State) (F : Fld) (v i j : Nat) : (s.setFld F v i j).mon = s.mon := rfl
@[simp] theorem State.setFld_mirr (s : State) (F : Fld) (v i j : Nat) : (s.setFld F v i j).mirr = s.mirr := rfl
@[simp] theorem State.setFld_afe (s : State) (F : Fld) (v i j : Nat) : (s.setFld F v i j).afe = s.afe := rfl
@[simp] theorem State.setFld_strips (s : State) (F : Fld) (v i j : Nat) : (s.setFld F v i j).strips = s.strips := rfl
@[simp] theorem State.setFld_wc (s : State) (F : Fld) (v i j : Nat) : (s.setFld F v i j).wc = s.wc := rfl
@[simp] theorem State.setFld_dev (s : State) (F : Fld) (v i j : Nat) : (s.setFld F v i j).dev = s.dev := rfl
@[simp] theorem State.setFld_dome (s : State) (F : Fld) (v i j : Nat) : (s.setFld F v i j).dome = s.dome := rfl
@[simp] theorem State.setFld_cores (s : State) (F : Fld) (v i j : Nat) : (s.setFld F v i j).cores = s.cores := rfl
@[simp] theorem State.setFld_eph (s : State) (F : Fld) (v i j : Nat) : (s.setFld F v i j).eph = s.eph := rfl
@[simp] theorem State.setFld_ephStd (s : State) (F : Fld) (v i j : Nat) : (s.setFld F v i j).ephStd = s.ephStd := rfl
@[simp] theorem State.setFld_out (s : State) (F : Fld) (v i j : Nat) : (s.setFld F v i j).out = s.out := rfl
@[simp] theorem State.setFld_net (s : State) (F : Fld) (v i j : Nat) : (s.setFld F v i j).net = s.net := rfl
@[simp] theorem State.setFld_bg (s : State) (F : Fld) (v i j : Nat) : (s.setFld F v i j).bg = s.bg := rfl
@[simp] theorem State.setFld_tap (s : State) (F : Fld) (v i j : Nat) : (s.setFld F v i j).tap = s.tap := rfl
@[simp] theorem State.setFld_ephTile (s : State) (F : Fld) (v i j : Nat) : (s.setFld F v i j).ephTile = s.ephTile := rfl

/-! ## State.setForce -/

@[simp] theorem State.setForce_pending (s : State) (F : Fld) (v i j : Nat) : (s.setForce F v i j).pending = s.pending := rfl
@[simp] theorem State.setForce_fuses (s : State) (F : Fld) (v i j : Nat) : (s.setForce F v i j).fuses = s.fuses := rfl
@[simp] theorem State.setForce_hot (s : State) (F : Fld) (v i j : Nat) : (s.setForce F v i j).hot = s.hot := rfl
@[simp] theorem State.setForce_spads (s : State) (F : Fld) (v i j : Nat) : (s.setForce F v i j).spads = s.spads := rfl
@[simp] theorem State.setForce_aon (s : State) (F : Fld) (v i j : Nat) : (s.setForce F v i j).aon = s.aon := rfl
@[simp] theorem State.setForce_raw (s : State) (F : Fld) (v i j : Nat) : (s.setForce F v i j).raw = s.raw := rfl
@[simp] theorem State.setForce_free (s : State) (F : Fld) (v i j : Nat) : (s.setForce F v i j).free = s.free := rfl
@[simp] theorem State.setForce_regs (s : State) (F : Fld) (v i j : Nat) : (s.setForce F v i j).regs = s.regs := rfl
@[simp] theorem State.setForce_mem (s : State) (F : Fld) (v i j : Nat) : (s.setForce F v i j).mem = s.mem := rfl
@[simp] theorem State.setForce_latch (s : State) (F : Fld) (v i j : Nat) : (s.setForce F v i j).latch = s.latch := rfl
@[simp] theorem State.setForce_reply (s : State) (F : Fld) (v i j : Nat) : (s.setForce F v i j).reply = s.reply := rfl
@[simp] theorem State.setForce_clk (s : State) (F : Fld) (v i j : Nat) : (s.setForce F v i j).clk = s.clk := rfl
@[simp] theorem State.setForce_fire (s : State) (F : Fld) (v i j : Nat) : (s.setForce F v i j).fire = s.fire := rfl
@[simp] theorem State.setForce_mon (s : State) (F : Fld) (v i j : Nat) : (s.setForce F v i j).mon = s.mon := rfl
@[simp] theorem State.setForce_mirr (s : State) (F : Fld) (v i j : Nat) : (s.setForce F v i j).mirr = s.mirr := rfl
@[simp] theorem State.setForce_afe (s : State) (F : Fld) (v i j : Nat) : (s.setForce F v i j).afe = s.afe := rfl
@[simp] theorem State.setForce_strips (s : State) (F : Fld) (v i j : Nat) : (s.setForce F v i j).strips = s.strips := rfl
@[simp] theorem State.setForce_wc (s : State) (F : Fld) (v i j : Nat) : (s.setForce F v i j).wc = s.wc := rfl
@[simp] theorem State.setForce_dev (s : State) (F : Fld) (v i j : Nat) : (s.setForce F v i j).dev = s.dev := rfl
@[simp] theorem State.setForce_dome (s : State) (F : Fld) (v i j : Nat) : (s.setForce F v i j).dome = s.dome := rfl
@[simp] theorem State.setForce_cores (s : State) (F : Fld) (v i j : Nat) : (s.setForce F v i j).cores = s.cores := rfl
@[simp] theorem State.setForce_eph (s : State) (F : Fld) (v i j : Nat) : (s.setForce F v i j).eph = s.eph := rfl
@[simp] theorem State.setForce_ephStd (s : State) (F : Fld) (v i j : Nat) : (s.setForce F v i j).ephStd = s.ephStd := rfl
@[simp] theorem State.setForce_out (s : State) (F : Fld) (v i j : Nat) : (s.setForce F v i j).out = s.out := rfl
@[simp] theorem State.setForce_net (s : State) (F : Fld) (v i j : Nat) : (s.setForce F v i j).net = s.net := rfl
@[simp] theorem State.setForce_bg (s : State) (F : Fld) (v i j : Nat) : (s.setForce F v i j).bg = s.bg := rfl
@[simp] theorem State.setForce_tap (s : State) (F : Fld) (v i j : Nat) : (s.setForce F v i j).tap = s.tap := rfl
@[simp] theorem State.setForce_ephTile (s : State) (F : Fld) (v i j : Nat) : (s.setForce F v i j).ephTile = s.ephTile := rfl

/-! ## State.wrMem -/

@[simp] theorem State.wrMem_pending (s : State) (a : Nat) (v : Word) : (s.wrMem a v).pending = s.pending := rfl
@[simp] theorem State.wrMem_fuses (s : State) (a : Nat) (v : Word) : (s.wrMem a v).fuses = s.fuses := rfl
@[simp] theorem State.wrMem_hot (s : State) (a : Nat) (v : Word) : (s.wrMem a v).hot = s.hot := rfl
@[simp] theorem State.wrMem_spads (s : State) (a : Nat) (v : Word) : (s.wrMem a v).spads = s.spads := rfl
@[simp] theorem State.wrMem_aon (s : State) (a : Nat) (v : Word) : (s.wrMem a v).aon = s.aon := rfl
@[simp] theorem State.wrMem_raw (s : State) (a : Nat) (v : Word) : (s.wrMem a v).raw = s.raw := rfl
@[simp] theorem State.wrMem_free (s : State) (a : Nat) (v : Word) : (s.wrMem a v).free = s.free := rfl
@[simp] theorem State.wrMem_regs (s : State) (a : Nat) (v : Word) : (s.wrMem a v).regs = s.regs := rfl
@[simp] theorem State.wrMem_force (s : State) (a : Nat) (v : Word) : (s.wrMem a v).force = s.force := rfl
@[simp] theorem State.wrMem_latch (s : State) (a : Nat) (v : Word) : (s.wrMem a v).latch = s.latch := rfl
@[simp] theorem State.wrMem_reply (s : State) (a : Nat) (v : Word) : (s.wrMem a v).reply = s.reply := rfl
@[simp] theorem State.wrMem_clk (s : State) (a : Nat) (v : Word) : (s.wrMem a v).clk = s.clk := rfl
@[simp] theorem State.wrMem_fire (s : State) (a : Nat) (v : Word) : (s.wrMem a v).fire = s.fire := rfl
@[simp] theorem State.wrMem_mon (s : State) (a : Nat) (v : Word) : (s.wrMem a v).mon = s.mon := rfl
@[simp] theorem State.wrMem_mirr (s : State) (a : Nat) (v : Word) : (s.wrMem a v).mirr = s.mirr := rfl
@[simp] theorem State.wrMem_afe (s : State) (a : Nat) (v : Word) : (s.wrMem a v).afe = s.afe := rfl
@[simp] theorem State.wrMem_strips (s : State) (a : Nat) (v : Word) : (s.wrMem a v).strips = s.strips := rfl
@[simp] theorem State.wrMem_wc (s : State) (a : Nat) (v : Word) : (s.wrMem a v).wc = s.wc := rfl
@[simp] theorem State.wrMem_dev (s : State) (a : Nat) (v : Word) : (s.wrMem a v).dev = s.dev := rfl
@[simp] theorem State.wrMem_dome (s : State) (a : Nat) (v : Word) : (s.wrMem a v).dome = s.dome := rfl
@[simp] theorem State.wrMem_cores (s : State) (a : Nat) (v : Word) : (s.wrMem a v).cores = s.cores := rfl
@[simp] theorem State.wrMem_eph (s : State) (a : Nat) (v : Word) : (s.wrMem a v).eph = s.eph := rfl
@[simp] theorem State.wrMem_ephStd (s : State) (a : Nat) (v : Word) : (s.wrMem a v).ephStd = s.ephStd := rfl
@[simp] theorem State.wrMem_out (s : State) (a : Nat) (v : Word) : (s.wrMem a v).out = s.out := rfl
@[simp] theorem State.wrMem_net (s : State) (a : Nat) (v : Word) : (s.wrMem a v).net = s.net := rfl
@[simp] theorem State.wrMem_bg (s : State) (a : Nat) (v : Word) : (s.wrMem a v).bg = s.bg := rfl
@[simp] theorem State.wrMem_tap (s : State) (a : Nat) (v : Word) : (s.wrMem a v).tap = s.tap := rfl
@[simp] theorem State.wrMem_ephTile (s : State) (a : Nat) (v : Word) : (s.wrMem a v).ephTile = s.ephTile := rfl

/-! ## State.setStrip -/

@[simp] theorem State.setStrip_pending (s : State) (d : Nat) (x : Strip) : (s.setStrip d x).pending = s.pending := rfl
@[simp] theorem State.setStrip_fuses (s : State) (d : Nat) (x : Strip) : (s.setStrip d x).fuses = s.fuses := rfl
@[simp] theorem State.setStrip_hot (s : State) (d : Nat) (x : Strip) : (s.setStrip d x).hot = s.hot := rfl
@[simp] theorem State.setStrip_spads (s : State) (d : Nat) (x : Strip) : (s.setStrip d x).spads = s.spads := rfl
@[simp] theorem State.setStrip_aon (s : State) (d : Nat) (x : Strip) : (s.setStrip d x).aon = s.aon := rfl
@[simp] theorem State.setStrip_raw (s : State) (d : Nat) (x : Strip) : (s.setStrip d x).raw = s.raw := rfl
@[simp] theorem State.setStrip_free (s : State) (d : Nat) (x : Strip) : (s.setStrip d x).free = s.free := rfl
@[simp] theorem State.setStrip_regs (s : State) (d : Nat) (x : Strip) : (s.setStrip d x).regs = s.regs := rfl
@[simp] theorem State.setStrip_force (s : State) (d : Nat) (x : Strip) : (s.setStrip d x).force = s.force := rfl
@[simp] theorem State.setStrip_mem (s : State) (d : Nat) (x : Strip) : (s.setStrip d x).mem = s.mem := rfl
@[simp] theorem State.setStrip_latch (s : State) (d : Nat) (x : Strip) : (s.setStrip d x).latch = s.latch := rfl
@[simp] theorem State.setStrip_reply (s : State) (d : Nat) (x : Strip) : (s.setStrip d x).reply = s.reply := rfl
@[simp] theorem State.setStrip_clk (s : State) (d : Nat) (x : Strip) : (s.setStrip d x).clk = s.clk := rfl
@[simp] theorem State.setStrip_fire (s : State) (d : Nat) (x : Strip) : (s.setStrip d x).fire = s.fire := rfl
@[simp] theorem State.setStrip_mon (s : State) (d : Nat) (x : Strip) : (s.setStrip d x).mon = s.mon := rfl
@[simp] theorem State.setStrip_mirr (s : State) (d : Nat) (x : Strip) : (s.setStrip d x).mirr = s.mirr := rfl
@[simp] theorem State.setStrip_afe (s : State) (d : Nat) (x : Strip) : (s.setStrip d x).afe = s.afe := rfl
@[simp] theorem State.setStrip_wc (s : State) (d : Nat) (x : Strip) : (s.setStrip d x).wc = s.wc := rfl
@[simp] theorem State.setStrip_dev (s : State) (d : Nat) (x : Strip) : (s.setStrip d x).dev = s.dev := rfl
@[simp] theorem State.setStrip_dome (s : State) (d : Nat) (x : Strip) : (s.setStrip d x).dome = s.dome := rfl
@[simp] theorem State.setStrip_cores (s : State) (d : Nat) (x : Strip) : (s.setStrip d x).cores = s.cores := rfl
@[simp] theorem State.setStrip_eph (s : State) (d : Nat) (x : Strip) : (s.setStrip d x).eph = s.eph := rfl
@[simp] theorem State.setStrip_ephStd (s : State) (d : Nat) (x : Strip) : (s.setStrip d x).ephStd = s.ephStd := rfl
@[simp] theorem State.setStrip_out (s : State) (d : Nat) (x : Strip) : (s.setStrip d x).out = s.out := rfl
@[simp] theorem State.setStrip_net (s : State) (d : Nat) (x : Strip) : (s.setStrip d x).net = s.net := rfl
@[simp] theorem State.setStrip_bg (s : State) (d : Nat) (x : Strip) : (s.setStrip d x).bg = s.bg := rfl
@[simp] theorem State.setStrip_tap (s : State) (d : Nat) (x : Strip) : (s.setStrip d x).tap = s.tap := rfl
@[simp] theorem State.setStrip_ephTile (s : State) (d : Nat) (x : Strip) : (s.setStrip d x).ephTile = s.ephTile := rfl

/-! ## State.setCore -/

@[simp] theorem State.setCore_pending (s : State) (c : Nat) (x : Core) : (s.setCore c x).pending = s.pending := rfl
@[simp] theorem State.setCore_fuses (s : State) (c : Nat) (x : Core) : (s.setCore c x).fuses = s.fuses := rfl
@[simp] theorem State.setCore_hot (s : State) (c : Nat) (x : Core) : (s.setCore c x).hot = s.hot := rfl
@[simp] theorem State.setCore_spads (s : State) (c : Nat) (x : Core) : (s.setCore c x).spads = s.spads := rfl
@[simp] theorem State.setCore_aon (s : State) (c : Nat) (x : Core) : (s.setCore c x).aon = s.aon := rfl
@[simp] theorem State.setCore_raw (s : State) (c : Nat) (x : Core) : (s.setCore c x).raw = s.raw := rfl
@[simp] theorem State.setCore_free (s : State) (c : Nat) (x : Core) : (s.setCore c x).free = s.free := rfl
@[simp] theorem State.setCore_regs (s : State) (c : Nat) (x : Core) : (s.setCore c x).regs = s.regs := rfl
@[simp] theorem State.setCore_force (s : State) (c : Nat) (x : Core) : (s.setCore c x).force = s.force := rfl
@[simp] theorem State.setCore_mem (s : State) (c : Nat) (x : Core) : (s.setCore c x).mem = s.mem := rfl
@[simp] theorem State.setCore_latch (s : State) (c : Nat) (x : Core) : (s.setCore c x).latch = s.latch := rfl
@[simp] theorem State.setCore_reply (s : State) (c : Nat) (x : Core) : (s.setCore c x).reply = s.reply := rfl
@[simp] theorem State.setCore_clk (s : State) (c : Nat) (x : Core) : (s.setCore c x).clk = s.clk := rfl
@[simp] theorem State.setCore_fire (s : State) (c : Nat) (x : Core) : (s.setCore c x).fire = s.fire := rfl
@[simp] theorem State.setCore_mon (s : State) (c : Nat) (x : Core) : (s.setCore c x).mon = s.mon := rfl
@[simp] theorem State.setCore_mirr (s : State) (c : Nat) (x : Core) : (s.setCore c x).mirr = s.mirr := rfl
@[simp] theorem State.setCore_afe (s : State) (c : Nat) (x : Core) : (s.setCore c x).afe = s.afe := rfl
@[simp] theorem State.setCore_strips (s : State) (c : Nat) (x : Core) : (s.setCore c x).strips = s.strips := rfl
@[simp] theorem State.setCore_wc (s : State) (c : Nat) (x : Core) : (s.setCore c x).wc = s.wc := rfl
@[simp] theorem State.setCore_dev (s : State) (c : Nat) (x : Core) : (s.setCore c x).dev = s.dev := rfl
@[simp] theorem State.setCore_dome (s : State) (c : Nat) (x : Core) : (s.setCore c x).dome = s.dome := rfl
@[simp] theorem State.setCore_eph (s : State) (c : Nat) (x : Core) : (s.setCore c x).eph = s.eph := rfl
@[simp] theorem State.setCore_ephStd (s : State) (c : Nat) (x : Core) : (s.setCore c x).ephStd = s.ephStd := rfl
@[simp] theorem State.setCore_out (s : State) (c : Nat) (x : Core) : (s.setCore c x).out = s.out := rfl
@[simp] theorem State.setCore_net (s : State) (c : Nat) (x : Core) : (s.setCore c x).net = s.net := rfl
@[simp] theorem State.setCore_bg (s : State) (c : Nat) (x : Core) : (s.setCore c x).bg = s.bg := rfl
@[simp] theorem State.setCore_tap (s : State) (c : Nat) (x : Core) : (s.setCore c x).tap = s.tap := rfl
@[simp] theorem State.setCore_ephTile (s : State) (c : Nat) (x : Core) : (s.setCore c x).ephTile = s.ephTile := rfl

/-! ## State.setBridge -/

@[simp] theorem State.setBridge_pending (s : State) (n : Nat) (x : Bridge) : (s.setBridge n x).pending = s.pending := rfl
@[simp] theorem State.setBridge_fuses (s : State) (n : Nat) (x : Bridge) : (s.setBridge n x).fuses = s.fuses := rfl
@[simp] theorem State.setBridge_hot (s : State) (n : Nat) (x : Bridge) : (s.setBridge n x).hot = s.hot := rfl
@[simp] theorem State.setBridge_spads (s : State) (n : Nat) (x : Bridge) : (s.setBridge n x).spads = s.spads := rfl
@[simp] theorem State.setBridge_aon (s : State) (n : Nat) (x : Bridge) : (s.setBridge n x).aon = s.aon := rfl
@[simp] theorem State.setBridge_raw (s : State) (n : Nat) (x : Bridge) : (s.setBridge n x).raw = s.raw := rfl
@[simp] theorem State.setBridge_free (s : State) (n : Nat) (x : Bridge) : (s.setBridge n x).free = s.free := rfl
@[simp] theorem State.setBridge_regs (s : State) (n : Nat) (x : Bridge) : (s.setBridge n x).regs = s.regs := rfl
@[simp] theorem State.setBridge_force (s : State) (n : Nat) (x : Bridge) : (s.setBridge n x).force = s.force := rfl
@[simp] theorem State.setBridge_mem (s : State) (n : Nat) (x : Bridge) : (s.setBridge n x).mem = s.mem := rfl
@[simp] theorem State.setBridge_latch (s : State) (n : Nat) (x : Bridge) : (s.setBridge n x).latch = s.latch := rfl
@[simp] theorem State.setBridge_reply (s : State) (n : Nat) (x : Bridge) : (s.setBridge n x).reply = s.reply := rfl
@[simp] theorem State.setBridge_clk (s : State) (n : Nat) (x : Bridge) : (s.setBridge n x).clk = s.clk := rfl
@[simp] theorem State.setBridge_fire (s : State) (n : Nat) (x : Bridge) : (s.setBridge n x).fire = s.fire := rfl
@[simp] theorem State.setBridge_mon (s : State) (n : Nat) (x : Bridge) : (s.setBridge n x).mon = s.mon := rfl
@[simp] theorem State.setBridge_mirr (s : State) (n : Nat) (x : Bridge) : (s.setBridge n x).mirr = s.mirr := rfl
@[simp] theorem State.setBridge_strips (s : State) (n : Nat) (x : Bridge) : (s.setBridge n x).strips = s.strips := rfl
@[simp] theorem State.setBridge_wc (s : State) (n : Nat) (x : Bridge) : (s.setBridge n x).wc = s.wc := rfl
@[simp] theorem State.setBridge_dev (s : State) (n : Nat) (x : Bridge) : (s.setBridge n x).dev = s.dev := rfl
@[simp] theorem State.setBridge_dome (s : State) (n : Nat) (x : Bridge) : (s.setBridge n x).dome = s.dome := rfl
@[simp] theorem State.setBridge_cores (s : State) (n : Nat) (x : Bridge) : (s.setBridge n x).cores = s.cores := rfl
@[simp] theorem State.setBridge_eph (s : State) (n : Nat) (x : Bridge) : (s.setBridge n x).eph = s.eph := rfl
@[simp] theorem State.setBridge_ephStd (s : State) (n : Nat) (x : Bridge) : (s.setBridge n x).ephStd = s.ephStd := rfl
@[simp] theorem State.setBridge_out (s : State) (n : Nat) (x : Bridge) : (s.setBridge n x).out = s.out := rfl
@[simp] theorem State.setBridge_net (s : State) (n : Nat) (x : Bridge) : (s.setBridge n x).net = s.net := rfl
@[simp] theorem State.setBridge_bg (s : State) (n : Nat) (x : Bridge) : (s.setBridge n x).bg = s.bg := rfl
@[simp] theorem State.setBridge_tap (s : State) (n : Nat) (x : Bridge) : (s.setBridge n x).tap = s.tap := rfl
@[simp] theorem State.setBridge_ephTile (s : State) (n : Nat) (x : Bridge) : (s.setBridge n x).ephTile = s.ephTile := rfl

/-! ## State.setRail -/

@[simp] theorem State.setRail_pending (s : State) (n : Nat) (x : Rail) : (s.setRail n x).pending = s.pending := rfl
@[simp] theorem State.setRail_fuses (s : State) (n : Nat) (x : Rail) : (s.setRail n x).fuses = s.fuses := rfl
@[simp] theorem State.setRail_hot (s : State) (n : Nat) (x : Rail) : (s.setRail n x).hot = s.hot := rfl
@[simp] theorem State.setRail_spads (s : State) (n : Nat) (x : Rail) : (s.setRail n x).spads = s.spads := rfl
@[simp] theorem State.setRail_aon (s : State) (n : Nat) (x : Rail) : (s.setRail n x).aon = s.aon := rfl
@[simp] theorem State.setRail_raw (s : State) (n : Nat) (x : Rail) : (s.setRail n x).raw = s.raw := rfl
@[simp] theorem State.setRail_free (s : State) (n : Nat) (x : Rail) : (s.setRail n x).free = s.free := rfl
@[simp] theorem State.setRail_regs (s : State) (n : Nat) (x : Rail) : (s.setRail n x).regs = s.regs := rfl
@[simp] theorem State.setRail_force (s : State) (n : Nat) (x : Rail) : (s.setRail n x).force = s.force := rfl
@[simp] theorem State.setRail_mem (s : State) (n : Nat) (x : Rail) : (s.setRail n x).mem = s.mem := rfl
@[simp] theorem State.setRail_latch (s : State) (n : Nat) (x : Rail) : (s.setRail n x).latch = s.latch := rfl
@[simp] theorem State.setRail_reply (s : State) (n : Nat) (x : Rail) : (s.setRail n x).reply = s.reply := rfl
@[simp] theorem State.setRail_clk (s : State) (n : Nat) (x : Rail) : (s.setRail n x).clk = s.clk := rfl
@[simp] theorem State.setRail_fire (s : State) (n : Nat) (x : Rail) : (s.setRail n x).fire = s.fire := rfl
@[simp] theorem State.setRail_mon (s : State) (n : Nat) (x : Rail) : (s.setRail n x).mon = s.mon := rfl
@[simp] theorem State.setRail_mirr (s : State) (n : Nat) (x : Rail) : (s.setRail n x).mirr = s.mirr := rfl
@[simp] theorem State.setRail_afe (s : State) (n : Nat) (x : Rail) : (s.setRail n x).afe = s.afe := rfl
@[simp] theorem State.setRail_strips (s : State) (n : Nat) (x : Rail) : (s.setRail n x).strips = s.strips := rfl
@[simp] theorem State.setRail_wc (s : State) (n : Nat) (x : Rail) : (s.setRail n x).wc = s.wc := rfl
@[simp] theorem State.setRail_dome (s : State) (n : Nat) (x : Rail) : (s.setRail n x).dome = s.dome := rfl
@[simp] theorem State.setRail_cores (s : State) (n : Nat) (x : Rail) : (s.setRail n x).cores = s.cores := rfl
@[simp] theorem State.setRail_eph (s : State) (n : Nat) (x : Rail) : (s.setRail n x).eph = s.eph := rfl
@[simp] theorem State.setRail_ephStd (s : State) (n : Nat) (x : Rail) : (s.setRail n x).ephStd = s.ephStd := rfl
@[simp] theorem State.setRail_out (s : State) (n : Nat) (x : Rail) : (s.setRail n x).out = s.out := rfl
@[simp] theorem State.setRail_net (s : State) (n : Nat) (x : Rail) : (s.setRail n x).net = s.net := rfl
@[simp] theorem State.setRail_bg (s : State) (n : Nat) (x : Rail) : (s.setRail n x).bg = s.bg := rfl
@[simp] theorem State.setRail_tap (s : State) (n : Nat) (x : Rail) : (s.setRail n x).tap = s.tap := rfl
@[simp] theorem State.setRail_ephTile (s : State) (n : Nat) (x : Rail) : (s.setRail n x).ephTile = s.ephTile := rfl

/-! ## State.updBg -/

@[simp] theorem State.updBg_pending (s : State) (f : Bg → Bg) : (s.updBg f).pending = s.pending := rfl
@[simp] theorem State.updBg_fuses (s : State) (f : Bg → Bg) : (s.updBg f).fuses = s.fuses := rfl
@[simp] theorem State.updBg_hot (s : State) (f : Bg → Bg) : (s.updBg f).hot = s.hot := rfl
@[simp] theorem State.updBg_spads (s : State) (f : Bg → Bg) : (s.updBg f).spads = s.spads := rfl
@[simp] theorem State.updBg_aon (s : State) (f : Bg → Bg) : (s.updBg f).aon = s.aon := rfl
@[simp] theorem State.updBg_raw (s : State) (f : Bg → Bg) : (s.updBg f).raw = s.raw := rfl
@[simp] theorem State.updBg_free (s : State) (f : Bg → Bg) : (s.updBg f).free = s.free := rfl
@[simp] theorem State.updBg_regs (s : State) (f : Bg → Bg) : (s.updBg f).regs = s.regs := rfl
@[simp] theorem State.updBg_force (s : State) (f : Bg → Bg) : (s.updBg f).force = s.force := rfl
@[simp] theorem State.updBg_mem (s : State) (f : Bg → Bg) : (s.updBg f).mem = s.mem := rfl
@[simp] theorem State.updBg_latch (s : State) (f : Bg → Bg) : (s.updBg f).latch = s.latch := rfl
@[simp] theorem State.updBg_reply (s : State) (f : Bg → Bg) : (s.updBg f).reply = s.reply := rfl
@[simp] theorem State.updBg_clk (s : State) (f : Bg → Bg) : (s.updBg f).clk = s.clk := rfl
@[simp] theorem State.updBg_fire (s : State) (f : Bg → Bg) : (s.updBg f).fire = s.fire := rfl
@[simp] theorem State.updBg_mon (s : State) (f : Bg → Bg) : (s.updBg f).mon = s.mon := rfl
@[simp] theorem State.updBg_mirr (s : State) (f : Bg → Bg) : (s.updBg f).mirr = s.mirr := rfl
@[simp] theorem State.updBg_afe (s : State) (f : Bg → Bg) : (s.updBg f).afe = s.afe := rfl
@[simp] theorem State.updBg_strips (s : State) (f : Bg → Bg) : (s.updBg f).strips = s.strips := rfl
@[simp] theorem State.updBg_wc (s : State) (f : Bg → Bg) : (s.updBg f).wc = s.wc := rfl
@[simp] theorem State.updBg_dev (s : State) (f : Bg → Bg) : (s.updBg f).dev = s.dev := rfl
@[simp] theorem State.updBg_dome (s : State) (f : Bg → Bg) : (s.updBg f).dome = s.dome := rfl
@[simp] theorem State.updBg_cores (s : State) (f : Bg → Bg) : (s.updBg f).cores = s.cores := rfl
@[simp] theorem State.updBg_eph (s : State) (f : Bg → Bg) : (s.updBg f).eph = s.eph := rfl
@[simp] theorem State.updBg_ephStd (s : State) (f : Bg → Bg) : (s.updBg f).ephStd = s.ephStd := rfl
@[simp] theorem State.updBg_out (s : State) (f : Bg → Bg) : (s.updBg f).out = s.out := rfl
@[simp] theorem State.updBg_net (s : State) (f : Bg → Bg) : (s.updBg f).net = s.net := rfl
@[simp] theorem State.updBg_tap (s : State) (f : Bg → Bg) : (s.updBg f).tap = s.tap := rfl
@[simp] theorem State.updBg_ephTile (s : State) (f : Bg → Bg) : (s.updBg f).ephTile = s.ephTile := rfl

/-! ## State.setLatch -/

@[simp] theorem State.setLatch_pending (s : State) (a : Accessor) (k : Nat) (v : Word) : (s.setLatch a k v).pending = s.pending := rfl
@[simp] theorem State.setLatch_fuses (s : State) (a : Accessor) (k : Nat) (v : Word) : (s.setLatch a k v).fuses = s.fuses := rfl
@[simp] theorem State.setLatch_hot (s : State) (a : Accessor) (k : Nat) (v : Word) : (s.setLatch a k v).hot = s.hot := rfl
@[simp] theorem State.setLatch_spads (s : State) (a : Accessor) (k : Nat) (v : Word) : (s.setLatch a k v).spads = s.spads := rfl
@[simp] theorem State.setLatch_aon (s : State) (a : Accessor) (k : Nat) (v : Word) : (s.setLatch a k v).aon = s.aon := rfl
@[simp] theorem State.setLatch_raw (s : State) (a : Accessor) (k : Nat) (v : Word) : (s.setLatch a k v).raw = s.raw := rfl
@[simp] theorem State.setLatch_free (s : State) (a : Accessor) (k : Nat) (v : Word) : (s.setLatch a k v).free = s.free := rfl
@[simp] theorem State.setLatch_regs (s : State) (a : Accessor) (k : Nat) (v : Word) : (s.setLatch a k v).regs = s.regs := rfl
@[simp] theorem State.setLatch_force (s : State) (a : Accessor) (k : Nat) (v : Word) : (s.setLatch a k v).force = s.force := rfl
@[simp] theorem State.setLatch_mem (s : State) (a : Accessor) (k : Nat) (v : Word) : (s.setLatch a k v).mem = s.mem := rfl
@[simp] theorem State.setLatch_reply (s : State) (a : Accessor) (k : Nat) (v : Word) : (s.setLatch a k v).reply = s.reply := rfl
@[simp] theorem State.setLatch_clk (s : State) (a : Accessor) (k : Nat) (v : Word) : (s.setLatch a k v).clk = s.clk := rfl
@[simp] theorem State.setLatch_fire (s : State) (a : Accessor) (k : Nat) (v : Word) : (s.setLatch a k v).fire = s.fire := rfl
@[simp] theorem State.setLatch_mon (s : State) (a : Accessor) (k : Nat) (v : Word) : (s.setLatch a k v).mon = s.mon := rfl
@[simp] theorem State.setLatch_mirr (s : State) (a : Accessor) (k : Nat) (v : Word) : (s.setLatch a k v).mirr = s.mirr := rfl
@[simp] theorem State.setLatch_afe (s : State) (a : Accessor) (k : Nat) (v : Word) : (s.setLatch a k v).afe = s.afe := rfl
@[simp] theorem State.setLatch_strips (s : State) (a : Accessor) (k : Nat) (v : Word) : (s.setLatch a k v).strips = s.strips := rfl
@[simp] theorem State.setLatch_wc (s : State) (a : Accessor) (k : Nat) (v : Word) : (s.setLatch a k v).wc = s.wc := rfl
@[simp] theorem State.setLatch_dev (s : State) (a : Accessor) (k : Nat) (v : Word) : (s.setLatch a k v).dev = s.dev := rfl
@[simp] theorem State.setLatch_dome (s : State) (a : Accessor) (k : Nat) (v : Word) : (s.setLatch a k v).dome = s.dome := rfl
@[simp] theorem State.setLatch_cores (s : State) (a : Accessor) (k : Nat) (v : Word) : (s.setLatch a k v).cores = s.cores := rfl
@[simp] theorem State.setLatch_eph (s : State) (a : Accessor) (k : Nat) (v : Word) : (s.setLatch a k v).eph = s.eph := rfl
@[simp] theorem State.setLatch_ephStd (s : State) (a : Accessor) (k : Nat) (v : Word) : (s.setLatch a k v).ephStd = s.ephStd := rfl
@[simp] theorem State.setLatch_out (s : State) (a : Accessor) (k : Nat) (v : Word) : (s.setLatch a k v).out = s.out := rfl
@[simp] theorem State.setLatch_net (s : State) (a : Accessor) (k : Nat) (v : Word) : (s.setLatch a k v).net = s.net := rfl
@[simp] theorem State.setLatch_bg (s : State) (a : Accessor) (k : Nat) (v : Word) : (s.setLatch a k v).bg = s.bg := rfl
@[simp] theorem State.setLatch_tap (s : State) (a : Accessor) (k : Nat) (v : Word) : (s.setLatch a k v).tap = s.tap := rfl
@[simp] theorem State.setLatch_ephTile (s : State) (a : Accessor) (k : Nat) (v : Word) : (s.setLatch a k v).ephTile = s.ephTile := rfl

/-! ## State.answerRead -/

@[simp] theorem State.answerRead_pending (s : State) (a : Nat) (v : Word) : (s.answerRead a v).pending = s.pending := rfl
@[simp] theorem State.answerRead_fuses (s : State) (a : Nat) (v : Word) : (s.answerRead a v).fuses = s.fuses := rfl
@[simp] theorem State.answerRead_hot (s : State) (a : Nat) (v : Word) : (s.answerRead a v).hot = s.hot := rfl
@[simp] theorem State.answerRead_spads (s : State) (a : Nat) (v : Word) : (s.answerRead a v).spads = s.spads := rfl
@[simp] theorem State.answerRead_aon (s : State) (a : Nat) (v : Word) : (s.answerRead a v).aon = s.aon := rfl
@[simp] theorem State.answerRead_raw (s : State) (a : Nat) (v : Word) : (s.answerRead a v).raw = s.raw := rfl
@[simp] theorem State.answerRead_free (s : State) (a : Nat) (v : Word) : (s.answerRead a v).free = s.free := rfl
@[simp] theorem State.answerRead_regs (s : State) (a : Nat) (v : Word) : (s.answerRead a v).regs = s.regs := rfl
@[simp] theorem State.answerRead_force (s : State) (a : Nat) (v : Word) : (s.answerRead a v).force = s.force := rfl
@[simp] theorem State.answerRead_mem (s : State) (a : Nat) (v : Word) : (s.answerRead a v).mem = s.mem := rfl
@[simp] theorem State.answerRead_latch (s : State) (a : Nat) (v : Word) : (s.answerRead a v).latch = s.latch := rfl
@[simp] theorem State.answerRead_clk (s : State) (a : Nat) (v : Word) : (s.answerRead a v).clk = s.clk := rfl
@[simp] theorem State.answerRead_fire (s : State) (a : Nat) (v : Word) : (s.answerRead a v).fire = s.fire := rfl
@[simp] theorem State.answerRead_mon (s : State) (a : Nat) (v : Word) : (s.answerRead a v).mon = s.mon := rfl
@[simp] theorem State.answerRead_mirr (s : State) (a : Nat) (v : Word) : (s.answerRead a v).mirr = s.mirr := rfl
@[simp] theorem State.answerRead_afe (s : State) (a : Nat) (v : Word) : (s.answerRead a v).afe = s.afe := rfl
@[simp] theorem State.answerRead_strips (s : State) (a : Nat) (v : Word) : (s.answerRead a v).strips = s.strips := rfl
@[simp] theorem State.answerRead_wc (s : State) (a : Nat) (v : Word) : (s.answerRead a v).wc = s.wc := rfl
@[simp] theorem State.answerRead_dev (s : State) (a : Nat) (v : Word) : (s.answerRead a v).dev = s.dev := rfl
@[simp] theorem State.answerRead_dome (s : State) (a : Nat) (v : Word) : (s.answerRead a v).dome = s.dome := rfl
@[simp] theorem State.answerRead_cores (s : State) (a : Nat) (v : Word) : (s.answerRead a v).cores = s.cores := rfl
@[simp] theorem State.answerRead_eph (s : State) (a : Nat) (v : Word) : (s.answerRead a v).eph = s.eph := rfl
@[simp] theorem State.answerRead_ephStd (s : State) (a : Nat) (v : Word) : (s.answerRead a v).ephStd = s.ephStd := rfl
@[simp] theorem State.answerRead_out (s : State) (a : Nat) (v : Word) : (s.answerRead a v).out = s.out := rfl
@[simp] theorem State.answerRead_net (s : State) (a : Nat) (v : Word) : (s.answerRead a v).net = s.net := rfl
@[simp] theorem State.answerRead_bg (s : State) (a : Nat) (v : Word) : (s.answerRead a v).bg = s.bg := rfl
@[simp] theorem State.answerRead_tap (s : State) (a : Nat) (v : Word) : (s.answerRead a v).tap = s.tap := rfl
@[simp] theorem State.answerRead_ephTile (s : State) (a : Nat) (v : Word) : (s.answerRead a v).ephTile = s.ephTile := rfl

/-! ## State.dropLsr -/

@[simp] theorem State.dropLsr_pending (s : State) : (s.dropLsr).pending = s.pending := rfl
@[simp] theorem State.dropLsr_fuses (s : State) : (s.dropLsr).fuses = s.fuses := rfl
@[simp] theorem State.dropLsr_hot (s : State) : (s.dropLsr).hot = s.hot := rfl
@[simp] theorem State.dropLsr_spads (s : State) : (s.dropLsr).spads = s.spads := rfl
@[simp] theorem State.dropLsr_aon (s : State) : (s.dropLsr).aon = s.aon := rfl
@[simp] theorem State.dropLsr_raw (s : State) : (s.dropLsr).raw = s.raw := rfl
@[simp] theorem State.dropLsr_free (s : State) : (s.dropLsr).free = s.free := rfl
@[simp] theorem State.dropLsr_regs (s : State) : (s.dropLsr).regs = s.regs := rfl
@[simp] theorem State.dropLsr_force (s : State) : (s.dropLsr).force = s.force := rfl
@[simp] theorem State.dropLsr_mem (s : State) : (s.dropLsr).mem = s.mem := rfl
@[simp] theorem State.dropLsr_latch (s : State) : (s.dropLsr).latch = s.latch := rfl
@[simp] theorem State.dropLsr_reply (s : State) : (s.dropLsr).reply = s.reply := rfl
@[simp] theorem State.dropLsr_clk (s : State) : (s.dropLsr).clk = s.clk := rfl
@[simp] theorem State.dropLsr_mon (s : State) : (s.dropLsr).mon = s.mon := rfl
@[simp] theorem State.dropLsr_mirr (s : State) : (s.dropLsr).mirr = s.mirr := rfl
@[simp] theorem State.dropLsr_afe (s : State) : (s.dropLsr).afe = s.afe := rfl
@[simp] theorem State.dropLsr_strips (s : State) : (s.dropLsr).strips = s.strips := rfl
@[simp] theorem State.dropLsr_wc (s : State) : (s.dropLsr).wc = s.wc := rfl
@[simp] theorem State.dropLsr_dev (s : State) : (s.dropLsr).dev = s.dev := rfl
@[simp] theorem State.dropLsr_cores (s : State) : (s.dropLsr).cores = s.cores := rfl
@[simp] theorem State.dropLsr_eph (s : State) : (s.dropLsr).eph = s.eph := rfl
@[simp] theorem State.dropLsr_ephStd (s : State) : (s.dropLsr).ephStd = s.ephStd := rfl
@[simp] theorem State.dropLsr_out (s : State) : (s.dropLsr).out = s.out := rfl
@[simp] theorem State.dropLsr_net (s : State) : (s.dropLsr).net = s.net := rfl
@[simp] theorem State.dropLsr_bg (s : State) : (s.dropLsr).bg = s.bg := rfl
@[simp] theorem State.dropLsr_tap (s : State) : (s.dropLsr).tap = s.tap := rfl
@[simp] theorem State.dropLsr_ephTile (s : State) : (s.dropLsr).ephTile = s.ephTile := rfl

/-! ## State.mark -/

@[simp] theorem State.mark_pending (s : State) (F : Fld) (g : Nat → Nat) (i j : Nat) : (s.mark F g i j).pending = s.pending := rfl
@[simp] theorem State.mark_fuses (s : State) (F : Fld) (g : Nat → Nat) (i j : Nat) : (s.mark F g i j).fuses = s.fuses := rfl
@[simp] theorem State.mark_aon (s : State) (F : Fld) (g : Nat → Nat) (i j : Nat) : (s.mark F g i j).aon = s.aon := rfl
@[simp] theorem State.mark_raw (s : State) (F : Fld) (g : Nat → Nat) (i j : Nat) : (s.mark F g i j).raw = s.raw := rfl
@[simp] theorem State.mark_free (s : State) (F : Fld) (g : Nat → Nat) (i j : Nat) : (s.mark F g i j).free = s.free := rfl
@[simp] theorem State.mark_regs (s : State) (F : Fld) (g : Nat → Nat) (i j : Nat) : (s.mark F g i j).regs = s.regs := rfl
@[simp] theorem State.mark_force (s : State) (F : Fld) (g : Nat → Nat) (i j : Nat) : (s.mark F g i j).force = s.force := rfl
@[simp] theorem State.mark_mem (s : State) (F : Fld) (g : Nat → Nat) (i j : Nat) : (s.mark F g i j).mem = s.mem := rfl
@[simp] theorem State.mark_latch (s : State) (F : Fld) (g : Nat → Nat) (i j : Nat) : (s.mark F g i j).latch = s.latch := rfl
@[simp] theorem State.mark_reply (s : State) (F : Fld) (g : Nat → Nat) (i j : Nat) : (s.mark F g i j).reply = s.reply := rfl
@[simp] theorem State.mark_clk (s : State) (F : Fld) (g : Nat → Nat) (i j : Nat) : (s.mark F g i j).clk = s.clk := rfl
@[simp] theorem State.mark_fire (s : State) (F : Fld) (g : Nat → Nat) (i j : Nat) : (s.mark F g i j).fire = s.fire := rfl
@[simp] theorem State.mark_mon (s : State) (F : Fld) (g : Nat → Nat) (i j : Nat) : (s.mark F g i j).mon = s.mon := rfl
@[simp] theorem State.mark_mirr (s : State) (F : Fld) (g : Nat → Nat) (i j : Nat) : (s.mark F g i j).mirr = s.mirr := rfl
@[simp] theorem State.mark_afe (s : State) (F : Fld) (g : Nat → Nat) (i j : Nat) : (s.mark F g i j).afe = s.afe := rfl
@[simp] theorem State.mark_strips (s : State) (F : Fld) (g : Nat → Nat) (i j : Nat) : (s.mark F g i j).strips = s.strips := rfl
@[simp] theorem State.mark_spads (s : State) (F : Fld) (g : Nat → Nat) (i j : Nat) : (s.mark F g i j).spads = s.spads := rfl
@[simp] theorem State.mark_wc (s : State) (F : Fld) (g : Nat → Nat) (i j : Nat) : (s.mark F g i j).wc = s.wc := rfl
@[simp] theorem State.mark_dev (s : State) (F : Fld) (g : Nat → Nat) (i j : Nat) : (s.mark F g i j).dev = s.dev := rfl
@[simp] theorem State.mark_dome (s : State) (F : Fld) (g : Nat → Nat) (i j : Nat) : (s.mark F g i j).dome = s.dome := rfl
@[simp] theorem State.mark_cores (s : State) (F : Fld) (g : Nat → Nat) (i j : Nat) : (s.mark F g i j).cores = s.cores := rfl
@[simp] theorem State.mark_eph (s : State) (F : Fld) (g : Nat → Nat) (i j : Nat) : (s.mark F g i j).eph = s.eph := rfl
@[simp] theorem State.mark_ephStd (s : State) (F : Fld) (g : Nat → Nat) (i j : Nat) : (s.mark F g i j).ephStd = s.ephStd := rfl
@[simp] theorem State.mark_out (s : State) (F : Fld) (g : Nat → Nat) (i j : Nat) : (s.mark F g i j).out = s.out := rfl
@[simp] theorem State.mark_net (s : State) (F : Fld) (g : Nat → Nat) (i j : Nat) : (s.mark F g i j).net = s.net := rfl
@[simp] theorem State.mark_bg (s : State) (F : Fld) (g : Nat → Nat) (i j : Nat) : (s.mark F g i j).bg = s.bg := rfl
@[simp] theorem State.mark_tap (s : State) (F : Fld) (g : Nat → Nat) (i j : Nat) : (s.mark F g i j).tap = s.tap := rfl
@[simp] theorem State.mark_ephTile (s : State) (F : Fld) (g : Nat → Nat) (i j : Nat) : (s.mark F g i j).ephTile = s.ephTile := rfl

/-! ## State.setBit, State.orBit, State.cnt: one write of a field, and what `hot` remembers of it -/

theorem State.setBit_eq (s : State) (F : Fld) (b : Bool) (i j : Nat) :
    s.setBit F b i j = { s.setFld F (if b then 1 else 0) i j with hot := (s.setBit F b i j).hot } := by
  unfold State.setBit
  split <;> rfl

theorem State.orBit_eq (s : State) (F : Fld) (k i : Nat) :
    s.orBit F k i = { s.setFld F (s.fld F i ||| (1 <<< k)) i with hot := (s.orBit F k i).hot } := by
  unfold State.orBit
  split <;> rfl

theorem State.cnt_eq (s : State) (F : Fld) (n i j : Nat) :
    s.cnt F n i j =
      { s.setFld F (if F.acc = .rc then min (s.fld F i j + n) (F.span - 1) else s.fld F i j + n) i j with
        hot := (s.cnt F n i j).hot } := by
  unfold State.cnt
  split <;> rfl

@[simp] theorem State.setBit_pending (s : State) (F : Fld) (b : Bool) (i j : Nat) : (s.setBit F b i j).pending = s.pending := by rw [State.setBit_eq]; rfl
@[simp] theorem State.setBit_fuses (s : State) (F : Fld) (b : Bool) (i j : Nat) : (s.setBit F b i j).fuses = s.fuses := by rw [State.setBit_eq]; rfl
@[simp] theorem State.setBit_aon (s : State) (F : Fld) (b : Bool) (i j : Nat) : (s.setBit F b i j).aon = s.aon := by rw [State.setBit_eq]; rfl
@[simp] theorem State.setBit_raw (s : State) (F : Fld) (b : Bool) (i j : Nat) : (s.setBit F b i j).raw = s.raw := by rw [State.setBit_eq]; rfl
@[simp] theorem State.setBit_free (s : State) (F : Fld) (b : Bool) (i j : Nat) : (s.setBit F b i j).free = s.free := by rw [State.setBit_eq]; rfl
@[simp] theorem State.setBit_force (s : State) (F : Fld) (b : Bool) (i j : Nat) : (s.setBit F b i j).force = s.force := by rw [State.setBit_eq]; rfl
@[simp] theorem State.setBit_mem (s : State) (F : Fld) (b : Bool) (i j : Nat) : (s.setBit F b i j).mem = s.mem := by rw [State.setBit_eq]; rfl
@[simp] theorem State.setBit_latch (s : State) (F : Fld) (b : Bool) (i j : Nat) : (s.setBit F b i j).latch = s.latch := by rw [State.setBit_eq]; rfl
@[simp] theorem State.setBit_reply (s : State) (F : Fld) (b : Bool) (i j : Nat) : (s.setBit F b i j).reply = s.reply := by rw [State.setBit_eq]; rfl
@[simp] theorem State.setBit_clk (s : State) (F : Fld) (b : Bool) (i j : Nat) : (s.setBit F b i j).clk = s.clk := by rw [State.setBit_eq]; rfl
@[simp] theorem State.setBit_fire (s : State) (F : Fld) (b : Bool) (i j : Nat) : (s.setBit F b i j).fire = s.fire := by rw [State.setBit_eq]; rfl
@[simp] theorem State.setBit_mon (s : State) (F : Fld) (b : Bool) (i j : Nat) : (s.setBit F b i j).mon = s.mon := by rw [State.setBit_eq]; rfl
@[simp] theorem State.setBit_mirr (s : State) (F : Fld) (b : Bool) (i j : Nat) : (s.setBit F b i j).mirr = s.mirr := by rw [State.setBit_eq]; rfl
@[simp] theorem State.setBit_afe (s : State) (F : Fld) (b : Bool) (i j : Nat) : (s.setBit F b i j).afe = s.afe := by rw [State.setBit_eq]; rfl
@[simp] theorem State.setBit_strips (s : State) (F : Fld) (b : Bool) (i j : Nat) : (s.setBit F b i j).strips = s.strips := by rw [State.setBit_eq]; rfl
@[simp] theorem State.setBit_spads (s : State) (F : Fld) (b : Bool) (i j : Nat) : (s.setBit F b i j).spads = s.spads := by rw [State.setBit_eq]; rfl
@[simp] theorem State.setBit_wc (s : State) (F : Fld) (b : Bool) (i j : Nat) : (s.setBit F b i j).wc = s.wc := by rw [State.setBit_eq]; rfl
@[simp] theorem State.setBit_dev (s : State) (F : Fld) (b : Bool) (i j : Nat) : (s.setBit F b i j).dev = s.dev := by rw [State.setBit_eq]; rfl
@[simp] theorem State.setBit_dome (s : State) (F : Fld) (b : Bool) (i j : Nat) : (s.setBit F b i j).dome = s.dome := by rw [State.setBit_eq]; rfl
@[simp] theorem State.setBit_cores (s : State) (F : Fld) (b : Bool) (i j : Nat) : (s.setBit F b i j).cores = s.cores := by rw [State.setBit_eq]; rfl
@[simp] theorem State.setBit_eph (s : State) (F : Fld) (b : Bool) (i j : Nat) : (s.setBit F b i j).eph = s.eph := by rw [State.setBit_eq]; rfl
@[simp] theorem State.setBit_ephStd (s : State) (F : Fld) (b : Bool) (i j : Nat) : (s.setBit F b i j).ephStd = s.ephStd := by rw [State.setBit_eq]; rfl
@[simp] theorem State.setBit_out (s : State) (F : Fld) (b : Bool) (i j : Nat) : (s.setBit F b i j).out = s.out := by rw [State.setBit_eq]; rfl
@[simp] theorem State.setBit_net (s : State) (F : Fld) (b : Bool) (i j : Nat) : (s.setBit F b i j).net = s.net := by rw [State.setBit_eq]; rfl
@[simp] theorem State.setBit_bg (s : State) (F : Fld) (b : Bool) (i j : Nat) : (s.setBit F b i j).bg = s.bg := by rw [State.setBit_eq]; rfl
@[simp] theorem State.setBit_tap (s : State) (F : Fld) (b : Bool) (i j : Nat) : (s.setBit F b i j).tap = s.tap := by rw [State.setBit_eq]; rfl
@[simp] theorem State.setBit_ephTile (s : State) (F : Fld) (b : Bool) (i j : Nat) : (s.setBit F b i j).ephTile = s.ephTile := by rw [State.setBit_eq]; rfl

@[simp] theorem State.orBit_pending (s : State) (F : Fld) (k i : Nat) : (s.orBit F k i).pending = s.pending := by rw [State.orBit_eq]; rfl
@[simp] theorem State.orBit_fuses (s : State) (F : Fld) (k i : Nat) : (s.orBit F k i).fuses = s.fuses := by rw [State.orBit_eq]; rfl
@[simp] theorem State.orBit_aon (s : State) (F : Fld) (k i : Nat) : (s.orBit F k i).aon = s.aon := by rw [State.orBit_eq]; rfl
@[simp] theorem State.orBit_raw (s : State) (F : Fld) (k i : Nat) : (s.orBit F k i).raw = s.raw := by rw [State.orBit_eq]; rfl
@[simp] theorem State.orBit_free (s : State) (F : Fld) (k i : Nat) : (s.orBit F k i).free = s.free := by rw [State.orBit_eq]; rfl
@[simp] theorem State.orBit_force (s : State) (F : Fld) (k i : Nat) : (s.orBit F k i).force = s.force := by rw [State.orBit_eq]; rfl
@[simp] theorem State.orBit_mem (s : State) (F : Fld) (k i : Nat) : (s.orBit F k i).mem = s.mem := by rw [State.orBit_eq]; rfl
@[simp] theorem State.orBit_latch (s : State) (F : Fld) (k i : Nat) : (s.orBit F k i).latch = s.latch := by rw [State.orBit_eq]; rfl
@[simp] theorem State.orBit_reply (s : State) (F : Fld) (k i : Nat) : (s.orBit F k i).reply = s.reply := by rw [State.orBit_eq]; rfl
@[simp] theorem State.orBit_clk (s : State) (F : Fld) (k i : Nat) : (s.orBit F k i).clk = s.clk := by rw [State.orBit_eq]; rfl
@[simp] theorem State.orBit_fire (s : State) (F : Fld) (k i : Nat) : (s.orBit F k i).fire = s.fire := by rw [State.orBit_eq]; rfl
@[simp] theorem State.orBit_mon (s : State) (F : Fld) (k i : Nat) : (s.orBit F k i).mon = s.mon := by rw [State.orBit_eq]; rfl
@[simp] theorem State.orBit_mirr (s : State) (F : Fld) (k i : Nat) : (s.orBit F k i).mirr = s.mirr := by rw [State.orBit_eq]; rfl
@[simp] theorem State.orBit_afe (s : State) (F : Fld) (k i : Nat) : (s.orBit F k i).afe = s.afe := by rw [State.orBit_eq]; rfl
@[simp] theorem State.orBit_strips (s : State) (F : Fld) (k i : Nat) : (s.orBit F k i).strips = s.strips := by rw [State.orBit_eq]; rfl
@[simp] theorem State.orBit_spads (s : State) (F : Fld) (k i : Nat) : (s.orBit F k i).spads = s.spads := by rw [State.orBit_eq]; rfl
@[simp] theorem State.orBit_wc (s : State) (F : Fld) (k i : Nat) : (s.orBit F k i).wc = s.wc := by rw [State.orBit_eq]; rfl
@[simp] theorem State.orBit_dev (s : State) (F : Fld) (k i : Nat) : (s.orBit F k i).dev = s.dev := by rw [State.orBit_eq]; rfl
@[simp] theorem State.orBit_dome (s : State) (F : Fld) (k i : Nat) : (s.orBit F k i).dome = s.dome := by rw [State.orBit_eq]; rfl
@[simp] theorem State.orBit_cores (s : State) (F : Fld) (k i : Nat) : (s.orBit F k i).cores = s.cores := by rw [State.orBit_eq]; rfl
@[simp] theorem State.orBit_eph (s : State) (F : Fld) (k i : Nat) : (s.orBit F k i).eph = s.eph := by rw [State.orBit_eq]; rfl
@[simp] theorem State.orBit_ephStd (s : State) (F : Fld) (k i : Nat) : (s.orBit F k i).ephStd = s.ephStd := by rw [State.orBit_eq]; rfl
@[simp] theorem State.orBit_out (s : State) (F : Fld) (k i : Nat) : (s.orBit F k i).out = s.out := by rw [State.orBit_eq]; rfl
@[simp] theorem State.orBit_net (s : State) (F : Fld) (k i : Nat) : (s.orBit F k i).net = s.net := by rw [State.orBit_eq]; rfl
@[simp] theorem State.orBit_bg (s : State) (F : Fld) (k i : Nat) : (s.orBit F k i).bg = s.bg := by rw [State.orBit_eq]; rfl
@[simp] theorem State.orBit_tap (s : State) (F : Fld) (k i : Nat) : (s.orBit F k i).tap = s.tap := by rw [State.orBit_eq]; rfl
@[simp] theorem State.orBit_ephTile (s : State) (F : Fld) (k i : Nat) : (s.orBit F k i).ephTile = s.ephTile := by rw [State.orBit_eq]; rfl

@[simp] theorem State.cnt_pending (s : State) (F : Fld) (n i j : Nat) : (s.cnt F n i j).pending = s.pending := by rw [State.cnt_eq]; rfl
@[simp] theorem State.cnt_fuses (s : State) (F : Fld) (n i j : Nat) : (s.cnt F n i j).fuses = s.fuses := by rw [State.cnt_eq]; rfl
@[simp] theorem State.cnt_aon (s : State) (F : Fld) (n i j : Nat) : (s.cnt F n i j).aon = s.aon := by rw [State.cnt_eq]; rfl
@[simp] theorem State.cnt_raw (s : State) (F : Fld) (n i j : Nat) : (s.cnt F n i j).raw = s.raw := by rw [State.cnt_eq]; rfl
@[simp] theorem State.cnt_free (s : State) (F : Fld) (n i j : Nat) : (s.cnt F n i j).free = s.free := by rw [State.cnt_eq]; rfl
@[simp] theorem State.cnt_force (s : State) (F : Fld) (n i j : Nat) : (s.cnt F n i j).force = s.force := by rw [State.cnt_eq]; rfl
@[simp] theorem State.cnt_mem (s : State) (F : Fld) (n i j : Nat) : (s.cnt F n i j).mem = s.mem := by rw [State.cnt_eq]; rfl
@[simp] theorem State.cnt_latch (s : State) (F : Fld) (n i j : Nat) : (s.cnt F n i j).latch = s.latch := by rw [State.cnt_eq]; rfl
@[simp] theorem State.cnt_reply (s : State) (F : Fld) (n i j : Nat) : (s.cnt F n i j).reply = s.reply := by rw [State.cnt_eq]; rfl
@[simp] theorem State.cnt_clk (s : State) (F : Fld) (n i j : Nat) : (s.cnt F n i j).clk = s.clk := by rw [State.cnt_eq]; rfl
@[simp] theorem State.cnt_fire (s : State) (F : Fld) (n i j : Nat) : (s.cnt F n i j).fire = s.fire := by rw [State.cnt_eq]; rfl
@[simp] theorem State.cnt_mon (s : State) (F : Fld) (n i j : Nat) : (s.cnt F n i j).mon = s.mon := by rw [State.cnt_eq]; rfl
@[simp] theorem State.cnt_mirr (s : State) (F : Fld) (n i j : Nat) : (s.cnt F n i j).mirr = s.mirr := by rw [State.cnt_eq]; rfl
@[simp] theorem State.cnt_afe (s : State) (F : Fld) (n i j : Nat) : (s.cnt F n i j).afe = s.afe := by rw [State.cnt_eq]; rfl
@[simp] theorem State.cnt_strips (s : State) (F : Fld) (n i j : Nat) : (s.cnt F n i j).strips = s.strips := by rw [State.cnt_eq]; rfl
@[simp] theorem State.cnt_spads (s : State) (F : Fld) (n i j : Nat) : (s.cnt F n i j).spads = s.spads := by rw [State.cnt_eq]; rfl
@[simp] theorem State.cnt_wc (s : State) (F : Fld) (n i j : Nat) : (s.cnt F n i j).wc = s.wc := by rw [State.cnt_eq]; rfl
@[simp] theorem State.cnt_dev (s : State) (F : Fld) (n i j : Nat) : (s.cnt F n i j).dev = s.dev := by rw [State.cnt_eq]; rfl
@[simp] theorem State.cnt_dome (s : State) (F : Fld) (n i j : Nat) : (s.cnt F n i j).dome = s.dome := by rw [State.cnt_eq]; rfl
@[simp] theorem State.cnt_cores (s : State) (F : Fld) (n i j : Nat) : (s.cnt F n i j).cores = s.cores := by rw [State.cnt_eq]; rfl
@[simp] theorem State.cnt_eph (s : State) (F : Fld) (n i j : Nat) : (s.cnt F n i j).eph = s.eph := by rw [State.cnt_eq]; rfl
@[simp] theorem State.cnt_ephStd (s : State) (F : Fld) (n i j : Nat) : (s.cnt F n i j).ephStd = s.ephStd := by rw [State.cnt_eq]; rfl
@[simp] theorem State.cnt_out (s : State) (F : Fld) (n i j : Nat) : (s.cnt F n i j).out = s.out := by rw [State.cnt_eq]; rfl
@[simp] theorem State.cnt_net (s : State) (F : Fld) (n i j : Nat) : (s.cnt F n i j).net = s.net := by rw [State.cnt_eq]; rfl
@[simp] theorem State.cnt_bg (s : State) (F : Fld) (n i j : Nat) : (s.cnt F n i j).bg = s.bg := by rw [State.cnt_eq]; rfl
@[simp] theorem State.cnt_tap (s : State) (F : Fld) (n i j : Nat) : (s.cnt F n i j).tap = s.tap := by rw [State.cnt_eq]; rfl
@[simp] theorem State.cnt_ephTile (s : State) (F : Fld) (n i j : Nat) : (s.cnt F n i j).ephTile = s.ephTile := by rw [State.cnt_eq]; rfl

end Sys2Proof.Machine
end

