-- ==== Sys2Proof/Laws/Tab.lean ====
section
/-!
SUPPORT. Laws of the tables: a read after a write, and that every operation keeps the canonical form.
-/
namespace Sys2Proof.Machine

variable {β : Type}

/-! ## Keys in order -/

/-- Every key of the table lies above a bound. -/
def Tab.above (n : Nat) (t : Tab β) : Prop := ∀ p ∈ t, n < p.1

theorem Tab.sorted_cons (a : Nat) (v : β) (t : Tab β) :
    Tab.sorted ((a, v) :: t) = true ↔ Tab.above a t ∧ Tab.sorted t = true := by
  induction t generalizing a v with
  | nil => simp [Tab.sorted, Tab.above]
  | cons p t ih =>
    obtain ⟨b, w⟩ := p
    have hb := ih b w
    simp only [Tab.sorted, Bool.and_eq_true, decide_eq_true_eq]
    constructor
    · rintro ⟨hab, hs⟩
      refine ⟨?_, hs⟩
      intro q hq
      rcases List.mem_cons.1 hq with rfl | hq
      · exact hab
      · exact hab.trans ((hb.1 hs).1 q hq)
    · rintro ⟨hab, hs⟩
      exact ⟨hab (b, w) (by simp), hs⟩

theorem Tab.find?_above {t : Tab β} {n k : Nat} (h : Tab.above n t) (hk : k ≤ n) : Tab.find? t k = none := by
  induction t with
  | nil => rfl
  | cons p t ih =>
    obtain ⟨a, v⟩ := p
    have ha : n < a := h (a, v) (by simp)
    have : ¬ a = k := by omega
    simp only [Tab.find?, this, if_false]
    exact ih (fun q hq => h q (by simp [hq]))

/-! ## Reads after writes -/

@[simp] theorem Tab.find?_put_same (t : Tab β) (k : Nat) (v : β) : Tab.find? (Tab.put t k v) k = some v := by
  induction t with
  | nil => simp [Tab.put, Tab.find?]
  | cons p t ih =>
    obtain ⟨a, w⟩ := p
    simp only [Tab.put]
    split
    · simp [Tab.find?]
    · split
      · simp [Tab.find?]
      · have : ¬ a = k := by omega
        simp [Tab.find?, this, ih]

theorem Tab.find?_put_ne (t : Tab β) {k j : Nat} (v : β) (h : j ≠ k) :
    Tab.find? (Tab.put t k v) j = Tab.find? t j := by
  induction t with
  | nil => simp [Tab.put, Tab.find?, h.symm]
  | cons p t ih =>
    obtain ⟨a, w⟩ := p
    simp only [Tab.put]
    split
    · simp [Tab.find?, h.symm]
    · split
      · subst_vars; simp [Tab.find?, h.symm]
      · simp [Tab.find?, ih]

theorem Tab.find?_del_ne (t : Tab β) {k j : Nat} (h : j ≠ k) : Tab.find? (Tab.del t k) j = Tab.find? t j := by
  induction t with
  | nil => rfl
  | cons p t ih =>
    obtain ⟨a, w⟩ := p
    simp only [Tab.del]
    split
    · subst_vars; simp [Tab.find?, h.symm]
    · simp [Tab.find?, ih]

theorem Tab.find?_del_same {t : Tab β} (hs : Tab.sorted t = true) (k : Nat) : Tab.find? (Tab.del t k) k = none := by
  induction t with
  | nil => rfl
  | cons p t ih =>
    obtain ⟨a, w⟩ := p
    obtain ⟨ha, hs⟩ := (Tab.sorted_cons a w t).1 hs
    simp only [Tab.del]
    split
    · subst_vars; exact Tab.find?_above ha (le_refl _)
    · rename_i hne; simp [Tab.find?, hne, ih hs]

@[simp] theorem Tab.get_put_same (d : Nat → β) (t : Tab β) (k : Nat) (v : β) : Tab.get d (Tab.put t k v) k = v := by
  simp [Tab.get]

theorem Tab.get_put_ne (d : Nat → β) (t : Tab β) {k j : Nat} (v : β) (h : j ≠ k) :
    Tab.get d (Tab.put t k v) j = Tab.get d t j := by
  simp [Tab.get, Tab.find?_put_ne t v h]

/-- A write to a table in key order reads back. -/
theorem Tab.get_set_same [DecidableEq β] (d : Nat → β) {t : Tab β} (hs : Tab.sorted t = true) (k : Nat) (v : β) :
    Tab.get d (Tab.set d t k v) k = v := by
  unfold Tab.set
  split
  · rename_i h; simp [Tab.get, Tab.find?_del_same hs, h]
  · simp

/-- A write leaves every other key's entry alone. -/
theorem Tab.find?_set_ne [DecidableEq β] (d : Nat → β) (t : Tab β) {k j : Nat} (v : β) (h : j ≠ k) :
    Tab.find? (Tab.set d t k v) j = Tab.find? t j := by
  unfold Tab.set
  split
  · exact Tab.find?_del_ne t h
  · exact Tab.find?_put_ne t v h

/-- A write leaves every other key alone. -/
theorem Tab.get_set_ne [DecidableEq β] (d d' : Nat → β) (t : Tab β) {k j : Nat} (v : β) (h : j ≠ k) :
    Tab.get d' (Tab.set d t k v) j = Tab.get d' t j := by
  simp [Tab.get, Tab.find?_set_ne d t v h]

/-! ## The canonical form is kept -/

theorem Tab.above_put {t : Tab β} {n k : Nat} {v : β} (h : Tab.above n t) (hk : n < k) : Tab.above n (Tab.put t k v) := by
  induction t with
  | nil => intro p hp; simp [Tab.put] at hp; subst hp; exact hk
  | cons q t ih =>
    obtain ⟨a, w⟩ := q
    have ht : Tab.above n t := fun p hp => h p (by simp [hp])
    simp only [Tab.put]
    split
    · intro p hp
      rcases List.mem_cons.1 hp with rfl | hp
      · exact hk
      · exact h p hp
    · split
      · intro p hp
        rcases List.mem_cons.1 hp with rfl | hp
        · exact hk
        · exact ht p hp
      · intro p hp
        rcases List.mem_cons.1 hp with rfl | hp
        · exact h (a, w) (by simp)
        · exact ih ht p hp

theorem Tab.sorted_put {t : Tab β} (hs : Tab.sorted t = true) (k : Nat) (v : β) :
    Tab.sorted (Tab.put t k v) = true := by
  induction t with
  | nil => rfl
  | cons q t ih =>
    obtain ⟨a, w⟩ := q
    obtain ⟨ha, ht⟩ := (Tab.sorted_cons a w t).1 hs
    simp only [Tab.put]
    split
    · rename_i hk
      refine (Tab.sorted_cons k v _).2 ⟨?_, hs⟩
      intro p hp
      rcases List.mem_cons.1 hp with rfl | hp
      · exact hk
      · exact hk.trans (ha p hp)
    · split
      · subst_vars; exact (Tab.sorted_cons _ _ _).2 ⟨ha, ht⟩
      · exact (Tab.sorted_cons _ _ _).2 ⟨Tab.above_put ha (by omega), ih ht⟩

theorem Tab.mem_del {t : Tab β} {k : Nat} {p : Nat × β} (h : p ∈ Tab.del t k) : p ∈ t := by
  induction t with
  | nil => exact h
  | cons q t ih =>
    obtain ⟨a, w⟩ := q
    simp only [Tab.del] at h
    split at h
    · simp [h]
    · rcases List.mem_cons.1 h with rfl | h
      · simp
      · simp [ih h]

theorem Tab.sorted_del {t : Tab β} (hs : Tab.sorted t = true) (k : Nat) : Tab.sorted (Tab.del t k) = true := by
  induction t with
  | nil => rfl
  | cons q t ih =>
    obtain ⟨a, w⟩ := q
    obtain ⟨ha, ht⟩ := (Tab.sorted_cons a w t).1 hs
    simp only [Tab.del]
    split
    · exact ht
    · exact (Tab.sorted_cons _ _ _).2 ⟨fun p hp => ha p (Tab.mem_del hp), ih ht⟩

theorem Tab.sorted_filter {t : Tab β} (hs : Tab.sorted t = true) (f : Nat × β → Bool) :
    Tab.sorted (List.filter f t) = true := by
  induction t with
  | nil => rfl
  | cons q t ih =>
    obtain ⟨a, w⟩ := q
    obtain ⟨ha, ht⟩ := (Tab.sorted_cons a w t).1 hs
    simp only [List.filter_cons]
    split
    · exact (Tab.sorted_cons _ _ _).2 ⟨fun p hp => ha p (List.mem_filter.1 hp).1, ih ht⟩
    · exact ih ht

/-- A canonical write keeps the keys in order. -/
theorem Tab.sorted_set [DecidableEq β] (d : Nat → β) {t : Tab β} (hs : Tab.sorted t = true) (k : Nat) (v : β) :
    Tab.sorted (Tab.set d t k v) = true := by
  unfold Tab.set
  split
  · exact Tab.sorted_del hs k
  · exact Tab.sorted_put hs k v

theorem Tab.mem_put {t : Tab β} {k : Nat} {v : β} {p : Nat × β} (h : p ∈ Tab.put t k v) : p = (k, v) ∨ p ∈ t := by
  induction t with
  | nil => simpa [Tab.put] using h
  | cons q t ih =>
    obtain ⟨a, w⟩ := q
    simp only [Tab.put] at h
    split at h
    · simpa using h
    · split at h
      · rcases List.mem_cons.1 h with rfl | h
        · simp
        · simp [h]
      · rcases List.mem_cons.1 h with rfl | h
        · simp
        · rcases ih h with h | h <;> simp [h]

/-- A write keeps the canonical form. -/
theorem Tab.wf_set [DecidableEq β] (d : Nat → β) {t : Tab β} (h : Tab.wf d t = true) (k : Nat) (v : β) :
    Tab.wf d (Tab.set d t k v) = true := by
  simp only [Tab.wf, Bool.and_eq_true, List.all_eq_true, decide_eq_true_eq] at h ⊢
  refine ⟨Tab.sorted_set d h.1 k v, ?_⟩
  intro p hp
  unfold Tab.set at hp
  split at hp
  · exact h.2 p (Tab.mem_del hp)
  · rename_i hv
    rcases Tab.mem_put hp with rfl | hp
    · exact hv
    · exact h.2 p hp

end Sys2Proof.Machine
end

