-- ==== Sys2Proof/Laws/Fields.lean ====
section
/-!
SUPPORT. Register fields, in-force copies, memory words and units read back after they are written, and writes leave all else
alone.
-/
namespace Sys2Proof.Machine

/-! ## Every register operation is one write of a field -/

theorem State.clrBit_eq (s : State) (F : Fld) (k i : Nat) :
    s.clrBit F k i = s.setFld F (if (s.fld F i).testBit k then s.fld F i - (1 <<< k) else s.fld F i) i := rfl

theorem State.setFldS_eq (s : State) (F : Fld) (v : Int) (i j : Nat) :
    s.setFldS F v i j = s.setFld F (unsigned (F.hi + 1 - F.lo) v) i j := rfl

/-! ## Held fields -/

/-- A field written reads back, within its width. -/
theorem State.fld_setFld_same {s : State} (h : Tab.sorted s.regs = true) (F : Fld) (v i j : Nat) :
    (s.setFld F v i j).fld F i j = v % F.span := Tab.get_set_same _ h _ _

/-- A write leaves every other field alone. -/
theorem State.fld_setFld_ne (s : State) {F G : Fld} (v : Nat) {i j k l : Nat} (h : G.key k l ≠ F.key i j) :
    (s.setFld F v i j).fld G k l = s.fld G k l :=
  Tab.get_set_ne (fun _ => F.resetVal s.fuses i) (fun _ => G.resetVal s.fuses k) s.regs (v % F.span) h

/-- The entry of every other key stays as it is. -/
theorem State.find?_setFld_ne (s : State) (F : Fld) (v : Nat) (i j : Nat) {k : Nat} (h : k ≠ F.key i j) :
    Tab.find? (s.setFld F v i j).regs k = Tab.find? s.regs k :=
  Tab.find?_set_ne (fun _ => F.resetVal s.fuses i) s.regs (v % F.span) h

@[simp] theorem State.act_setFld (s : State) (F G : Fld) (v i j k l : Nat) :
    (s.setFld F v i j).act G k l = s.act G k l := rfl

theorem State.sorted_setFld {s : State} (h : Tab.sorted s.regs = true) (F : Fld) (v i j : Nat) :
    Tab.sorted (s.setFld F v i j).regs = true :=
  Tab.sorted_set (fun _ => F.resetVal s.fuses i) h (F.key i j) (v % F.span)

/-! ## In-force copies -/

/-- An in-force copy written reads back, within its width. -/
theorem State.act_setForce_same {s : State} (h : Tab.sorted s.force = true) (F : Fld) (v i j : Nat) :
    (s.setForce F v i j).act F i j = v % F.span := Tab.get_set_same _ h _ _

theorem State.act_setForce_ne (s : State) {F G : Fld} (v : Nat) {i j k l : Nat} (h : G.key k l ≠ F.key i j) :
    (s.setForce F v i j).act G k l = s.act G k l :=
  Tab.get_set_ne (fun _ => F.resetVal s.fuses i) (fun _ => G.resetVal s.fuses k) s.force (v % F.span) h

@[simp] theorem State.fld_setForce (s : State) (F G : Fld) (v i j k l : Nat) :
    (s.setForce F v i j).fld G k l = s.fld G k l := rfl

/-! ## Memory -/

/-- A word written reads back. -/
theorem State.rdMem_wrMem_same {s : State} (h : Memory.wf s.mem = true) (a : Nat) (v : Word) :
    (s.wrMem a v).rdMem a = v := by
  simp only [Memory.wf, Tab.wf, Bool.and_eq_true] at h
  exact Tab.get_set_same _ h.1 _ _

/-- A write leaves every other word alone. -/
theorem State.rdMem_wrMem_ne (s : State) {a b : Nat} (v : Word) (h : b ≠ a) : (s.wrMem a v).rdMem b = s.rdMem b :=
  Tab.get_set_ne _ _ _ _ h

@[simp] theorem State.rdMem_setFld (s : State) (F : Fld) (v i j a : Nat) : (s.setFld F v i j).rdMem a = s.rdMem a := rfl

/-- Writes from an address leave every word below it alone. -/
theorem State.rdMem_wrWords_below (s : State) (a : Nat) (l : List Word) {b : Nat} (h : b < a) :
    (s.wrWords a l).rdMem b = s.rdMem b := by
  induction l generalizing s a with
  | nil => rfl
  | cons w l ih =>
    show ((s.wrMem a w).wrWords (a + 1) l).rdMem b = s.rdMem b
    rw [ih _ _ (by omega), State.rdMem_wrMem_ne s w (by omega)]

/-- Writes from an address leave every word past their end alone. -/
theorem State.rdMem_wrWords_above (s : State) (a : Nat) (l : List Word) {b : Nat} (h : a + l.length ≤ b) :
    (s.wrWords a l).rdMem b = s.rdMem b := by
  induction l generalizing s a with
  | nil => rfl
  | cons w l ih =>
    simp only [List.length_cons] at h
    show ((s.wrMem a w).wrWords (a + 1) l).rdMem b = s.rdMem b
    rw [ih _ _ (by omega), State.rdMem_wrMem_ne s w (by omega)]

/-- Memory stays canonical under a write. -/
theorem State.wf_wrMem {s : State} (h : Memory.wf s.mem = true) (a : Nat) (v : Word) :
    Memory.wf (s.wrMem a v).mem = true := Tab.wf_set _ h _ _

/-- Memory is canonical at reset. -/
theorem State.wf_reset_mem : Memory.wf State.reset.mem = true := rfl

/-! ## Units by number -/

@[simp] theorem State.strip_setStrip_same (s : State) (d : Nat) (x : Strip) : (s.setStrip d x).strip d = x :=
  Tab.get_put_same _ _ _ _

theorem State.strip_setStrip_ne (s : State) {d e : Nat} (x : Strip) (h : e ≠ d) : (s.setStrip d x).strip e = s.strip e :=
  Tab.get_put_ne _ _ _ h

@[simp] theorem State.core_setCore_same (s : State) (c : Nat) (x : Core) : (s.setCore c x).core c = x :=
  Tab.get_put_same _ _ _ _

theorem State.core_setCore_ne (s : State) {c e : Nat} (x : Core) (h : e ≠ c) : (s.setCore c x).core e = s.core e :=
  Tab.get_put_ne _ _ _ h

@[simp] theorem State.bridge_setBridge_same (s : State) (n : Nat) (x : Bridge) : (s.setBridge n x).bridge n = x :=
  Tab.get_put_same _ _ _ _

@[simp] theorem State.rail_setRail_same (s : State) (n : Nat) (x : Rail) : (s.setRail n x).rail n = x :=
  Tab.get_put_same _ _ _ _

end Sys2Proof.Machine
end

