-- ==== Sys2Proof/Laws/Access.lean ====
section
/-!
SUPPORT. What an access does: a refused write tells its accessor and changes nothing else; a write that is taken has the
effect of its register's own operation.
-/
namespace Sys2Proof.Machine

/-- A write that is refused. -/
theorem State.access_refused {s : State} {a : Accessor} {addr : Nat} {v : Word} {e : Err}
    (h : s.judgeWrite a addr v = some e) :
    s.access a addr v = { s with reply := some { code := e.code, addr := addr, value := 0 } } := by
  simp only [State.access, State.regWrite, h, State.answer]

/-- A write that nothing bars. -/
theorem State.access_taken {s : State} {a : Accessor} {addr : Nat} {v : Word} (h : s.judgeWrite a addr v = none) :
    s.access a addr v = s.answer addr ((s.noted addr v).effectWrite a ((blockOf addr).getD 16) addr v) := by
  simp only [State.access, State.regWrite, h]

/-- A register without RWL fields leaves no note. -/
theorem State.noted_plain {addr : Nat} (h : (fldsAt addr).all (fun p => p.1.acc != .rwl) = true) (s : State) (v : Word) :
    s.noted addr v = s := by
  have hr : s.rwlWrite addr v = false := by
    refine List.any_eq_false.2 fun p hp => ?_
    have := List.all_eq_true.1 h p hp
    simp_all
  simp [State.noted, hr]

/-- What the accessor is told of a write that was taken. -/
theorem State.answer_ok (s t : State) (addr : Nat) :
    s.answer addr (t, none) = { t with reply := some { code := 0, addr := addr, value := 0 } } := rfl

/-- What the accessor is told of a write that its register refuses. -/
theorem State.answer_err (s t : State) (addr : Nat) (e : Err) :
    s.answer addr (t, some e) = { t with reply := some { code := e.code, addr := addr, value := 0 } } := rfl

theorem blockOf_pllCtrl : (blockOf 0x1000101).getD 16 = 1 := by decide

theorem State.access_pllCtrl {s : State} {a : Accessor} {v : Word} (h : s.judgeWrite a 0x1000101 v = none) :
    s.access a 0x1000101 v = s.answer 0x1000101 (s.wrPllCtrl v) := by
  rw [State.access_taken h, State.noted_plain (by decide), blockOf_pllCtrl]
  simp [State.effectWrite, State.wrTime]

theorem blockOf_sscCfg : (blockOf 0x1000104).getD 16 = 1 := by decide

theorem State.access_sscCfg {s : State} {a : Accessor} {v : Word} (h : s.judgeWrite a 0x1000104 v = none) :
    s.access a 0x1000104 v = s.answer 0x1000104 ((s.noted 0x1000104 v).wrSscCfg v) := by
  rw [State.access_taken h, blockOf_sscCfg]
  simp [State.effectWrite, State.wrTime]

theorem blockOf_fmuCfg : (blockOf 0x1000130).getD 16 = 1 := by decide

theorem State.access_fmuCfg {s : State} {a : Accessor} {v : Word} (h : s.judgeWrite a 0x1000130 v = none) :
    s.access a 0x1000130 v = s.answer 0x1000130 (s.wrFmuCfg v) := by
  rw [State.access_taken h, State.noted_plain (by decide), blockOf_fmuCfg]
  simp [State.effectWrite, State.wrTime]

theorem blockOf_fireCtrl : (blockOf 0x1000200).getD 16 = 2 := by decide

theorem State.access_fireCtrl {s : State} {a : Accessor} {v : Word} (h : s.judgeWrite a 0x1000200 v = none) :
    s.access a 0x1000200 v = s.answer 0x1000200 (s.wrFireCtrl v) := by
  rw [State.access_taken h, State.noted_plain (by decide), blockOf_fireCtrl]
  simp [State.effectWrite, State.wrFire]

theorem blockOf_eyeCfg : (blockOf 0x1000220).getD 16 = 2 := by decide

theorem State.access_eyeCfg {s : State} {a : Accessor} {v : Word} (h : s.judgeWrite a 0x1000220 v = none) :
    s.access a 0x1000220 v = s.answer 0x1000220 ((s.noted 0x1000220 v).wrPlain 0x1000220 v, none) := by
  rw [State.access_taken h, blockOf_eyeCfg]
  simp [State.effectWrite, State.wrFire]

theorem blockOf_capCtrl : (blockOf 0x1000421).getD 16 = 3 := by decide

theorem State.access_capCtrl {s : State} {a : Accessor} {v : Word} (h : s.judgeWrite a 0x1000421 v = none) :
    s.access a 0x1000421 v = s.answer 0x1000421 (s.wrCapCtrl v) := by
  rw [State.access_taken h, State.noted_plain (by decide), blockOf_capCtrl]
  simp [State.effectWrite, State.wrMon]

theorem blockOf_brCtrl : (blockOf 0x1000601).getD 16 = 5 := by decide

theorem State.access_brCtrl {s : State} {a : Accessor} {v : Word} (h : s.judgeWrite a 0x1000601 v = none) :
    s.access a 0x1000601 v = s.answer 0x1000601 (s.wrBrCtrl v) := by
  rw [State.access_taken h, State.noted_plain (by decide), blockOf_brCtrl]
  simp [State.effectWrite, State.wrAfe]

theorem blockOf_brStat : (blockOf 0x1000602).getD 16 = 5 := by decide

theorem State.access_brStat {s : State} {a : Accessor} {v : Word} (h : s.judgeWrite a 0x1000602 v = none) :
    s.access a 0x1000602 v = s.answer 0x1000602 (s.wrBrStat v) := by
  rw [State.access_taken h, State.noted_plain (by decide), blockOf_brStat]
  simp [State.effectWrite, State.wrAfe]

theorem blockOf_hkCtrl : (blockOf 0x1000670).getD 16 = 5 := by decide

theorem State.access_hkCtrl {s : State} {a : Accessor} {v : Word} (h : s.judgeWrite a 0x1000670 v = none) :
    s.access a 0x1000670 v = s.answer 0x1000670 (s.wrHkCtrl v) := by
  rw [State.access_taken h, State.noted_plain (by decide), blockOf_hkCtrl]
  simp [State.effectWrite, State.wrAfe]

theorem blockOf_refCfg : (blockOf 0x1000674).getD 16 = 5 := by decide

theorem State.access_refCfg {s : State} {a : Accessor} {v : Word} (h : s.judgeWrite a 0x1000674 v = none) :
    s.access a 0x1000674 v = s.answer 0x1000674 ((s.noted 0x1000674 v).wrRefCfg v) := by
  rw [State.access_taken h, blockOf_refCfg]
  simp [State.effectWrite, State.wrAfe]

theorem blockOf_tdacCfg : (blockOf 0x10006A0).getD 16 = 5 := by decide

theorem State.access_tdacCfg {s : State} {a : Accessor} {v : Word} (h : s.judgeWrite a 0x10006A0 v = none) :
    s.access a 0x10006A0 v = s.answer 0x10006A0 (s.wrTdacCfg v) := by
  rw [State.access_taken h, State.noted_plain (by decide), blockOf_tdacCfg]
  simp [State.effectWrite, State.wrAfe]

theorem blockOf_modeReq : (blockOf 0x1000002).getD 16 = 0 := by decide

theorem State.access_modeReq {s : State} {a : Accessor} {v : Word} (h : s.judgeWrite a 0x1000002 v = none) :
    s.access a 0x1000002 v = s.answer 0x1000002 (s.wrModeReq v) := by
  rw [State.access_taken h, State.noted_plain (by decide), blockOf_modeReq]
  simp [State.effectWrite, State.wrDev]

theorem blockOf_rstCtrl : (blockOf 0x1000005).getD 16 = 0 := by decide

theorem State.access_rstCtrl {s : State} {a : Accessor} {v : Word} (h : s.judgeWrite a 0x1000005 v = none) :
    s.access a 0x1000005 v = s.answer 0x1000005 (s.wrRstCtrl v) := by
  rw [State.access_taken h, State.noted_plain (by decide), blockOf_rstCtrl]
  simp [State.effectWrite, State.wrDev]

theorem blockOf_commit : (blockOf 0x1000010).getD 16 = 0 := by decide

theorem State.access_commit {s : State} {a : Accessor} {v : Word} (h : s.judgeWrite a 0x1000010 v = none) :
    s.access a 0x1000010 v = s.answer 0x1000010 (s.wrCommit a v) := by
  rw [State.access_taken h, State.noted_plain (by decide), blockOf_commit]
  simp [State.effectWrite, State.wrDev]

theorem blockOf_dbgCfg : (blockOf 0x1000019).getD 16 = 0 := by decide

theorem State.access_dbgCfg {s : State} {a : Accessor} {v : Word} (h : s.judgeWrite a 0x1000019 v = none) :
    s.access a 0x1000019 v = s.answer 0x1000019 ((s.noted 0x1000019 v).wrDbgCfg v) := by
  rw [State.access_taken h, blockOf_dbgCfg]
  simp [State.effectWrite, State.wrDev]

theorem blockOf_frzCtrl : (blockOf 0x100001A).getD 16 = 0 := by decide

theorem State.access_frzCtrl {s : State} {a : Accessor} {v : Word} (h : s.judgeWrite a 0x100001A v = none) :
    s.access a 0x100001A v = s.answer 0x100001A (s.wrFrzCtrl a v) := by
  rw [State.access_taken h, State.noted_plain (by decide), blockOf_frzCtrl]
  simp [State.effectWrite, State.wrDev]

theorem blockOf_bootCtrl : (blockOf 0x1000020).getD 16 = 0 := by decide

theorem State.access_bootCtrl {s : State} {a : Accessor} {v : Word} (h : s.judgeWrite a 0x1000020 v = none) :
    s.access a 0x1000020 v = s.answer 0x1000020 (s.wrBootCtrl a v) := by
  rw [State.access_taken h, State.noted_plain (by decide), blockOf_bootCtrl]
  simp [State.effectWrite, State.wrDev]

theorem blockOf_flt : (blockOf 0x1000801).getD 16 = 6 := by decide

theorem State.access_flt {s : State} {a : Accessor} {v : Word} (h : s.judgeWrite a 0x1000801 v = none) :
    s.access a 0x1000801 v = s.answer 0x1000801 (s.wrFlt v) := by
  rw [State.access_taken h, State.noted_plain (by decide), blockOf_flt]
  simp [State.effectWrite, State.wrSafe]

theorem blockOf_degCtrl : (blockOf 0x1000802).getD 16 = 6 := by decide

theorem State.access_degCtrl {s : State} {a : Accessor} {v : Word} (h : s.judgeWrite a 0x1000802 v = none) :
    s.access a 0x1000802 v = s.answer 0x1000802 (s.wrDegCtrl v) := by
  rw [State.access_taken h, State.noted_plain (by decide), blockOf_degCtrl]
  simp [State.effectWrite, State.wrSafe]

theorem blockOf_sf2Cfg : (blockOf 0x1000808).getD 16 = 6 := by decide

theorem State.access_sf2Cfg {s : State} {a : Accessor} {v : Word} (h : s.judgeWrite a 0x1000808 v = none) :
    s.access a 0x1000808 v = s.answer 0x1000808 ((s.noted 0x1000808 v).wrPlain 0x1000808 v, none) := by
  rw [State.access_taken h, blockOf_sf2Cfg]
  simp [State.effectWrite, State.wrSafe]

theorem blockOf_linkCtrl (p : Fin 3) : (blockOf (0x1000900 + 64 * p.val)).getD 16 = 7 := by revert p; decide

theorem State.access_linkCtrl {s : State} {a : Accessor} {v : Word} (p : Fin 3) (h : s.judgeWrite a (0x1000900 + 64 * p.val) v = none) :
    s.access a (0x1000900 + 64 * p.val) v = s.answer (0x1000900 + 64 * p.val) (s.wrLinkCtrl p.val v) := by
  rw [State.access_taken h, State.noted_plain (by clear h; revert p; decide), blockOf_linkCtrl]
  simp [State.effectWrite, State.wrLink]

theorem blockOf_linkStat (p : Fin 3) : (blockOf (0x1000902 + 64 * p.val)).getD 16 = 7 := by revert p; decide

theorem State.access_linkStat {s : State} {a : Accessor} {v : Word} (p : Fin 3) (h : s.judgeWrite a (0x1000902 + 64 * p.val) v = none) :
    s.access a (0x1000902 + 64 * p.val) v = s.answer (0x1000902 + 64 * p.val) (s.wrLinkStat p.val v) := by
  rw [State.access_taken h, State.noted_plain (by clear h; revert p; decide), blockOf_linkStat]
  have h1 : (0x1000902 + 64 * p.val - 0x1000900) % 64 = 2 := by omega
  have h2 : (0x1000902 + 64 * p.val - 0x1000900) / 64 = p.val := by omega
  simp [State.effectWrite, State.wrLink, h1, h2]

theorem blockOf_sem (n : Fin 32) : (blockOf (0x1000A80 + n.val)).getD 16 = 9 := by revert n; decide

theorem State.access_sem {s : State} {a : Accessor} {v : Word} (n : Fin 32) (h : s.judgeWrite a (0x1000A80 + n.val) v = none) :
    s.access a (0x1000A80 + n.val) v = s.answer (0x1000A80 + n.val) (s.semWrite n.val a v) := by
  rw [State.access_taken h, State.noted_plain (by clear h; revert n; decide), blockOf_sem]
  simp [State.effectWrite]

theorem blockOf_mbxAck (m : Fin 16) : (blockOf (0x1000A03 + 8 * m.val)).getD 16 = 8 := by revert m; decide

theorem State.access_mbxAck {s : State} {a : Accessor} {v : Word} (m : Fin 16) (h : s.judgeWrite a (0x1000A03 + 8 * m.val) v = none) :
    s.access a (0x1000A03 + 8 * m.val) v = s.answer (0x1000A03 + 8 * m.val) (s.wrMbxAck m.val v) := by
  rw [State.access_taken h, State.noted_plain (by clear h; revert m; decide), blockOf_mbxAck]
  have h1 : (0x1000A03 + 8 * m.val) % 8 = 3 := by omega
  have h2 : (0x1000A03 + 8 * m.val - 0x1000A00) / 8 = m.val := by omega
  simp [State.effectWrite, State.wrMbx, h1, h2]

theorem blockOf_ageStat : (blockOf 0x1000B07).getD 16 = 10 := by decide

theorem State.access_ageStat {s : State} {a : Accessor} {v : Word} (h : s.judgeWrite a 0x1000B07 v = none) :
    s.access a 0x1000B07 v = s.answer 0x1000B07 ((s.noted 0x1000B07 v).wrBgnd 0x1000B07 v) := by
  rw [State.access_taken h, blockOf_ageStat]
  rfl

theorem blockOf_ringCfg (b : Fin 4) : (blockOf (0x1001000 + 64 * b.val)).getD 16 = 13 := by revert b; decide

theorem State.access_ringCfg {s : State} {a : Accessor} {v : Word} (b : Fin 4) (h : s.judgeWrite a (0x1001000 + 64 * b.val) v = none) :
    s.access a (0x1001000 + 64 * b.val) v = s.answer (0x1001000 + 64 * b.val) ((s.noted (0x1001000 + 64 * b.val) v).wrRingCfg b.val v) := by
  rw [State.access_taken h, blockOf_ringCfg]
  have h1 : (0x1001000 + 64 * b.val) % 64 = 0 := by omega
  have h2 : (0x1001000 + 64 * b.val - 0x1001000) / 64 = b.val := by omega
  simp [State.effectWrite, State.wrBank, h1]

theorem blockOf_rxStat (d : Fin 24) : (blockOf (0x1002000 + 64 * d.val)).getD 16 = 14 := by revert d; decide

theorem State.access_rxStat {s : State} {a : Accessor} {v : Word} (d : Fin 24) (h : s.judgeWrite a (0x1002000 + 64 * d.val) v = none) :
    s.access a (0x1002000 + 64 * d.val) v = s.answer (0x1002000 + 64 * d.val) (s.wrRxStat d.val v) := by
  rw [State.access_taken h, State.noted_plain (by clear h; revert d; decide), blockOf_rxStat]
  have h1 : (0x1002000 + 64 * d.val) % 64 = 0 := by omega
  have h2 : (0x1002000 + 64 * d.val - 0x1002000) / 64 = d.val := by omega
  simp [State.effectWrite, State.wrStrip, h1]

end Sys2Proof.Machine
end

