-- ==== Sys2Proof/Laws/Inv.lean ====
section
/-!
SUPPORT. The invariant that every operation keeps: the fuses and the queue are those given, memory is canonical, and the
register tables are in key order. One lemma per operation follows in Laws/Inv<File>.lean, in the order of the machine's files.
-/
namespace Sys2Proof.Machine

/-- The invariant over the fields it is about. -/
def InvC (fz : Fuses) (pq : List Instr) (p : List Instr) (f : Fuses) (r : Tab Nat) (fo : Tab Nat) (m : Tab Word) : Prop :=
  f = fz ∧ p = pq ∧ Memory.wf m = true ∧ Tab.sorted r = true ∧ Tab.sorted fo = true

/-- Fuses `fz`, queue `pq`, canonical memory and register tables in key order. -/
def State.Inv (fz : Fuses) (pq : List Instr) (s : State) : Prop := InvC fz pq s.pending s.fuses s.regs s.force s.mem

/-- A meaning's answer: a next state with the invariant. -/
def OutInv (fz : Fuses) (pq : List Instr) : Out → Prop
  | .next t => t.Inv fz pq
  | .fault _ => False
  | .refused _ => False

/-- An action's answer: a trap cause, or a state with the invariant. -/
def ExInv (fz : Fuses) (pq : List Instr) : Except Nat State → Prop
  | .ok t => t.Inv fz pq
  | .error _ => True

variable {fz : Fuses} {pq : List Instr}

theorem inv_fold (s : State) : InvC fz pq s.pending s.fuses s.regs s.force s.mem = s.Inv fz pq :=
  propext Iff.rfl

theorem inv_mk (p : List Instr) (f : Fuses) (a n fr : Nat) (r fo : Tab Nat) (ho : Tab (Nat × Nat)) (m : Tab Word) (la : Tab Word) (re : Option Reply)
    (ck : Clk) (fi : Fire) (mo : Mon) (mi : Mirr) (af : Afe) (st : Tab Strip) (sp : List Nat) (w : Wc) (dv : Dev) (dm : Dome)
    (co : Tab Core) (e es : Tab Word) (o : OutSt) (ne : Net) (b : Bg) (ta : Tap) (et : Nat) :
    State.Inv fz pq ⟨p, f, a, n, fr, r, fo, ho, m, la, re, ck, fi, mo, mi, af, st, sp, w, dv, dm, co, e, es, o, ne, b, ta, et⟩ =
    InvC fz pq p f r fo m := propext Iff.rfl

theorem outInv_next (t : State) : OutInv fz pq (.next t) = t.Inv fz pq := propext Iff.rfl

theorem exInv_ok (t : State) : ExInv fz pq (.ok t) = t.Inv fz pq := propext Iff.rfl

theorem exInv_error (c : Nat) : ExInv fz pq (.error c) = True := propext Iff.rfl

theorem inv_ite (c : Prop) [Decidable c] {s t : State} (hs : s.Inv fz pq) (ht : t.Inv fz pq) :
    (if c then s else t).Inv fz pq := by split <;> assumption

theorem inv_foldl {α : Type} {f : State → α → State} (hf : ∀ s a, s.Inv fz pq → (f s a).Inv fz pq) (l : List α)
    {s : State} (h : s.Inv fz pq) : (l.foldl f s).Inv fz pq := by
  induction l generalizing s with
  | nil => exact h
  | cons a l ih => exact ih (hf s a h)

theorem inv_forEach {f : State → Nat → State} (hf : ∀ s a, s.Inv fz pq → (f s a).Inv fz pq) (l : List Nat)
    {s : State} (h : s.Inv fz pq) : (forEach l s f).Inv fz pq := inv_foldl hf l h

theorem inv_foldl_fst {α β : Type} {f : State × β → α → State × β}
    (hf : ∀ p a, p.1.Inv fz pq → (f p a).1.Inv fz pq) (l : List α) {p : State × β} (h : p.1.Inv fz pq) :
    (l.foldl f p).1.Inv fz pq := by
  induction l generalizing p with
  | nil => exact h
  | cons a l ih => exact ih (hf p a h)

theorem inv_foldl_snd {α β : Type} {f : β × State → α → β × State}
    (hf : ∀ p a, p.2.Inv fz pq → (f p a).2.Inv fz pq) (l : List α) {p : β × State} (h : p.2.Inv fz pq) :
    (l.foldl f p).2.Inv fz pq := by
  induction l generalizing p with
  | nil => exact h
  | cons a l ih => exact ih (hf p a h)

end Sys2Proof.Machine
end

