-- ==== Sys2Proof/Laws/InvOps.lean ====
section
/-!
SUPPORT. Every operation of Machine/Ops.lean keeps the invariant of Laws/Inv.lean.
-/
namespace Sys2Proof.Machine

variable {fz : Fuses} {pq : List Instr}

/-- A register write keeps the invariant. -/
theorem State.setFld_inv (s : State) (F : Fld) (v : Nat) (i j : Nat) (h : s.Inv fz pq) : (State.setFld s F v i j).Inv fz pq := by
  have hs := Tab.sorted_set (fun _ => F.resetVal s.fuses i) h.2.2.2.1 (F.key i j) (v % F.span)
  exact ⟨h.1, h.2.1, h.2.2.1, hs, h.2.2.2.2⟩

/-- A write of an in-force copy keeps the invariant. -/
theorem State.setForce_inv (s : State) (F : Fld) (v : Nat) (i j : Nat) (h : s.Inv fz pq) :
    (State.setForce s F v i j).Inv fz pq := by
  have hs := Tab.sorted_set (fun _ => F.resetVal s.fuses i) h.2.2.2.2 (F.key i j) (v % F.span)
  exact ⟨h.1, h.2.1, h.2.2.1, h.2.2.2.1, hs⟩

theorem State.mark_inv (s : State) (F : Fld) (f : Nat → Nat) (i : Nat) (j : Nat) (hI : s.Inv fz pq) :
    (State.mark s F f i j).Inv fz pq := by
  unfold State.mark
  simp +contextual (maxDischargeDepth := 60) only [inv_fold, inv_mk, apply_ite (State.Inv fz pq), ite_self,
    implies_true, hI]

theorem State.setBit_inv (s : State) (F : Fld) (b : Bool) (i : Nat) (j : Nat) (hI : s.Inv fz pq) :
    (State.setBit s F b i j).Inv fz pq := by
  unfold State.setBit
  simp +contextual (maxDischargeDepth := 60) only [State.setFld_inv, State.mark_inv, apply_ite (State.Inv fz pq),
    ite_self, implies_true, hI]

theorem State.orBit_inv (s : State) (F : Fld) (k : Nat) (i : Nat) (hI : s.Inv fz pq) :
    (State.orBit s F k i).Inv fz pq := by
  unfold State.orBit
  simp +contextual (maxDischargeDepth := 60) only [State.setFld_inv, State.mark_inv, apply_ite (State.Inv fz pq),
    ite_self, implies_true, hI]

theorem State.clrBit_inv (s : State) (F : Fld) (k : Nat) (i : Nat) (hI : s.Inv fz pq) :
    (State.clrBit s F k i).Inv fz pq := by
  unfold State.clrBit
  simp +contextual (maxDischargeDepth := 60) only [State.setFld_inv, hI]

theorem State.cnt_inv (s : State) (F : Fld) (n : Nat) (i : Nat) (j : Nat) (hI : s.Inv fz pq) :
    (State.cnt s F n i j).Inv fz pq := by
  unfold State.cnt
  simp +contextual (maxDischargeDepth := 60) only [State.setFld_inv, State.mark_inv, apply_ite (State.Inv fz pq),
    ite_self, implies_true, hI]

theorem State.uncnt_inv (s : State) (F : Fld) (i : Nat) (hI : s.Inv fz pq) :
    (State.uncnt s F i).Inv fz pq := by
  unfold State.uncnt
  simp +contextual (maxDischargeDepth := 60) only [State.setFld_inv, State.mark_inv, apply_ite (State.Inv fz pq),
    ite_self, implies_true, hI]

theorem State.hwFld_inv (s : State) (F : Fld) (v : Nat) (i : Nat) (j : Nat) (hI : s.Inv fz pq) :
    (State.hwFld s F v i j).Inv fz pq := by
  unfold State.hwFld
  simp +contextual (maxDischargeDepth := 60) only [State.setFld_inv, State.mark_inv, apply_ite (State.Inv fz pq),
    ite_self, implies_true, hI]

theorem State.peak_inv (s : State) (F : Fld) (v : Nat) (hI : s.Inv fz pq) :
    (State.peak s F v).Inv fz pq := by
  unfold State.peak
  simp +contextual (maxDischargeDepth := 60) only [State.setFld_inv, State.mark_inv, apply_ite (State.Inv fz pq),
    ite_self, implies_true, hI]

theorem State.cntSat_inv (s : State) (F : Fld) (n : Nat) (i : Nat) (hI : s.Inv fz pq) :
    (State.cntSat s F n i).Inv fz pq := by
  unfold State.cntSat
  simp +contextual (maxDischargeDepth := 60) only [State.setFld_inv, hI]

theorem State.setFldS_inv (s : State) (F : Fld) (v : Int) (i : Nat) (j : Nat) (hI : s.Inv fz pq) :
    (State.setFldS s F v i j).Inv fz pq := by
  unfold State.setFldS
  simp +contextual (maxDischargeDepth := 60) only [State.setFld_inv, hI]

theorem State.takeFree_inv (s : State) (x : FreeSite) (hI : s.Inv fz pq) :
    (State.takeFree s x).2.Inv fz pq := by
  unfold State.takeFree
  simp +contextual (maxDischargeDepth := 60) only [inv_fold, inv_mk, hI]

theorem State.takeErr_inv (s : State) (x : FreeSite) (b : Nat) (hI : s.Inv fz pq) :
    (State.takeErr s x b).2.Inv fz pq := by
  unfold State.takeErr
  simp +contextual (maxDischargeDepth := 60) only [State.takeFree_inv, hI]

/-- A memory write keeps the invariant. -/
theorem State.wrMem_inv (s : State) (a : Nat) (v : Word) (h : s.Inv fz pq) : (State.wrMem s a v).Inv fz pq := by
  have hw := Tab.wf_set memReset h.2.2.1 a v
  exact ⟨h.1, h.2.1, hw, h.2.2.2.1, h.2.2.2.2⟩

/-- Memory writes from an address keep the invariant. -/
theorem State.wrWords_inv (s : State) (a : Nat) (l : List Word) (h : s.Inv fz pq) : (State.wrWords s a l).Inv fz pq := by
  induction l generalizing s a with
  | nil => exact h
  | cons w l ih => exact ih _ _ (State.wrMem_inv s a w h)

theorem State.wrTile_inv (s : State) (tag : Nat) (ws : List Word) (hI : s.Inv fz pq) :
    (State.wrTile s tag ws).Inv fz pq := by
  unfold State.wrTile
  simp +contextual (maxDischargeDepth := 60) only [State.wrWords_inv, hI]

theorem State.reCrc_inv (s : State) (tag : Nat) (hI : s.Inv fz pq) :
    (State.reCrc s tag).Inv fz pq := by
  unfold State.reCrc
  simp +contextual (maxDischargeDepth := 60) only [State.wrMem_inv, hI]

theorem State.setStrip_inv (s : State) (d : Nat) (x : Strip) (hI : s.Inv fz pq) :
    (State.setStrip s d x).Inv fz pq := by
  unfold State.setStrip
  simp +contextual (maxDischargeDepth := 60) only [inv_fold, inv_mk, hI]

theorem State.setCore_inv (s : State) (c : Nat) (x : Core) (hI : s.Inv fz pq) :
    (State.setCore s c x).Inv fz pq := by
  unfold State.setCore
  simp +contextual (maxDischargeDepth := 60) only [inv_fold, inv_mk, hI]

theorem State.setBridge_inv (s : State) (n : Nat) (x : Bridge) (hI : s.Inv fz pq) :
    (State.setBridge s n x).Inv fz pq := by
  unfold State.setBridge
  simp +contextual (maxDischargeDepth := 60) only [inv_fold, inv_mk, hI]

theorem State.setRail_inv (s : State) (n : Nat) (x : Rail) (hI : s.Inv fz pq) :
    (State.setRail s n x).Inv fz pq := by
  unfold State.setRail
  simp +contextual (maxDischargeDepth := 60) only [inv_fold, inv_mk, hI]

theorem State.updBg_inv (s : State) (f : Bg → Bg) (h : s.Inv fz pq) : (State.updBg s f).Inv fz pq := h

theorem State.answer_inv (s : State) (addr : Nat) (r : WRes) (h : r.1.Inv fz pq) :
    (State.answer s addr r).Inv fz pq := by
  unfold State.answer
  split <;> exact h

theorem State.answerRead_inv (s : State) (addr : Nat) (v : Word) (hI : s.Inv fz pq) :
    (State.answerRead s addr v).Inv fz pq := by
  unfold State.answerRead
  simp +contextual (maxDischargeDepth := 60) only [inv_fold, inv_mk, hI]

theorem State.setLatch_inv (s : State) (a : Accessor) (k : Nat) (v : Word) (hI : s.Inv fz pq) :
    (State.setLatch s a k v).Inv fz pq := by
  unfold State.setLatch
  simp +contextual (maxDischargeDepth := 60) only [inv_fold, inv_mk, hI]

theorem State.dropLsr_inv (s : State) (hI : s.Inv fz pq) :
    (State.dropLsr s).Inv fz pq := by
  unfold State.dropLsr
  simp +contextual (maxDischargeDepth := 60) only [inv_fold, inv_mk, apply_ite (State.Inv fz pq), ite_self,
    implies_true, hI]

theorem State.report_inv (s : State) (r : Report) (hI : s.Inv fz pq) :
    (State.report s r).Inv fz pq := by
  unfold State.report
  simp +contextual (maxDischargeDepth := 60) only [inv_fold, inv_mk, State.dropLsr_inv, apply_ite (State.Inv fz pq),
    ite_self, hI]

theorem State.coreEvent_inv (s : State) (c : Nat) (e : Ev) (hI : s.Inv fz pq) :
    (State.coreEvent s c e).Inv fz pq := by
  unfold State.coreEvent
  simp +contextual (maxDischargeDepth := 60) only [State.setCore_inv, hI]

theorem State.coreEvents_inv (s : State) (l : List Nat) (e : Ev) (hI : s.Inv fz pq) :
    (State.coreEvents s l e).Inv fz pq := by
  unfold State.coreEvents
  simp +contextual (maxDischargeDepth := 60) only [State.coreEvent_inv, inv_forEach, implies_true, hI]

theorem State.stage_inv (s : State) (F : Fld) (v : Nat) (i : Nat) (j : Nat) (hI : s.Inv fz pq) :
    (State.stage s F v i j).Inv fz pq := by
  unfold State.stage
  simp +contextual (maxDischargeDepth := 60) only [State.setFld_inv, State.mark_inv, apply_ite (State.Inv fz pq),
    ite_self, implies_true, hI]

theorem State.copyFld_inv (s : State) (F : Fld) (hI : s.Inv fz pq) :
    (State.copyFld s F).Inv fz pq := by
  unfold State.copyFld
  simp +contextual (maxDischargeDepth := 60) only [State.setForce_inv, apply_ite (State.Inv fz pq), inv_forEach,
    ite_self, implies_true, hI]

theorem State.keepLate_inv (s : State) (g : Grp) (late : Option (List Nat)) (hI : s.Inv fz pq) :
    (State.keepLate s g late).Inv fz pq := by
  unfold State.keepLate
  dsimp only
  repeat' split
  all_goals simp +contextual (maxDischargeDepth := 60) only [inv_fold, inv_mk, State.setFld_inv, State.orBit_inv,
    apply_ite (State.Inv fz pq), ite_self, implies_true, hI]

theorem State.copyGroup_inv (s : State) (g : Grp) (hI : s.Inv fz pq) :
    (State.copyGroup s g).Inv fz pq := by
  unfold State.copyGroup
  simp +contextual (maxDischargeDepth := 60) only [inv_fold, inv_mk, State.orBit_inv, State.clrBit_inv,
    State.cnt_inv, State.coreEvents_inv, State.copyFld_inv, State.keepLate_inv, apply_ite (State.Inv fz pq),
    inv_foldl, ite_self, implies_true, hI]

theorem State.makeCommit_inv (s : State) (g : Grp) (hI : s.Inv fz pq) :
    (State.makeCommit s g).Inv fz pq := by
  unfold State.makeCommit
  simp +contextual (maxDischargeDepth := 60) only [inv_fold, inv_mk, State.orBit_inv, State.cnt_inv, apply_ite
    (State.Inv fz pq), ite_self, implies_true, hI]

end Sys2Proof.Machine
end

