-- ==== Sys2Proof/Laws/InvRing.lean ====
section
/-!
SUPPORT. Every operation of Machine/Ring.lean keeps the invariant of Laws/Inv.lean.
-/
namespace Sys2Proof.Machine

variable {fz : Fuses} {pq : List Instr}

theorem State.setRing_inv (s : State) (b : Nat) (x : Ring) (hI : s.Inv fz pq) :
    (State.setRing s b x).Inv fz pq := by
  unfold State.setRing
  simp +contextual (maxDischargeDepth := 60) only [inv_fold, inv_mk, hI]

theorem State.ringFree_inv (s : State) (b : Nat) (ack : Bool) (hI : s.Inv fz pq) :
    (State.ringFree s b ack).Inv fz pq := by
  unfold State.ringFree
  simp +contextual (maxDischargeDepth := 60) only [inv_fold, inv_mk, State.setBit_inv, State.setRing_inv, apply_ite
    (State.Inv fz pq), ite_self, implies_true, hI]

theorem State.ringLeave_inv (s : State) (o : Nat) (b : Nat) (hI : s.Inv fz pq) :
    (State.ringLeave s o b).Inv fz pq := by
  unfold State.ringLeave
  simp +contextual (maxDischargeDepth := 60) only [inv_fold, inv_mk, State.setRing_inv, State.ringFree_inv,
    apply_ite (State.Inv fz pq), ite_self, implies_true, hI]

theorem State.ringDiscarded_inv (s : State) (b : Nat) (n : Nat) (hI : s.Inv fz pq) :
    (State.ringDiscarded s b n).Inv fz pq := by
  unfold State.ringDiscarded
  simp +contextual (maxDischargeDepth := 60) only [State.cnt_inv, State.updBg_inv, State.setRing_inv, hI]

theorem State.ringMakeRoom_inv (k : Nat) (s : State) (b n : Nat) (hI : s.Inv fz pq) :
    (State.ringMakeRoom k s b n).Inv fz pq := by
  induction k generalizing s with
  | zero => exact hI
  | succ k ih =>
    unfold State.ringMakeRoom
    split
    · exact hI
    · dsimp only
      split
      · exact hI
      · exact ih _ (by simp +contextual (maxDischargeDepth := 60) only [State.setRing_inv, State.ringDiscarded_inv,
        apply_ite (State.Inv fz pq), ite_self, hI])

theorem State.writeSlot_inv (s : State) (b : Nat) (r : Word × Word) (hdr : Bool) (hI : s.Inv fz pq) :
    (State.writeSlot s b r hdr).Inv fz pq := by
  unfold State.writeSlot
  simp +contextual (maxDischargeDepth := 60) only [State.wrMem_inv, State.reCrc_inv, State.setRing_inv, hI]

theorem State.writeItem_inv (s : State) (b : Nat) (l : List (Word × Word)) (hdr : Bool) (hI : s.Inv fz pq) :
    (State.writeItem s b l hdr).Inv fz pq := by
  unfold State.writeItem
  simp +contextual (maxDischargeDepth := 60) only [State.setRing_inv, State.writeSlot_inv, inv_foldl_fst,
    implies_true, hI]

theorem State.headerCause_inv (s : State) (b : Nat) (k : Nat) (h : Option Inst) (hI : s.Inv fz pq) :
    (State.headerCause s b k h).Inv fz pq := by
  unfold State.headerCause
  simp +contextual (maxDischargeDepth := 60) only [State.setRing_inv, hI]

theorem State.headerStep_inv (s : State) (n : Int) (hI : s.Inv fz pq) :
    (State.headerStep s n).Inv fz pq := by
  unfold State.headerStep
  simp +contextual (maxDischargeDepth := 60) only [State.setRing_inv, State.headerCause_inv, inv_forEach,
    implies_true, hI]

theorem State.ringJoin_inv (s : State) (b : Nat) (hI : s.Inv fz pq) :
    (State.ringJoin s b).Inv fz pq := by
  unfold State.ringJoin
  simp +contextual (maxDischargeDepth := 60) only [State.setRing_inv, inv_forEach, implies_true, hI]

theorem State.enterHeader_inv (s : State) (b : Nat) (kind : Nat) (h : Inst) (hI : s.Inv fz pq) :
    (State.enterHeader s b kind h).Inv fz pq := by
  unfold State.enterHeader
  simp +contextual (maxDischargeDepth := 60) only [inv_fold, inv_mk, State.cnt_inv, State.setRing_inv,
    State.ringFree_inv, State.writeItem_inv, State.ringJoin_inv, apply_ite (State.Inv fz pq), ite_self,
    implies_true, hI]

theorem State.enterFirst_inv (s : State) (b : Nat) (h : Inst) (hI : s.Inv fz pq) :
    (State.enterFirst s b h).Inv fz pq := by
  unfold State.enterFirst
  simp +contextual (maxDischargeDepth := 60) only [inv_fold, inv_mk, State.setRing_inv, State.enterHeader_inv,
    apply_ite (State.Inv fz pq), ite_self, implies_true, hI]

theorem State.zoneCheck_inv (s : State) (g : OutGrp) (recs : List (Word × Word)) (hI : s.Inv fz pq) :
    (State.zoneCheck s g recs).Inv fz pq := by
  unfold State.zoneCheck
  simp +contextual (maxDischargeDepth := 60) only [inv_fold, inv_mk, hI]

theorem State.wcRow_inv (s : State) (b : Nat) (i : Nat) (hI : s.Inv fz pq) :
    (State.wcRow s b i).Inv fz pq := by
  unfold State.wcRow
  simp +contextual (maxDischargeDepth := 60) only [inv_fold, inv_mk, State.setFld_inv, State.orBit_inv,
    State.clrBit_inv, apply_ite (State.Inv fz pq), ite_self, hI]

theorem State.wcEnd_inv (s : State) (b : Nat) (hI : s.Inv fz pq) :
    (State.wcEnd s b).Inv fz pq := by
  unfold State.wcEnd
  simp +contextual (maxDischargeDepth := 60) only [inv_fold, inv_mk, State.wcRow_inv, apply_ite (State.Inv fz pq),
    inv_forEach, ite_self, implies_true, hI]

theorem State.enterGroup_inv (s : State) (b : Nat) (g : OutGrp) (h : Inst) (hI : s.Inv fz pq) :
    (State.enterGroup s b g h).Inv fz pq := by
  unfold State.enterGroup
  simp +contextual (maxDischargeDepth := 60) only [inv_fold, inv_mk, State.cnt_inv, State.updBg_inv,
    State.ringFree_inv, State.writeItem_inv, State.zoneCheck_inv, apply_ite (State.Inv fz pq), inv_foldl, ite_self,
    implies_true, hI]

theorem State.cupdDone_inv (s : State) (c : Nat) (tile : Nat) (hI : s.Inv fz pq) :
    (State.cupdDone s c tile).Inv fz pq := by
  unfold State.cupdDone
  simp +contextual (maxDischargeDepth := 60) only [inv_fold, inv_mk, State.cnt_inv, State.setCore_inv, hI]

theorem State.ringWait_inv (s : State) (b : Nat) (hI : s.Inv fz pq) :
    (State.ringWait s b).Inv fz pq := by
  unfold State.ringWait
  dsimp only
  repeat' split
  all_goals simp +contextual (maxDischargeDepth := 60) only [State.setRing_inv, hI]

theorem State.ringDiscard_inv (s : State) (b : Nat) (hI : s.Inv fz pq) :
    (State.ringDiscard s b).Inv fz pq := by
  unfold State.ringDiscard
  simp +contextual (maxDischargeDepth := 60) only [State.ringMakeRoom_inv, apply_ite (State.Inv fz pq), ite_self,
    implies_true, hI]

theorem State.ringHeader_inv (s : State) (b : Nat) (hI : s.Inv fz pq) :
    (State.ringHeader s b).Inv fz pq := by
  unfold State.ringHeader
  dsimp only
  repeat' split
  all_goals simp +contextual (maxDischargeDepth := 60) only [State.enterHeader_inv, State.enterFirst_inv,
    State.ringWait_inv, apply_ite (State.Inv fz pq), inv_foldl, ite_self, implies_true, hI]

theorem State.ringGroup_inv (s : State) (b : Nat) (hI : s.Inv fz pq) :
    (State.ringGroup s b).Inv fz pq := by
  unfold State.ringGroup
  dsimp only
  repeat' split
  all_goals simp +contextual (maxDischargeDepth := 60) only [inv_fold, inv_mk, State.setRing_inv, State.wcEnd_inv,
    State.enterGroup_inv, State.cupdDone_inv, State.ringWait_inv, apply_ite (State.Inv fz pq), ite_self,
    implies_true, hI]

theorem State.ringEntry_inv (s : State) (b : Nat) (hI : s.Inv fz pq) :
    (State.ringEntry s b).Inv fz pq := by
  unfold State.ringEntry
  simp +contextual (maxDischargeDepth := 60) only [State.ringDiscard_inv, State.ringHeader_inv, State.ringGroup_inv,
    apply_ite (State.Inv fz pq), ite_self, implies_true, hI]

theorem State.ringClosed_inv (s : State) (b : Nat) (starved : Bool) (hI : s.Inv fz pq) :
    (State.ringClosed s b starved).Inv fz pq := by
  unfold State.ringClosed
  simp +contextual (maxDischargeDepth := 60) only [State.setRing_inv, hI]

theorem State.ringSkipped_inv (s : State) (b : Nat) (hI : s.Inv fz pq) :
    (State.ringSkipped s b).Inv fz pq := by
  unfold State.ringSkipped
  simp +contextual (maxDischargeDepth := 60) only [State.setRing_inv, hI]

end Sys2Proof.Machine
end

