-- ==== Sys2Proof/Laws/InvNet.lean ====
section
/-!
SUPPORT. Every operation of Machine/Net.lean keeps the invariant of Laws/Inv.lean.
-/
namespace Sys2Proof.Machine

variable {fz : Fuses} {pq : List Instr}

theorem State.setPort_inv (s : State) (p : Nat) (x : Port) (hI : s.Inv fz pq) :
    (State.setPort s p x).Inv fz pq := by
  unfold State.setPort
  simp +contextual (maxDischargeDepth := 60) only [inv_fold, inv_mk, hI]

theorem State.updPort_inv (s : State) (p : Nat) (f : Port → Port) (hI : s.Inv fz pq) :
    (State.updPort s p f).Inv fz pq := by
  unfold State.updPort
  simp +contextual (maxDischargeDepth := 60) only [State.setPort_inv, hI]

theorem State.emit_inv (s : State) (p : Nat) (frames : List (List Word)) (hI : s.Inv fz pq) :
    (State.emit s p frames).Inv fz pq := by
  unfold State.emit
  simp +contextual (maxDischargeDepth := 60) only [inv_fold, inv_mk, State.updPort_inv, apply_ite (State.Inv fz pq),
    ite_self, implies_true, hI]

theorem State.sendTrain_inv (s : State) (p : Nat) (hI : s.Inv fz pq) :
    (State.sendTrain s p).Inv fz pq := by
  unfold State.sendTrain
  simp +contextual (maxDischargeDepth := 60) only [State.emit_inv, apply_ite (State.Inv fz pq), ite_self,
    implies_true, hI]

theorem State.sendFlow_inv (s : State) (p : Nat) (hI : s.Inv fz pq) :
    (State.sendFlow s p).Inv fz pq := by
  unfold State.sendFlow
  simp +contextual (maxDischargeDepth := 60) only [inv_fold, inv_mk, State.updPort_inv, State.emit_inv, apply_ite
    (State.Inv fz pq), ite_self, implies_true, hI]

theorem State.sendNow_inv (s : State) (p : Nat) (f : TxF) (hI : s.Inv fz pq) :
    (State.sendNow s p f).Inv fz pq := by
  unfold State.sendNow
  simp +contextual (maxDischargeDepth := 60) only [inv_fold, inv_mk, State.cnt_inv, State.setPort_inv,
    State.emit_inv, apply_ite (State.Inv fz pq), ite_self, implies_true, hI]

theorem State.freed_inv (s : State) (p : Nat) (c : Nat) (hI : s.Inv fz pq) :
    (State.freed s p c).Inv fz pq := by
  unfold State.freed
  simp +contextual (maxDischargeDepth := 60) only [State.updPort_inv, apply_ite (State.Inv fz pq), ite_self, hI]

theorem State.passed_inv (s : State) (p : Nat) (f : TxF) (hI : s.Inv fz pq) :
    (State.passed s p f).Inv fz pq := by
  unfold State.passed
  simp +contextual (maxDischargeDepth := 60) only [State.freed_inv, apply_ite (State.Inv fz pq), ite_self, hI]

theorem State.pumpOne_pump1_inv (s : State) (p : Nat) (x : Port) {t : State} (hI : s.Inv fz pq)
    (h : State.pumpOne.pump1 p s x = some t) : t.Inv fz pq := by
  unfold State.pumpOne.pump1 at h
  split at h
  · split at h
    · injection h with h
      subst h
      simp +contextual (maxDischargeDepth := 60) only [State.setPort_inv, State.sendNow_inv, State.passed_inv, hI]
    · cases h
  · cases h

/-- A frame that a port sends. -/
theorem State.pumpOne_inv (s : State) (p : Nat) {t : State} (hI : s.Inv fz pq) (h : s.pumpOne p = some t) :
    t.Inv fz pq := by
  unfold State.pumpOne at h
  dsimp only at h
  split at h
  · split at h
    · injection h with h
      subst h
      simp +contextual (maxDischargeDepth := 60) only [State.setPort_inv, State.sendNow_inv, State.passed_inv, hI]
    · exact State.pumpOne_pump1_inv _ _ _ hI h
  · exact State.pumpOne_pump1_inv _ _ _ hI h

theorem State.pumpN_inv (n : Nat) (s : State) (p : Nat) (hI : s.Inv fz pq) : (State.pumpN n s p).Inv fz pq := by
  induction n generalizing s with
  | zero => exact hI
  | succ n ih =>
    unfold State.pumpN
    split
    · rename_i t ht
      exact ih _ (State.pumpOne_inv _ _ hI ht)
    · exact hI

theorem State.pump_inv (s : State) (p : Nat) (hI : s.Inv fz pq) :
    (State.pump s p).Inv fz pq := by
  unfold State.pump
  simp +contextual (maxDischargeDepth := 60) only [State.pumpN_inv, hI]

theorem State.enqueue_inv (s : State) (p : Nat) (f : TxF) (hI : s.Inv fz pq) :
    (State.enqueue s p f).Inv fz pq := by
  unfold State.enqueue
  simp +contextual (maxDischargeDepth := 60) only [inv_fold, inv_mk, State.updPort_inv, State.passed_inv,
    State.pump_inv, apply_ite (State.Inv fz pq), ite_self, implies_true, hI]

theorem State.queueFrame_inv (s : State) (p : Nat) (c : Nat) (words : List Word) (hI : s.Inv fz pq) :
    (State.queueFrame s p c words).Inv fz pq := by
  unfold State.queueFrame
  simp +contextual (maxDischargeDepth := 60) only [State.enqueue_inv, apply_ite (State.Inv fz pq), ite_self,
    implies_true, hI]

theorem State.queueAnswer_inv (s : State) (p : Nat) (c : Nat) (words : List Word) (hI : s.Inv fz pq) :
    (State.queueAnswer s p c words).Inv fz pq := by
  unfold State.queueAnswer
  simp +contextual (maxDischargeDepth := 60) only [inv_fold, inv_mk, State.updPort_inv, State.enqueue_inv, apply_ite
    (State.Inv fz pq), ite_self, implies_true, hI]

theorem State.eventOn_inv (s : State) (p : Nat) (orig : Nat) (code : Nat) (body : List Word) (hI : s.Inv fz pq) :
    (State.eventOn s p orig code body).Inv fz pq := by
  unfold State.eventOn
  simp +contextual (maxDischargeDepth := 60) only [State.queueFrame_inv, hI]

theorem State.sendEvent_inv (s : State) (code : Nat) (k : Nat) (body : List Word) (hI : s.Inv fz pq) :
    (State.sendEvent s code k body).1.Inv fz pq := by
  unfold State.sendEvent
  simp +contextual (maxDischargeDepth := 60) only [State.eventOn_inv, inv_forEach, implies_true, hI]

theorem State.portEvent_inv (s : State) (hI : s.Inv fz pq) :
    (State.portEvent s).Inv fz pq := by
  unfold State.portEvent
  simp +contextual (maxDischargeDepth := 60) only [State.sendEvent_inv, hI]

theorem State.modeEvent_inv (s : State) (hI : s.Inv fz pq) :
    (State.modeEvent s).Inv fz pq := by
  unfold State.modeEvent
  simp +contextual (maxDischargeDepth := 60) only [State.sendEvent_inv, hI]

theorem State.faultEvent_inv (s : State) (hI : s.Inv fz pq) :
    (State.faultEvent s).Inv fz pq := by
  unfold State.faultEvent
  simp +contextual (maxDischargeDepth := 60) only [State.sendEvent_inv, hI]

theorem State.chainUpdate_inv (s : State) (tell : Bool) (hI : s.Inv fz pq) :
    (State.chainUpdate s tell).Inv fz pq := by
  unfold State.chainUpdate
  simp +contextual (maxDischargeDepth := 60) only [inv_fold, inv_mk, State.setFld_inv, State.queueFrame_inv,
    apply_ite (State.Inv fz pq), ite_self, hI]

theorem State.setMbx_inv (s : State) (m : Nat) (x : Mbx) (hI : s.Inv fz pq) :
    (State.setMbx s m x).Inv fz pq := by
  unfold State.setMbx
  simp +contextual (maxDischargeDepth := 60) only [inv_fold, inv_mk, hI]

theorem State.notice_inv (s : State) (m : Nat) (code : Nat) (tgt : Nat) (hI : s.Inv fz pq) :
    (State.notice s m code tgt).Inv fz pq := by
  unfold State.notice
  simp +contextual (maxDischargeDepth := 60) only [State.eventOn_inv, State.setMbx_inv, apply_ite (State.Inv fz pq),
    ite_self, hI]

theorem State.mbxPlace_inv (s : State) (m : Nat) (sender : Nat) (msg : List Word) (hI : s.Inv fz pq) :
    (State.mbxPlace s m sender msg).1.Inv fz pq := by
  unfold State.mbxPlace
  simp +contextual (maxDischargeDepth := 60) only [State.cnt_inv, State.setMbx_inv, State.notice_inv,
    apply_ite (State.Inv fz pq), apply_ite Prod.fst, ite_self, hI]

theorem State.mbxTake_inv (s : State) (m : Nat) (hI : s.Inv fz pq) :
    (State.mbxTake s m).Inv fz pq := by
  unfold State.mbxTake
  simp +contextual (maxDischargeDepth := 60) only [State.setMbx_inv, hI]

theorem State.mbxSetAck_inv (s : State) (m : Nat) (v : Bool) (hI : s.Inv fz pq) :
    (State.mbxSetAck s m v).Inv fz pq := by
  unfold State.mbxSetAck
  simp +contextual (maxDischargeDepth := 60) only [State.setBit_inv, State.setMbx_inv, State.notice_inv,
    apply_ite (State.Inv fz pq), ite_self, hI]

theorem State.lateNotices_inv (s : State) (p : Nat) (hI : s.Inv fz pq) :
    (State.lateNotices s p).Inv fz pq := by
  unfold State.lateNotices
  simp +contextual (maxDischargeDepth := 60) only [State.setMbx_inv, State.notice_inv, apply_ite (State.Inv fz pq),
    inv_forEach, ite_self, implies_true, hI]

theorem State.setSem_inv (s : State) (n : Nat) (x : Sem) (hI : s.Inv fz pq) :
    (State.setSem s n x).Inv fz pq := by
  unfold State.setSem
  simp +contextual (maxDischargeDepth := 60) only [inv_fold, inv_mk, hI]

theorem State.semRelease_inv (s : State) (n : Nat) (hI : s.Inv fz pq) :
    (State.semRelease s n).Inv fz pq := by
  unfold State.semRelease
  simp +contextual (maxDischargeDepth := 60) only [State.queueFrame_inv, State.setSem_inv, inv_forEach, implies_true,
    hI]

theorem State.semReleaseAll_inv (s : State) (owner : Nat) (hI : s.Inv fz pq) :
    (State.semReleaseAll s owner).Inv fz pq := by
  unfold State.semReleaseAll
  simp +contextual (maxDischargeDepth := 60) only [State.semRelease_inv, apply_ite (State.Inv fz pq), inv_forEach,
    ite_self, implies_true, hI]

theorem State.semClaim_inv (s : State) (n : Nat) (a : Accessor) (hI : s.Inv fz pq) :
    (State.semClaim s n a).2.Inv fz pq := by
  unfold State.semClaim
  simp +contextual (maxDischargeDepth := 60) only [State.setSem_inv, apply_ite (State.Inv fz pq), apply_ite Prod.snd,
    ite_self, hI]

theorem State.semWrite_inv (s : State) (n : Nat) (a : Accessor) (v : Word) (hI : s.Inv fz pq) :
    (State.semWrite s n a v).1.Inv fz pq := by
  unfold State.semWrite
  simp +contextual (maxDischargeDepth := 60) only [State.setFld_inv, State.semRelease_inv,
    apply_ite (State.Inv fz pq), apply_ite Prod.fst, ite_self, hI]

theorem State.startTrain_inv (s : State) (p : Nat) (hI : s.Inv fz pq) :
    (State.startTrain s p).Inv fz pq := by
  unfold State.startTrain
  simp +contextual (maxDischargeDepth := 60) only [inv_fold, inv_mk, State.setFld_inv, State.setPort_inv,
    State.sendTrain_inv, apply_ite (State.Inv fz pq), ite_self, implies_true, hI]

theorem State.portDown_inv (s : State) (p : Nat) (cause : Nat) (hI : s.Inv fz pq) :
    (State.portDown s p cause).Inv fz pq := by
  unfold State.portDown
  dsimp only
  repeat' split
  all_goals simp +contextual (maxDischargeDepth := 60) only [inv_fold, inv_mk, State.setFld_inv,
    State.ringLeave_inv, State.setPort_inv, State.passed_inv, State.portEvent_inv, State.chainUpdate_inv,
    State.startTrain_inv, apply_ite (State.Inv fz pq), inv_forEach, inv_foldl, ite_self, implies_true, hI]

theorem State.portUp_inv (s : State) (p : Nat) (freed0 : Nat) (freed1 : Nat) (hI : s.Inv fz pq) :
    (State.portUp s p freed0 freed1).Inv fz pq := by
  unfold State.portUp
  simp +contextual (maxDischargeDepth := 60) only [inv_fold, inv_mk, State.setFld_inv, State.cnt_inv,
    State.setPort_inv, State.portEvent_inv, State.chainUpdate_inv, State.lateNotices_inv, apply_ite (State.Inv fz
    pq), ite_self, implies_true, hI]

theorem State.portsBringUp_inv (s : State) (hI : s.Inv fz pq) :
    (State.portsBringUp s).Inv fz pq := by
  unfold State.portsBringUp
  simp +contextual (maxDischargeDepth := 60) only [State.startTrain_inv, apply_ite (State.Inv fz pq), inv_forEach,
    ite_self, implies_true, hI]

theorem State.portsDown_inv (s : State) (hI : s.Inv fz pq) :
    (State.portsDown s).Inv fz pq := by
  unfold State.portsDown
  simp +contextual (maxDischargeDepth := 60) only [State.portDown_inv, apply_ite (State.Inv fz pq), inv_forEach,
    ite_self, implies_true, hI]

theorem State.portsStop_inv (s : State) (hI : s.Inv fz pq) :
    (State.portsStop s).Inv fz pq := by
  unfold State.portsStop
  simp +contextual (maxDischargeDepth := 60) only [inv_fold, inv_mk, State.setFld_inv, State.ringLeave_inv,
    State.updPort_inv, State.chainUpdate_inv, apply_ite (State.Inv fz pq), inv_forEach, inv_foldl, ite_self,
    implies_true, hI]

theorem State.rxAccept_inv (s : State) (p : Nat) (f : List Word) (act : State → State)
    (ha : ∀ t, t.Inv fz pq → (act t).Inv fz pq) (hI : s.Inv fz pq) : (s.rxAccept p f act).Inv fz pq := by
  unfold State.rxAccept
  simp +contextual (maxDischargeDepth := 60) only [State.setPort_inv, State.cnt_inv, apply_ite (State.Inv fz pq),
    ite_self, ha, hI]

theorem State.release_inv (s : State) (p n : Nat) (hI : s.Inv fz pq) : (s.release p n).Inv fz pq := by
  unfold State.release
  dsimp only
  split
  · exact hI
  · split
    · exact hI
    · refine inv_foldl (fun t f ht => ?_) _ (State.setPort_inv _ _ _ hI)
      split
      · split
        · exact State.ringFree_inv _ _ _ (State.setRing_inv _ _ _ ht)
        · exact ht
      · exact ht

theorem State.replay_inv (s : State) (p : Nat) (hI : s.Inv fz pq) :
    (State.replay s p).Inv fz pq := by
  unfold State.replay
  simp +contextual (maxDischargeDepth := 60) only [inv_fold, inv_mk, State.cnt_inv, State.setPort_inv,
    State.emit_inv, apply_ite (State.Inv fz pq), inv_foldl, ite_self, implies_true, hI]

end Sys2Proof.Machine
end

