-- ==== Sys2Proof/Laws/InvClocks.lean ====
section
/-!
SUPPORT. Every operation of Machine/Clocks.lean keeps the invariant of Laws/Inv.lean.
-/
namespace Sys2Proof.Machine

variable {fz : Fuses} {pq : List Instr}

theorem execRefclkLoss_inv (absent : Bool) (s : State) (hI : s.Inv fz pq) :
    OutInv fz pq (execRefclkLoss absent s) := by
  unfold execRefclkLoss
  simp +contextual (maxDischargeDepth := 60) only [inv_fold, inv_mk, outInv_next, whenOn, State.setBit_inv,
    State.report_inv, apply_ite (State.Inv fz pq), ite_self, hI]

theorem State.startTime_inv (s : State) (hI : s.Inv fz pq) :
    (State.startTime s).Inv fz pq := by
  unfold State.startTime
  simp +contextual (maxDischargeDepth := 60) only [inv_fold, inv_mk, State.setBit_inv, apply_ite (State.Inv fz pq),
    ite_self, hI]

theorem State.alignRef_inv (s : State) (hI : s.Inv fz pq) :
    (State.alignRef s).Inv fz pq := by
  unfold State.alignRef
  simp +contextual (maxDischargeDepth := 60) only [inv_fold, inv_mk, State.takeFree_inv, apply_ite (State.Inv fz
    pq), ite_self, implies_true, hI]

theorem execPllLock_inv (p : Pll) (band : BitVec 6) (s : State) (hI : s.Inv fz pq) :
    OutInv fz pq (execPllLock p band s) := by
  unfold execPllLock
  try simp +contextual (maxDischargeDepth := 60) only [outInv_next, whenOn, onlyIf, apply_ite (State.Inv fz pq),
    ite_self, implies_true, hI]
  all_goals repeat' split
  all_goals simp +contextual (maxDischargeDepth := 60) only [outInv_next, whenOn, onlyIf, inv_fold, inv_mk,
    State.setFld_inv, State.setBit_inv, State.portsBringUp_inv, State.startTime_inv, State.alignRef_inv, apply_ite
    (State.Inv fz pq), ite_self, implies_true, hI]

theorem execPllLossOfLock_inv (p : Pll) (s : State) (hI : s.Inv fz pq) :
    OutInv fz pq (execPllLossOfLock p s) := by
  unfold execPllLossOfLock
  simp +contextual (maxDischargeDepth := 60) only [outInv_next, whenOn, onlyIf, State.setBit_inv, State.report_inv,
    apply_ite (State.Inv fz pq), ite_self, hI]

theorem State.relock_inv (s : State) (p : Pll) (hI : s.Inv fz pq) :
    (State.relock s p).Inv fz pq := by
  unfold State.relock
  simp +contextual (maxDischargeDepth := 60) only [inv_fold, inv_mk, State.setBit_inv, State.portsDown_inv,
    apply_ite (State.Inv fz pq), ite_self, hI]

theorem State.wrPllCtrl_inv (s : State) (v : Word) (hI : s.Inv fz pq) :
    (State.wrPllCtrl s v).1.Inv fz pq := by
  unfold State.wrPllCtrl
  simp +contextual (maxDischargeDepth := 60) only [State.relock_inv, apply_ite (State.Inv fz pq), apply_ite Prod.fst,
    ite_self, hI]

theorem execSyncInEdge_inv (s : State) (hI : s.Inv fz pq) :
    OutInv fz pq (execSyncInEdge s) := by
  unfold execSyncInEdge
  simp +contextual (maxDischargeDepth := 60) only [inv_fold, inv_mk, outInv_next, whenLive, onlyIf,
    apply_ite (State.Inv fz pq), ite_self, hI]

theorem State.stretchCycle_inv (s : State) (hI : s.Inv fz pq) :
    (State.stretchCycle s).Inv fz pq := by
  unfold State.stretchCycle
  simp +contextual (maxDischargeDepth := 60) only [inv_fold, inv_mk, State.takeFree_inv, apply_ite (State.Inv fz
    pq), ite_self, implies_true, hI]

theorem execDividerReset_inv (spllMoved : Bool) (lpllMoved : Bool) (s : State) (hI : s.Inv fz pq) :
    OutInv fz pq (execDividerReset spllMoved lpllMoved s) := by
  unfold execDividerReset
  simp +contextual (maxDischargeDepth := 60) only [outInv_next, whenLive, onlyIf, inv_fold, inv_mk,
    State.setBit_inv, State.hwFld_inv, State.portsBringUp_inv, State.portsDown_inv, State.stretchCycle_inv,
    apply_ite (State.Inv fz pq), ite_self, implies_true, hI]

theorem State.sscStart_inv (s : State) (hI : s.Inv fz pq) :
    (State.sscStart s).Inv fz pq := by
  unfold State.sscStart
  simp +contextual (maxDischargeDepth := 60) only [inv_fold, inv_mk, State.setFld_inv, State.setBit_inv, apply_ite
    (State.Inv fz pq), ite_self, implies_true, hI]

theorem State.wrSscCfg_inv (s : State) (v : Word) (hI : s.Inv fz pq) :
    (State.wrSscCfg s v).1.Inv fz pq := by
  unfold State.wrSscCfg
  dsimp only
  repeat' split
  all_goals simp +contextual (maxDischargeDepth := 60) only [inv_fold, inv_mk, State.setFld_inv, State.setBit_inv,
    State.sscStart_inv, apply_ite (State.Inv fz pq), ite_self, implies_true, hI]

theorem State.wrSscSeg_inv (s : State) (n : Nat) (v : Word) (hI : s.Inv fz pq) :
    (State.wrSscSeg s n v).1.Inv fz pq := by
  unfold State.wrSscSeg
  simp +contextual (maxDischargeDepth := 60) only [State.setFld_inv, apply_ite (State.Inv fz pq), apply_ite Prod.fst,
    ite_self, hI]

theorem execSscSegmentEnd_inv (s : State) (hI : s.Inv fz pq) :
    OutInv fz pq (execSscSegmentEnd s) := by
  unfold execSscSegmentEnd
  simp +contextual (maxDischargeDepth := 60) only [outInv_next, whenLive, onlyIf, inv_fold, inv_mk,
    State.setFld_inv, apply_ite (State.Inv fz pq), ite_self, implies_true, hI]

theorem execSscPeriodEnd_inv (s : State) (hI : s.Inv fz pq) :
    OutInv fz pq (execSscPeriodEnd s) := by
  unfold execSscPeriodEnd
  simp +contextual (maxDischargeDepth := 60) only [outInv_next, whenLive, onlyIf, inv_fold, inv_mk,
    State.setFld_inv, State.setBit_inv, apply_ite (State.Inv fz pq), ite_self, implies_true, hI]

theorem State.moveTime_inv (s : State) (n : Int) (hI : s.Inv fz pq) :
    (State.moveTime s n).Inv fz pq := by
  unfold State.moveTime
  simp +contextual (maxDischargeDepth := 60) only [inv_fold, inv_mk, hI]

theorem State.setSec_inv (s : State) (n : Int) (hI : s.Inv fz pq) :
    (State.setSec s n).Inv fz pq := by
  unfold State.setSec
  simp +contextual (maxDischargeDepth := 60) only [State.headerStep_inv, State.moveTime_inv,
    apply_ite (State.Inv fz pq), ite_self, hI]

theorem State.atRollover_inv (s : State) (hI : s.Inv fz pq) :
    (State.atRollover s).Inv fz pq := by
  unfold State.atRollover
  simp +contextual (maxDischargeDepth := 60) only [State.copyGroup_inv, State.setSec_inv,
    apply_ite (State.Inv fz pq), ite_self, hI]

theorem State.tickOnce_inv (s : State) (hI : s.Inv fz pq) :
    (State.tickOnce s).Inv fz pq := by
  unfold State.tickOnce
  simp +contextual (maxDischargeDepth := 60) only [inv_fold, inv_mk, State.atRollover_inv, apply_ite (State.Inv fz
    pq), ite_self, implies_true, hI]

theorem State.rdTimeNow_inv (s : State) (a : Accessor) (hI : s.Inv fz pq) :
    (State.rdTimeNow s a).2.Inv fz pq := by
  unfold State.rdTimeNow
  simp +contextual (maxDischargeDepth := 60) only [State.setLatch_inv, hI]

theorem execTimeNowRead_inv (a : Accessor) (s : State) (hI : s.Inv fz pq) :
    OutInv fz pq (execTimeNowRead a s) := by
  unfold execTimeNowRead
  simp +contextual (maxDischargeDepth := 60) only [outInv_next, whenLive, State.answerRead_inv, State.rdTimeNow_inv,
    apply_ite (State.Inv fz pq), ite_self, hI]

theorem execPpsEdge_inv (phase : BitVec 4) (s : State) (hI : s.Inv fz pq) :
    OutInv fz pq (execPpsEdge phase s) := by
  unfold execPpsEdge
  simp +contextual (maxDischargeDepth := 60) only [inv_fold, inv_mk, outInv_next, whenLive, State.cnt_inv,
    apply_ite (State.Inv fz pq), ite_self, hI]

theorem State.slewCancel_inv (s : State) (hI : s.Inv fz pq) :
    (State.slewCancel s).Inv fz pq := by
  unfold State.slewCancel
  simp +contextual (maxDischargeDepth := 60) only [inv_fold, inv_mk, State.setBit_inv, hI]

theorem State.ppsStep_inv (s : State) (err : Int) (hI : s.Inv fz pq) :
    (State.ppsStep s err).Inv fz pq := by
  unfold State.ppsStep
  simp +contextual (maxDischargeDepth := 60) only [State.setBit_inv, State.headerStep_inv, State.moveTime_inv,
    apply_ite (State.Inv fz pq), ite_self, hI]

theorem State.slewSchedule_inv (s : State) (e : Inst) (err : Int) (hI : s.Inv fz pq) :
    (State.slewSchedule s e err).Inv fz pq := by
  unfold State.slewSchedule
  simp +contextual (maxDischargeDepth := 60) only [inv_fold, inv_mk, State.setBit_inv, hI]

theorem State.ppsAccept_inv (s : State) (e : Inst) (hI : s.Inv fz pq) :
    (State.ppsAccept s e).Inv fz pq := by
  unfold State.ppsAccept
  dsimp only
  repeat' split
  all_goals simp +contextual (maxDischargeDepth := 60) only [inv_fold, inv_mk, State.setFld_inv, State.setBit_inv,
    State.cnt_inv, State.setFldS_inv, State.copyGroup_inv, State.setSec_inv, State.slewCancel_inv, State.ppsStep_inv,
    State.slewSchedule_inv, hI]

theorem execPpsEdgeQualified_inv (held : Bool) (s : State) (hI : s.Inv fz pq) :
    OutInv fz pq (execPpsEdgeQualified held s) := by
  unfold execPpsEdgeQualified
  try simp +contextual (maxDischargeDepth := 60) only [outInv_next, whenLive, apply_ite (State.Inv fz pq), hI]
  all_goals repeat' split
  all_goals simp +contextual (maxDischargeDepth := 60) only [inv_fold, inv_mk, State.cnt_inv, State.ppsAccept_inv, hI]

theorem execSlewAdjustment_inv (s : State) (hI : s.Inv fz pq) :
    OutInv fz pq (execSlewAdjustment s) := by
  unfold execSlewAdjustment
  simp +contextual (maxDischargeDepth := 60) only [inv_fold, inv_mk, outInv_next, whenLive, onlyIf, State.setBit_inv,
    State.moveTime_inv, State.atRollover_inv, apply_ite (State.Inv fz pq), ite_self, hI]

theorem execPpsLost_inv (s : State) (hI : s.Inv fz pq) :
    OutInv fz pq (execPpsLost s) := by
  unfold execPpsLost
  simp +contextual (maxDischargeDepth := 60) only [outInv_next, whenLive, onlyIf, State.setBit_inv,
    apply_ite (State.Inv fz pq), ite_self, hI]

theorem State.wrFmuCfg_inv (s : State) (v : Word) (hI : s.Inv fz pq) :
    (State.wrFmuCfg s v).1.Inv fz pq := by
  unfold State.wrFmuCfg
  simp +contextual (maxDischargeDepth := 60) only [inv_fold, inv_mk, State.setFld_inv, State.setBit_inv,
    apply_ite (State.Inv fz pq), apply_ite Prod.fst, ite_self, hI]

theorem execFmuGateStart_inv (phase : BitVec 4) (s : State) (hI : s.Inv fz pq) :
    OutInv fz pq (execFmuGateStart phase s) := by
  unfold execFmuGateStart
  simp +contextual (maxDischargeDepth := 60) only [inv_fold, inv_mk, outInv_next, whenLive, onlyIf,
    apply_ite (State.Inv fz pq), ite_self, hI]

theorem execFmuGateStop_inv (phase : BitVec 4) (s : State) (hI : s.Inv fz pq) :
    OutInv fz pq (execFmuGateStop phase s) := by
  unfold execFmuGateStop
  try simp +contextual (maxDischargeDepth := 60) only [outInv_next, whenLive, onlyIf, apply_ite (State.Inv fz pq), hI]
  all_goals repeat' split
  all_goals simp +contextual (maxDischargeDepth := 60) only [inv_fold, inv_mk, State.setBit_inv, State.setFldS_inv,
    hI]

theorem execFmuTimeout_inv (s : State) (hI : s.Inv fz pq) :
    OutInv fz pq (execFmuTimeout s) := by
  unfold execFmuTimeout
  simp +contextual (maxDischargeDepth := 60) only [inv_fold, inv_mk, outInv_next, whenLive, onlyIf, State.setFld_inv,
    State.setBit_inv, apply_ite (State.Inv fz pq), ite_self, hI]

end Sys2Proof.Machine
end

