-- ==== Sys2Proof/Laws/InvMaths.lean ====
section
/-!
SUPPORT. Every operation of Machine/Maths.lean keeps the invariant of Laws/Inv.lean.
-/
namespace Sys2Proof.Machine

variable {fz : Fuses} {pq : List Instr}

theorem State.near_inv (s : State) (x : FreeSite) (num : Int) (den : Int) (hI : s.Inv fz pq) :
    (State.near s x num den).2.Inv fz pq := by
  unfold State.near
  simp +contextual (maxDischargeDepth := 60) only [State.takeFree_inv, apply_ite Prod.snd, ite_self, hI]

theorem State.around_inv (s : State) (x : FreeSite) (num : Int) (den : Int) (eps : Int) (hI : s.Inv fz pq) :
    (State.around s x num den eps).2.Inv fz pq := by
  unfold State.around
  dsimp only
  repeat' split
  all_goals simp +contextual (maxDischargeDepth := 60) only [State.takeFree_inv, apply_ite (State.Inv fz pq),
    ite_self, implies_true, hI]

theorem State.roundFree_inv (s : State) (num : Int) (den : Int) (hI : s.Inv fz pq) :
    (State.roundFree s num den).2.Inv fz pq := by
  unfold State.roundFree
  simp +contextual (maxDischargeDepth := 60) only [State.takeFree_inv, apply_ite (State.Inv fz pq),
    apply_ite Prod.snd, ite_self, hI]

end Sys2Proof.Machine
end

