-- ==== Sys2Proof/Laws/InvCells.lean ====
section
/-!
SUPPORT. Every operation of Machine/Cells.lean keeps the invariant of Laws/Inv.lean.
-/
namespace Sys2Proof.Machine

variable {fz : Fuses} {pq : List Instr}

theorem State.reinit_inv (s : State) (n : Nat) (hI : s.Inv fz pq) :
    (State.reinit s n).Inv fz pq := by
  unfold State.reinit
  simp +contextual (maxDischargeDepth := 60) only [inv_fold, inv_mk, State.wrTile_inv, State.setStrip_inv, apply_ite
    (State.Inv fz pq), ite_self, implies_true, hI]

theorem State.checkTile_inv (s : State) (n : Nat) (hI : s.Inv fz pq) :
    (State.checkTile s n).2.Inv fz pq := by
  unfold State.checkTile
  simp +contextual (maxDischargeDepth := 60) only [State.cnt_inv, State.updBg_inv, State.reinit_inv,
    apply_ite (State.Inv fz pq), apply_ite Prod.snd, ite_self, hI]

theorem State.openVisit_inv (s : State) (d : Nat) (col : Nat) (tcol : Inst) (hI : s.Inv fz pq) :
    (State.openVisit s d col tcol).Inv fz pq := by
  unfold State.openVisit
  dsimp only
  repeat' split
  all_goals simp +contextual (maxDischargeDepth := 60) only [State.setStrip_inv, hI]

theorem State.loadCell_inv (s : State) (d : Nat) (n : Nat) (hI : s.Inv fz pq) :
    (State.loadCell s d n).2.Inv fz pq := by
  unfold State.loadCell
  simp +contextual (maxDischargeDepth := 60) only [inv_fold, inv_mk, State.setStrip_inv, apply_ite (State.Inv fz
    pq), ite_self, implies_true, hI]

theorem State.readCell_inv (s : State) (d : Nat) (n : Nat) (hI : s.Inv fz pq) :
    (State.readCell s d n).2.Inv fz pq := by
  unfold State.readCell
  simp +contextual (maxDischargeDepth := 60) only [State.checkTile_inv, State.loadCell_inv, apply_ite (State.Inv fz
    pq), ite_self, implies_true, hI]

theorem execVisitReadDone_inv (d : Fin 24) (s : State) (hI : s.Inv fz pq) :
    OutInv fz pq (execVisitReadDone d s) := by
  unfold execVisitReadDone
  try simp +contextual (maxDischargeDepth := 60) only [outInv_next, whenLive, apply_ite (State.Inv fz pq),
    inv_foldl, ite_self, implies_true, hI]
  all_goals repeat' split
  all_goals simp +contextual (maxDischargeDepth := 60) only [outInv_next, whenLive, inv_fold, inv_mk,
    State.setStrip_inv, State.readCell_inv, apply_ite (State.Inv fz pq), inv_foldl, ite_self, implies_true, hI]

theorem State.rereadTile_inv (s : State) (n : Nat) (hI : s.Inv fz pq) :
    (State.rereadTile s n).Inv fz pq := by
  unfold State.rereadTile
  dsimp only
  repeat' split
  all_goals simp +contextual (maxDischargeDepth := 60) only [inv_fold, inv_mk, State.setStrip_inv,
    State.loadCell_inv, apply_ite (State.Inv fz pq), ite_self, implies_true, hI]

theorem State.updAcc_inv (s : State) (d : Nat) (col : Nat) (rho : Nat) (f : CellAcc → CellAcc) (hI : s.Inv fz pq) :
    (State.updAcc s d col rho f).Inv fz pq := by
  unfold State.updAcc
  dsimp only
  repeat' split
  all_goals simp +contextual (maxDischargeDepth := 60) only [State.setStrip_inv, hI]

theorem State.binDet_inv (s : State) (d : Nat) (e : Det) (hI : s.Inv fz pq) :
    (State.binDet s d e).Inv fz pq := by
  unfold State.binDet
  dsimp only
  repeat' split
  all_goals simp +contextual (maxDischargeDepth := 60) only [State.cnt_inv, State.updAcc_inv, hI]

theorem State.binHead_inv (n : Nat) (s : State) (d : Nat) (hI : s.Inv fz pq) : (State.binHead n s d).Inv fz pq := by
  induction n generalizing s with
  | zero => exact hI
  | succ n ih =>
    unfold State.binHead
    split
    · exact hI
    · split
      · exact ih _ (State.binDet_inv _ _ _ (State.setStrip_inv _ _ _ hI))
      · exact hI

theorem execBinDetection_inv (d : Fin 24) (s : State) (hI : s.Inv fz pq) :
    OutInv fz pq (execBinDetection d s) := by
  unfold execBinDetection
  simp +contextual (maxDischargeDepth := 60) only [outInv_next, whenLive, inv_fold, inv_mk, State.setStrip_inv,
    State.binHead_inv, apply_ite (State.Inv fz pq), ite_self, implies_true, hI]

theorem State.enqueueClose_inv (s : State) (d : Nat) (n : Nat) (frame : Nat) (hI : s.Inv fz pq) :
    (State.enqueueClose s d n frame).Inv fz pq := by
  unfold State.enqueueClose
  simp +contextual (maxDischargeDepth := 60) only [State.setBit_inv, State.setStrip_inv, apply_ite (State.Inv fz pq),
    ite_self, hI]

theorem State.closeCell_inv (s : State) (d : Nat) (n : Nat) (k : Nat) (frame : Nat) (hI : s.Inv fz pq) :
    (State.closeCell s d n k frame).Inv fz pq := by
  unfold State.closeCell
  simp +contextual (maxDischargeDepth := 60) only [inv_fold, inv_mk, State.cnt_inv, State.wrMem_inv, State.reCrc_inv,
    State.setStrip_inv, State.ringClosed_inv, State.enqueueClose_inv, apply_ite (State.Inv fz pq), ite_self, hI]

theorem execOverflowCellEnters_inv (d : Fin 24) (s : State) (hI : s.Inv fz pq) :
    OutInv fz pq (execOverflowCellEnters d s) := by
  unfold execOverflowCellEnters
  try simp +contextual (maxDischargeDepth := 60) only [outInv_next, whenLive, apply_ite (State.Inv fz pq), hI]
  all_goals repeat' split
  all_goals simp +contextual (maxDischargeDepth := 60) only [State.cnt_inv, State.setStrip_inv, hI]

theorem State.closedBefore_inv (s : State) (d : Nat) (n : Nat) (hI : s.Inv fz pq) :
    (State.closedBefore s d n).Inv fz pq := by
  unfold State.closedBefore
  simp +contextual (maxDischargeDepth := 60) only [inv_fold, inv_mk, State.setStrip_inv, apply_ite (State.Inv fz
    pq), ite_self, implies_true, hI]

theorem State.writeBack_inv (s : State) (d : Nat) (n : Nat) (a : CellAcc) (hI : s.Inv fz pq) :
    (State.writeBack s d n a).Inv fz pq := by
  unfold State.writeBack
  dsimp only
  repeat' split
  all_goals simp +contextual (maxDischargeDepth := 60) only [inv_fold, inv_mk, State.wrMem_inv, State.wrWords_inv,
    State.reCrc_inv, State.closeCell_inv, State.closedBefore_inv, apply_ite (State.Inv fz pq), ite_self,
    implies_true, hI]

theorem execVisitWritebackDone_inv (d : Fin 24) (s : State) (hI : s.Inv fz pq) :
    OutInv fz pq (execVisitWritebackDone d s) := by
  unfold execVisitWritebackDone
  try simp +contextual (maxDischargeDepth := 60) only [outInv_next, whenLive, apply_ite (State.Inv fz pq), hI]
  all_goals repeat' split
  all_goals simp +contextual (maxDischargeDepth := 60) only [State.setStrip_inv, State.writeBack_inv, hI]

theorem State.visitAgain_inv (s : State) (d : Nat) (x : Visit) (hI : s.Inv fz pq) :
    (State.visitAgain s d x).Inv fz pq := by
  unfold State.visitAgain
  dsimp only
  repeat' split
  all_goals simp +contextual (maxDischargeDepth := 60) only [inv_fold, inv_mk, State.setCore_inv,
    State.openVisit_inv, apply_ite (State.Inv fz pq), ite_self, implies_true, hI]

theorem State.endVisit_inv (s : State) (d : Nat) (v : Nat) (hI : s.Inv fz pq) :
    (State.endVisit s d v).Inv fz pq := by
  unfold State.endVisit
  simp +contextual (maxDischargeDepth := 60) only [inv_fold, inv_mk, State.setStrip_inv, State.readCell_inv,
    State.visitAgain_inv, apply_ite (State.Inv fz pq), ite_self, implies_true, hI]

theorem execVisitEmptyTimeout_inv (d : Fin 24) (s : State) (hI : s.Inv fz pq) :
    OutInv fz pq (execVisitEmptyTimeout d s) := by
  unfold execVisitEmptyTimeout
  try simp only [outInv_next, whenLive, apply_ite (State.Inv fz pq)]
  repeat' first
    | split
    | with_reducible refine inv_forEach (fun _ _ _ => ?_) _ ?_
    | with_reducible refine inv_foldl (fun _ _ _ => ?_) _ ?_ | dsimp only
  all_goals first | with_reducible assumption | simp +contextual (maxDischargeDepth := 60) only [inv_fold, inv_mk,
    State.cnt_inv, State.setStrip_inv, State.closeCell_inv, State.visitAgain_inv, apply_ite (State.Inv fz pq),
    inv_forEach, ite_self, implies_true, *]

theorem State.countPart_inv (s : State) (d : Nat) (col : Nat) (rho : Nat) (cls : PClass) (forced : Bool) (fskip : Bool) (stops : Nat) (blind : Nat) (lost : Nat) (lcnt : Nat) (hI : s.Inv fz pq) :
    (State.countPart s d col rho cls forced fskip stops blind lost lcnt).Inv fz pq := by
  unfold State.countPart
  dsimp only
  repeat' split
  all_goals simp +contextual (maxDischargeDepth := 60) only [State.cnt_inv, State.setStrip_inv, State.updAcc_inv, hI]

theorem State.leaveVisit_inv (s : State) (d : Nat) (col : Nat) (pid : Nat) (hI : s.Inv fz pq) :
    (State.leaveVisit s d col pid).Inv fz pq := by
  unfold State.leaveVisit
  dsimp only
  repeat' split
  all_goals simp +contextual (maxDischargeDepth := 60) only [State.setStrip_inv, State.endVisit_inv, hI]

theorem State.joinVisit_inv (s : State) (b : Nat) (col : Nat) (pid : Nat) (hI : s.Inv fz pq) :
    (State.joinVisit s b col pid).Inv fz pq := by
  unfold State.joinVisit
  try simp only
  repeat' first
    | split
    | with_reducible refine inv_forEach (fun _ _ _ => ?_) _ ?_
    | with_reducible refine inv_foldl (fun _ _ _ => ?_) _ ?_ | dsimp only
  all_goals first | with_reducible assumption | simp +contextual (maxDischargeDepth := 60) only [State.setStrip_inv,
    *]

theorem State.frameCell_inv (s : State) (d : Nat) (k : Nat) (frame : Nat) (n : Nat) (hI : s.Inv fz pq) :
    (State.frameCell s d k frame n).Inv fz pq := by
  unfold State.frameCell
  simp +contextual (maxDischargeDepth := 60) only [State.setStrip_inv, State.closeCell_inv,
    apply_ite (State.Inv fz pq), ite_self, hI]

theorem State.frameStrip_inv (s : State) (frame : Nat) (d : Nat) (hI : s.Inv fz pq) :
    (State.frameStrip s frame d).Inv fz pq := by
  unfold State.frameStrip
  simp +contextual (maxDischargeDepth := 60) only [inv_fold, inv_mk, State.setStrip_inv, State.frameCell_inv,
    apply_ite (State.Inv fz pq), inv_forEach, ite_self, implies_true, hI]

theorem State.frameNext_inv (s : State) (d : Nat) (hI : s.Inv fz pq) :
    (State.frameNext s d).Inv fz pq := by
  unfold State.frameNext
  simp +contextual (maxDischargeDepth := 60) only [State.cnt_inv, State.setStrip_inv, hI]

end Sys2Proof.Machine
end

