-- ==== Sys2Proof/Laws/InvReceiver.lean ====
section
/-!
SUPPORT. Every operation of Machine/Receiver.lean keeps the invariant of Laws/Inv.lean.
-/
namespace Sys2Proof.Machine

variable {fz : Fuses} {pq : List Instr}

theorem State.stripFault_inv (s : State) (d : Nat) (hI : s.Inv fz pq) :
    (State.stripFault s d).Inv fz pq := by
  unfold State.stripFault
  simp +contextual (maxDischargeDepth := 60) only [State.setBit_inv, State.report_inv, hI]

theorem State.setBiasErr_inv (s : State) (ds : List Nat) (hI : s.Inv fz pq) :
    (State.setBiasErr s ds).Inv fz pq := by
  unfold State.setBiasErr
  simp +contextual (maxDischargeDepth := 60) only [inv_fold, inv_mk, State.setBit_inv, State.report_inv,
    apply_ite (State.Inv fz pq), inv_forEach, ite_self, implies_true, hI]

theorem State.powerUp_inv (s : State) (d : Nat) (hI : s.Inv fz pq) :
    (State.powerUp s d).Inv fz pq := by
  unfold State.powerUp
  simp +contextual (maxDischargeDepth := 60) only [State.setBit_inv, State.setStrip_inv, apply_ite (State.Inv fz
    pq), ite_self, implies_true, hI]

theorem State.gateDomain_inv (s : State) (d : Nat) (hI : s.Inv fz pq) :
    (State.gateDomain s d).Inv fz pq := by
  unfold State.gateDomain
  simp +contextual (maxDischargeDepth := 60) only [inv_fold, inv_mk, apply_ite (State.Inv fz pq), ite_self,
    implies_true, hI]

theorem State.powerDown_inv (s : State) (d : Nat) (hI : s.Inv fz pq) :
    (State.powerDown s d).Inv fz pq := by
  unfold State.powerDown
  simp +contextual (maxDischargeDepth := 60) only [State.setBit_inv, State.setStrip_inv, State.gateDomain_inv,
    apply_ite (State.Inv fz pq), inv_foldl, ite_self, implies_true, hI]

theorem execBiasErrTimeout_inv (ds : BitVec 24) (s : State) (hI : s.Inv fz pq) :
    OutInv fz pq (execBiasErrTimeout ds s) := by
  unfold execBiasErrTimeout
  simp +contextual (maxDischargeDepth := 60) only [outInv_next, whenLive, State.setBiasErr_inv, apply_ite (State.Inv
    fz pq), ite_self, implies_true, hI]

theorem execCalStale_inv (d : Fin 24) (s : State) (hI : s.Inv fz pq) :
    OutInv fz pq (execCalStale d s) := by
  unfold execCalStale
  simp +contextual (maxDischargeDepth := 60) only [outInv_next, whenLive, onlyIf, State.setBit_inv,
    State.stripFault_inv, apply_ite (State.Inv fz pq), ite_self, hI]

theorem State.wrRxStat_inv (s : State) (d : Nat) (v : Word) (hI : s.Inv fz pq) :
    (State.wrRxStat s d v).1.Inv fz pq := by
  unfold State.wrRxStat
  simp +contextual (maxDischargeDepth := 60) only [State.setBit_inv, apply_ite (State.Inv fz pq), ite_self,
    implies_true, hI]

theorem State.assignSlot_inv (s : State) (p : Part) (tf : Inst) (d : Nat) (hI : s.Inv fz pq) :
    (State.assignSlot s p tf d).Inv fz pq := by
  unfold State.assignSlot
  dsimp only
  repeat' split
  all_goals simp +contextual (maxDischargeDepth := 60) only [inv_fold, inv_mk, State.setStrip_inv, apply_ite
    (State.Inv fz pq), ite_self, implies_true, hI]

theorem State.reassign_inv (s : State) (p : Part) (d : Nat) (hI : s.Inv fz pq) :
    (State.reassign s p d).Inv fz pq := by
  unfold State.reassign
  dsimp only
  repeat' split
  all_goals simp +contextual (maxDischargeDepth := 60) only [inv_fold, inv_mk, State.setStrip_inv, apply_ite
    (State.Inv fz pq), ite_self, implies_true, hI]

theorem State.refreshAhead_inv (s : State) (hI : s.Inv fz pq) :
    (State.refreshAhead s).Inv fz pq := by
  unfold State.refreshAhead
  simp +contextual (maxDischargeDepth := 60) only [State.reassign_inv, apply_ite (State.Inv fz pq), inv_forEach,
    inv_foldl, ite_self, implies_true, hI]

theorem execBiasOkChange_inv (d : Fin 24) (vexM : BitVec 16) (s : State) (hI : s.Inv fz pq) :
    OutInv fz pq (execBiasOkChange d vexM s) := by
  unfold execBiasOkChange
  simp +contextual (maxDischargeDepth := 60) only [outInv_next, whenLive, onlyIf, inv_fold, inv_mk,
    State.setFld_inv, State.setBit_inv, State.setStrip_inv, State.gateDomain_inv, State.refreshAhead_inv, apply_ite
    (State.Inv fz pq), ite_self, implies_true, hI]

theorem State.unassign_inv (s : State) (d : Nat) (pid : Nat) (hI : s.Inv fz pq) :
    (State.unassign s d pid).Inv fz pq := by
  unfold State.unassign
  dsimp only
  repeat' split
  all_goals simp +contextual (maxDischargeDepth := 60) only [inv_fold, inv_mk, State.setStrip_inv, apply_ite
    (State.Inv fz pq), ite_self, implies_true, hI]

theorem State.startTaken_inv (s : State) (b : Nat) (hI : s.Inv fz pq) :
    (State.startTaken s b).Inv fz pq := by
  unfold State.startTaken
  simp +contextual (maxDischargeDepth := 60) only [State.setStrip_inv, apply_ite (State.Inv fz pq), inv_forEach,
    ite_self, implies_true, hI]

theorem State.assignSlots_inv (s : State) (p : Part) (tf : Inst) (hI : s.Inv fz pq) :
    (State.assignSlots s p tf).Inv fz pq := by
  unfold State.assignSlots
  simp +contextual (maxDischargeDepth := 60) only [State.assignSlot_inv, inv_forEach, implies_true, hI]

theorem State.updPart_inv (s : State) (pid : Nat) (f : Part → Part) (hI : s.Inv fz pq) :
    (State.updPart s pid f).Inv fz pq := by
  unfold State.updPart
  simp +contextual (maxDischargeDepth := 60) only [inv_fold, inv_mk, hI]

theorem State.setChan_inv (s : State) (d : Nat) (j : Nat) (c : Chan) (hI : s.Inv fz pq) :
    (State.setChan s d j c).Inv fz pq := by
  unfold State.setChan
  simp +contextual (maxDischargeDepth := 60) only [State.setStrip_inv, hI]

theorem State.addEvent_inv (s : State) (e : SpadEv) (hI : s.Inv fz pq) :
    (State.addEvent s e).Inv fz pq := by
  unfold State.addEvent
  simp +contextual (maxDischargeDepth := 60) only [inv_fold, inv_mk, apply_ite (State.Inv fz pq), ite_self,
    implies_true, hI]

theorem State.takeStop_inv (s : State) (d : Nat) (j : Nat) (sl : Slot) (hI : s.Inv fz pq) :
    (State.takeStop s d j sl).Inv fz pq := by
  unfold State.takeStop
  dsimp only
  repeat' split
  all_goals simp +contextual (maxDischargeDepth := 60) only [inv_fold, inv_mk, State.cnt_inv, State.setStrip_inv,
    State.setChan_inv, apply_ite (State.Inv fz pq), ite_self, implies_true, hI]

theorem execChannelStop_inv (d : Fin 24) (j : Fin 32) (events : List SpadEv) (s : State) (hI : s.Inv fz pq) :
    OutInv fz pq (execChannelStop d j events s) := by
  unfold execChannelStop
  try simp +contextual (maxDischargeDepth := 60) only [outInv_next, whenLive, apply_ite (State.Inv fz pq),
    inv_foldl, ite_self, implies_true, hI]
  all_goals repeat' split
  all_goals simp +contextual (maxDischargeDepth := 60) only [outInv_next, whenLive, State.addEvent_inv,
    State.takeStop_inv, apply_ite (State.Inv fz pq), inv_foldl, ite_self, implies_true, hI]

theorem State.addBlind_inv (s : State) (d : Nat) (q : Nat) (rho : Nat) (n : Nat) (hI : s.Inv fz pq) :
    (State.addBlind s d q rho n).Inv fz pq := by
  unfold State.addBlind
  try simp only
  repeat' first
    | split
    | with_reducible refine inv_forEach (fun _ _ _ => ?_) _ ?_
    | with_reducible refine inv_foldl (fun _ _ _ => ?_) _ ?_ | dsimp only
  all_goals first | with_reducible assumption | simp +contextual (maxDischargeDepth := 60) only [State.setStrip_inv,
    *]

theorem State.takeBlind_inv (s : State) (d : Nat) (j : Nat) (sl : Slot) (hI : s.Inv fz pq) :
    (State.takeBlind s d j sl).Inv fz pq := by
  unfold State.takeBlind
  dsimp only
  repeat' split
  all_goals simp +contextual (maxDischargeDepth := 60) only [inv_fold, inv_mk, State.cnt_inv, State.setStrip_inv,
    State.setChan_inv, State.addBlind_inv, apply_ite (State.Inv fz pq), ite_self, implies_true, hI]

theorem execBlindCoincidence_inv (d : Fin 24) (j : Fin 32) (events : List SpadEv) (s : State) (hI : s.Inv fz pq) :
    OutInv fz pq (execBlindCoincidence d j events s) := by
  unfold execBlindCoincidence
  try simp +contextual (maxDischargeDepth := 60) only [outInv_next, whenLive, onlyIf, apply_ite (State.Inv fz pq),
    inv_foldl, ite_self, implies_true, hI]
  all_goals repeat' split
  all_goals simp +contextual (maxDischargeDepth := 60) only [outInv_next, whenLive, onlyIf, State.addEvent_inv,
    State.takeBlind_inv, apply_ite (State.Inv fz pq), inv_foldl, ite_self, implies_true, hI]

theorem execChannelRearm_inv (d : Fin 24) (j : Fin 32) (s : State) (hI : s.Inv fz pq) :
    OutInv fz pq (execChannelRearm d j s) := by
  unfold execChannelRearm
  try simp +contextual (maxDischargeDepth := 60) only [outInv_next, whenLive, onlyIf, apply_ite (State.Inv fz pq),
    ite_self, implies_true, hI]
  all_goals repeat' split
  all_goals simp +contextual (maxDischargeDepth := 60) only [outInv_next, whenLive, onlyIf, inv_fold, inv_mk,
    State.setChan_inv, apply_ite (State.Inv fz pq), ite_self, implies_true, hI]

theorem State.wcEvent_inv (s : State) (row : Nat) (hI : s.Inv fz pq) :
    (State.wcEvent s row).Inv fz pq := by
  unfold State.wcEvent
  simp +contextual (maxDischargeDepth := 60) only [inv_fold, inv_mk, hI]

theorem State.deliver_inv (s : State) (d : Nat) (q : Nat) (c : Conv) (sl : Slot) (p : Part) (cls : Nat) (val : Int)
    (hI : s.Inv fz pq) :
    (State.deliver s d q c sl p cls val).Inv fz pq := by
  unfold State.deliver
  simp +contextual (maxDischargeDepth := 60) only [inv_fold, inv_mk, State.setStrip_inv, apply_ite (State.Inv fz
    pq), ite_self, implies_true, hI]

theorem State.enterDet_inv (s : State) (d : Nat) (x : Arr) (hI : s.Inv fz pq) :
    (State.enterDet s d x).Inv fz pq := by
  unfold State.enterDet
  simp +contextual (maxDischargeDepth := 60) only [inv_fold, inv_mk, State.cnt_inv, State.setStrip_inv,
    State.addBlind_inv, apply_ite (State.Inv fz pq), ite_self, implies_true, hI]

theorem State.enterDets_inv (s : State) (d : Nat) (hI : s.Inv fz pq) :
    (State.enterDets s d).Inv fz pq := by
  unfold State.enterDets
  dsimp only
  repeat' split
  all_goals simp +contextual (maxDischargeDepth := 60) only [inv_fold, inv_mk, State.setStrip_inv,
    State.enterDet_inv, apply_ite (State.Inv fz pq), inv_foldl, ite_self, implies_true, hI]

theorem State.convert_inv (s : State) (d : Nat) (c : Conv) (hI : s.Inv fz pq) :
    (State.convert s d c).Inv fz pq := by
  unfold State.convert
  try simp only
  repeat' first
    | split
    | with_reducible refine inv_forEach (fun _ _ _ => ?_) _ ?_
    | with_reducible refine inv_foldl (fun _ _ _ => ?_) _ ?_ | dsimp only
  all_goals first | with_reducible assumption | simp +contextual (maxDischargeDepth := 60) only [State.cnt_inv,
    State.setChan_inv, State.wcEvent_inv, State.deliver_inv, *]

theorem execConversionComplete_inv (d : Fin 24) (j : Fin 32) (s : State) (hI : s.Inv fz pq) :
    OutInv fz pq (execConversionComplete d j s) := by
  unfold execConversionComplete
  try simp +contextual (maxDischargeDepth := 60) only [outInv_next, whenLive, apply_ite (State.Inv fz pq), hI]
  all_goals repeat' split
  all_goals simp +contextual (maxDischargeDepth := 60) only [State.setStrip_inv, State.convert_inv, hI]

theorem State.retireChan_inv (s : State) (d : Nat) (j : Nat) (hI : s.Inv fz pq) :
    (State.retireChan s d j).Inv fz pq := by
  unfold State.retireChan
  simp +contextual (maxDischargeDepth := 60) only [State.setBit_inv, State.cnt_inv, State.setStrip_inv,
    State.stripFault_inv, apply_ite (State.Inv fz pq), ite_self, hI]

theorem State.applyCal_inv (s : State) (d : Nat) (i : Nat) (hI : s.Inv fz pq) :
    (State.applyCal s d i).Inv fz pq := by
  unfold State.applyCal
  dsimp only
  repeat' split
  all_goals simp +contextual (maxDischargeDepth := 60) only [inv_fold, inv_mk, State.setFldS_inv,
    State.setStrip_inv, apply_ite (State.Inv fz pq), inv_forEach, ite_self, implies_true, hI]

theorem State.applyStart_inv (s : State) (d : Nat) (hI : s.Inv fz pq) :
    (State.applyStart s d).Inv fz pq := by
  unfold State.applyStart
  simp +contextual (maxDischargeDepth := 60) only [State.applyCal_inv, apply_ite (State.Inv fz pq), ite_self,
    implies_true, hI]

theorem State.releaseSlot_inv (s : State) (d : Nat) (q : Nat) (hI : s.Inv fz pq) :
    (State.releaseSlot s d q).Inv fz pq := by
  unfold State.releaseSlot
  simp +contextual (maxDischargeDepth := 60) only [inv_fold, inv_mk, State.setStrip_inv, State.applyCal_inv,
    State.applyStart_inv, apply_ite (State.Inv fz pq), inv_forEach, ite_self, implies_true, hI]

theorem execCalTestComplete_inv (d : Fin 24) (smp : Fin 33) (hits : List Nat) (offs : BitVec 16) (s : State) (hI :
    s.Inv fz pq) :
    OutInv fz pq (execCalTestComplete d smp hits offs s) := by
  unfold execCalTestComplete
  simp +contextual (maxDischargeDepth := 60) only [outInv_next, whenLive, onlyIf, State.setBit_inv, State.cnt_inv,
    State.setStrip_inv, State.retireChan_inv, apply_ite (State.Inv fz pq), ite_self, implies_true, hI]

theorem execCalNoHitTimeout_inv (d : Fin 24) (j : Fin 32) (s : State) (hI : s.Inv fz pq) :
    OutInv fz pq (execCalNoHitTimeout d j s) := by
  unfold execCalNoHitTimeout
  simp +contextual (maxDischargeDepth := 60) only [outInv_next, whenLive, onlyIf, State.retireChan_inv, apply_ite
    (State.Inv fz pq), ite_self, implies_true, hI]

theorem execListeningWindowClose_inv (b : Fin 4) (s : State) (hI : s.Inv fz pq) :
    OutInv fz pq (execListeningWindowClose b s) := by
  unfold execListeningWindowClose
  try simp +contextual (maxDischargeDepth := 60) only [outInv_next, whenLive, apply_ite (State.Inv fz pq), hI]
  all_goals repeat' split
  all_goals simp +contextual (maxDischargeDepth := 60) only [State.updPart_inv, hI]

theorem State.drainPart_inv (s : State) (d : Nat) (pid : Nat) (hI : s.Inv fz pq) :
    (State.drainPart s d pid).Inv fz pq := by
  unfold State.drainPart
  simp +contextual (maxDischargeDepth := 60) only [inv_fold, inv_mk, State.setStrip_inv, State.binDet_inv,
    State.enterDets_inv, State.convert_inv, apply_ite (State.Inv fz pq), inv_foldl, ite_self, implies_true, hI]

theorem State.forceRead_inv (s : State) (d : Nat) (col : Nat) (hI : s.Inv fz pq) :
    (State.forceRead s d col).Inv fz pq := by
  unfold State.forceRead
  dsimp only
  repeat' split
  all_goals simp +contextual (maxDischargeDepth := 60) only [State.setStrip_inv, State.readCell_inv, hI]

theorem State.leaveStrip_inv (s : State) (p : Part) (d : Nat) (hI : s.Inv fz pq) :
    (State.leaveStrip s p d).Inv fz pq := by
  unfold State.leaveStrip
  dsimp only
  repeat' split
  all_goals simp +contextual (maxDischargeDepth := 60) only [State.countPart_inv, State.leaveVisit_inv,
    State.releaseSlot_inv, State.drainPart_inv, State.forceRead_inv, hI]

theorem State.dropPart_inv (s : State) (p : Part) (hI : s.Inv fz pq) :
    (State.dropPart s p).Inv fz pq := by
  unfold State.dropPart
  simp +contextual (maxDischargeDepth := 60) only [inv_fold, inv_mk, apply_ite (State.Inv fz pq), ite_self,
    implies_true, hI]

theorem State.pruneEvents_inv (s : State) (hI : s.Inv fz pq) :
    (State.pruneEvents s).Inv fz pq := by
  unfold State.pruneEvents
  simp +contextual (maxDischargeDepth := 60) only [inv_fold, inv_mk, apply_ite (State.Inv fz pq), ite_self,
    implies_true, hI]

theorem execPartLeavesFlight_inv (b : Fin 4) (s : State) (hI : s.Inv fz pq) :
    OutInv fz pq (execPartLeavesFlight b s) := by
  unfold execPartLeavesFlight
  try simp +contextual (maxDischargeDepth := 60) only [outInv_next, whenLive, apply_ite (State.Inv fz pq),
    inv_forEach, ite_self, implies_true, hI]
  all_goals repeat' split
  all_goals simp +contextual (maxDischargeDepth := 60) only [outInv_next, whenLive, State.leaveStrip_inv,
    State.dropPart_inv, State.pruneEvents_inv, apply_ite (State.Inv fz pq), inv_forEach, ite_self, implies_true, hI]

end Sys2Proof.Machine
end

