-- ==== Sys2Proof/Laws/InvFiring.lean ====
section
/-!
SUPPORT. Every operation of Machine/Firing.lean keeps the invariant of Laws/Inv.lean.
-/
namespace Sys2Proof.Machine

variable {fz : Fuses} {pq : List Instr}

theorem State.settleBudget_inv (s : State) (hI : s.Inv fz pq) :
    (State.settleBudget s).Inv fz pq := by
  unfold State.settleBudget
  simp +contextual (maxDischargeDepth := 60) only [inv_fold, inv_mk, hI]

theorem State.scheduleWake_inv (s : State) (bs : List Nat) (hI : s.Inv fz pq) :
    (State.scheduleWake s bs).Inv fz pq := by
  unfold State.scheduleWake
  simp +contextual (maxDischargeDepth := 60) only [inv_fold, inv_mk, hI]

theorem State.wakeBank_inv (s : State) (b : Nat) (hI : s.Inv fz pq) :
    (State.wakeBank s b).Inv fz pq := by
  unfold State.wakeBank
  simp +contextual (maxDischargeDepth := 60) only [inv_fold, inv_mk, State.orBit_inv, State.powerUp_inv, apply_ite
    (State.Inv fz pq), inv_forEach, ite_self, implies_true, hI]

theorem State.sleepBank_inv (s : State) (b : Nat) (hI : s.Inv fz pq) :
    (State.sleepBank s b).Inv fz pq := by
  unfold State.sleepBank
  simp +contextual (maxDischargeDepth := 60) only [inv_fold, inv_mk, State.clrBit_inv, State.powerDown_inv,
    apply_ite (State.Inv fz pq), inv_forEach, ite_self, implies_true, hI]

theorem execBankWake_inv (b : Fin 4) (s : State) (hI : s.Inv fz pq) :
    OutInv fz pq (execBankWake b s) := by
  unfold execBankWake
  simp +contextual (maxDischargeDepth := 60) only [outInv_next, whenLive, onlyIf, State.wakeBank_inv,
    apply_ite (State.Inv fz pq), ite_self, hI]

theorem State.wrFireCtrl_inv (s : State) (v : Word) (hI : s.Inv fz pq) :
    (State.wrFireCtrl s v).1.Inv fz pq := by
  unfold State.wrFireCtrl
  simp +contextual (maxDischargeDepth := 60) only [State.setFld_inv, State.scheduleWake_inv, State.sleepBank_inv,
    apply_ite (State.Inv fz pq), inv_forEach, ite_self, implies_true, hI]

theorem State.capUpdate_inv (s : State) (hI : s.Inv fz pq) :
    (State.capUpdate s).Inv fz pq := by
  unfold State.capUpdate
  simp +contextual (maxDischargeDepth := 60) only [inv_fold, inv_mk, State.settleBudget_inv, State.scheduleWake_inv,
    State.sleepBank_inv, apply_ite (State.Inv fz pq), inv_forEach, ite_self, implies_true, hI]

theorem execFireTrimCalibrationDone_inv (b : Fin 4) (trim : BitVec 6) (s : State) (hI : s.Inv fz pq) :
    OutInv fz pq (execFireTrimCalibrationDone b trim s) := by
  unfold execFireTrimCalibrationDone
  simp +contextual (maxDischargeDepth := 60) only [outInv_next, whenLive, onlyIf, inv_fold, inv_mk, State.orBit_inv,
    State.hwFld_inv, apply_ite (State.Inv fz pq), ite_self, implies_true, hI]

theorem State.abandonTrim_inv (s : State) (hI : s.Inv fz pq) :
    (State.abandonTrim s).Inv fz pq := by
  unfold State.abandonTrim
  simp +contextual (maxDischargeDepth := 60) only [inv_fold, inv_mk, hI]

theorem State.armBanks_inv (s : State) (hI : s.Inv fz pq) :
    (State.armBanks s).Inv fz pq := by
  unfold State.armBanks
  simp +contextual (maxDischargeDepth := 60) only [inv_fold, inv_mk, State.setFld_inv, State.scheduleWake_inv,
    apply_ite (State.Inv fz pq), inv_foldl, ite_self, implies_true, hI]

theorem State.ditherStep_inv (s : State) (hI : s.Inv fz pq) :
    (State.ditherStep s).2.Inv fz pq := by
  unfold State.ditherStep
  simp +contextual (maxDischargeDepth := 60) only [inv_fold, inv_mk, State.setFld_inv, hI]

theorem execSegmaskFrameStart_inv (s : State) (hI : s.Inv fz pq) :
    OutInv fz pq (execSegmaskFrameStart s) := by
  unfold execSegmaskFrameStart
  try simp +contextual (maxDischargeDepth := 60) only [outInv_next, whenLive, onlyIf, apply_ite (State.Inv fz pq), hI]
  all_goals repeat' split
  all_goals simp +contextual (maxDischargeDepth := 60) only [inv_fold, inv_mk, State.updPart_inv, hI]

theorem execSegmaskFrameEnd_inv (s : State) (hI : s.Inv fz pq) :
    OutInv fz pq (execSegmaskFrameEnd s) := by
  unfold execSegmaskFrameEnd
  simp +contextual (maxDischargeDepth := 60) only [inv_fold, inv_mk, outInv_next, whenLive, onlyIf,
    apply_ite (State.Inv fz pq), ite_self, hI]

theorem State.skipPart_inv (s : State) (p : Part) (counter : Fld) (hI : s.Inv fz pq) :
    (State.skipPart s p counter).Inv fz pq := by
  unfold State.skipPart
  simp +contextual (maxDischargeDepth := 60) only [inv_fold, inv_mk, State.cnt_inv, State.updBg_inv,
    State.ringSkipped_inv, State.leaveVisit_inv, State.dropPart_inv, apply_ite (State.Inv fz pq), inv_forEach,
    ite_self, implies_true, hI]

theorem State.joinGroup_inv (s : State) (p : Part) (tf : Inst) (hI : s.Inv fz pq) :
    (State.joinGroup s p tf).Inv fz pq := by
  unfold State.joinGroup
  simp +contextual (maxDischargeDepth := 60) only [inv_fold, inv_mk, apply_ite (State.Inv fz pq), ite_self, hI]

theorem State.fireEdge_inv (s : State) (p : Part) (cost : Nat) (hI : s.Inv fz pq) :
    (State.fireEdge s p cost).Inv fz pq := by
  unfold State.fireEdge
  simp +contextual (maxDischargeDepth := 60) only [inv_fold, inv_mk, State.cnt_inv, State.hwFld_inv,
    State.updBg_inv, State.assignSlots_inv, State.updPart_inv, State.settleBudget_inv, State.joinGroup_inv,
    apply_ite (State.Inv fz pq), inv_forEach, inv_foldl, ite_self, implies_true, hI]

theorem State.countDefer_inv (s : State) (p : Part) (step : Nat) (hI : s.Inv fz pq) :
    (State.countDefer s p step).Inv fz pq := by
  unfold State.countDefer
  try simp +contextual (maxDischargeDepth := 60) only [inv_fold, inv_mk, outInv_next, State.cnt_inv,
    State.updPart_inv, apply_ite (State.Inv fz pq), apply_ite Prod.fst, apply_ite Prod.snd, apply_ite (OutInv fz pq),
    apply_ite (ExInv fz pq), exInv_ok, exInv_error, id_eq, inv_forEach, inv_foldl, inv_foldl_fst, inv_foldl_snd,
    ite_self, implies_true, hI]
  all_goals repeat' split
  all_goals simp +contextual (maxDischargeDepth := 60) only [State.cnt_inv, State.updPart_inv, hI]

theorem State.judgePart_inv (s : State) (p : Part) (hI : s.Inv fz pq) :
    (State.judgePart s p).Inv fz pq := by
  unfold State.judgePart
  dsimp only
  repeat' split
  all_goals simp +contextual (maxDischargeDepth := 60) only [inv_fold, inv_mk, State.updPart_inv,
    State.skipPart_inv, State.fireEdge_inv, State.countDefer_inv, apply_ite (State.Inv fz pq), ite_self,
    implies_true, hI]

theorem State.judgeWaiting_inv (s : State) (hI : s.Inv fz pq) :
    (State.judgeWaiting s).Inv fz pq := by
  unfold State.judgeWaiting
  try simp only [apply_ite (State.Inv fz pq)]
  repeat' first
    | split
    | with_reducible refine inv_forEach (fun _ _ _ => ?_) _ ?_
    | with_reducible refine inv_foldl (fun _ _ _ => ?_) _ ?_ | dsimp only
  all_goals first | with_reducible assumption | simp +contextual (maxDischargeDepth := 60) only
    [State.judgePart_inv, apply_ite (State.Inv fz pq), inv_foldl, ite_self, implies_true, *]

theorem State.leaveGroup_inv (s : State) (p : Part) (hI : s.Inv fz pq) :
    (State.leaveGroup s p).Inv fz pq := by
  unfold State.leaveGroup
  simp +contextual (maxDischargeDepth := 60) only [inv_fold, inv_mk, apply_ite (State.Inv fz pq), ite_self,
    implies_true, hI]

theorem State.unfire_inv (s : State) (p : Part) (hI : s.Inv fz pq) :
    (State.unfire s p).Inv fz pq := by
  unfold State.unfire
  simp +contextual (maxDischargeDepth := 60) only [inv_fold, inv_mk, State.setFld_inv, State.hwFld_inv,
    State.updBg_inv, State.unassign_inv, State.updPart_inv, State.leaveGroup_inv, apply_ite (State.Inv fz pq),
    inv_forEach, inv_foldl, ite_self, implies_true, hI]

theorem State.settlePart_inv (s : State) (p : Part) (hI : s.Inv fz pq) :
    (State.settlePart s p).Inv fz pq := by
  unfold State.settlePart
  simp +contextual (maxDischargeDepth := 60) only [State.skipPart_inv, State.unfire_inv, apply_ite (State.Inv fz
    pq), ite_self, implies_true, hI]

theorem State.settleTick_inv (s : State) (hI : s.Inv fz pq) :
    (State.settleTick s).Inv fz pq := by
  unfold State.settleTick
  simp +contextual (maxDischargeDepth := 60) only [State.settlePart_inv, apply_ite (State.Inv fz pq), inv_foldl,
    ite_self, implies_true, hI]

theorem State.refreshEdges_inv (s : State) (hI : s.Inv fz pq) :
    (State.refreshEdges s).Inv fz pq := by
  unfold State.refreshEdges
  simp +contextual (maxDischargeDepth := 60) only [inv_fold, inv_mk, State.refreshAhead_inv, apply_ite (State.Inv fz
    pq), ite_self, implies_true, hI]

theorem execFirePulseEnd_inv (b : Fin 4) (s : State) (hI : s.Inv fz pq) :
    OutInv fz pq (execFirePulseEnd b s) := by
  unfold execFirePulseEnd
  simp +contextual (maxDischargeDepth := 60) only [outInv_next, whenLive, onlyIf, inv_fold, inv_mk, apply_ite
    (State.Inv fz pq), ite_self, implies_true, hI]

theorem State.eyeJudge_inv (s : State) (segs : List Nat) (hI : s.Inv fz pq) :
    (State.eyeJudge s segs).Inv fz pq := by
  unfold State.eyeJudge
  dsimp only
  repeat' split
  all_goals simp +contextual (maxDischargeDepth := 60) only [inv_fold, inv_mk, State.setFld_inv, State.setBit_inv,
    State.report_inv, hI]

theorem State.addCharge_inv (s : State) (n : Nat) (amt : Nat) (hI : s.Inv fz pq) :
    (State.addCharge s n amt).Inv fz pq := by
  unfold State.addCharge
  simp +contextual (maxDischargeDepth := 60) only [inv_fold, inv_mk, hI]

theorem State.eyeCharge_inv (s : State) (segs : List Nat) (e : Nat) (hI : s.Inv fz pq) :
    (State.eyeCharge s segs e).Inv fz pq := by
  unfold State.eyeCharge
  simp +contextual (maxDischargeDepth := 60) only [State.eyeJudge_inv, State.addCharge_inv, inv_forEach,
    implies_true, hI]

theorem State.eyeMiss_inv (s : State) (segs : List Nat) (hI : s.Inv fz pq) :
    (State.eyeMiss s segs).Inv fz pq := by
  unfold State.eyeMiss
  simp +contextual (maxDischargeDepth := 60) only [State.eyeJudge_inv, State.addCharge_inv, inv_forEach,
    implies_true, hI]

theorem execEyeBucketAdvance_inv (s : State) (hI : s.Inv fz pq) :
    OutInv fz pq (execEyeBucketAdvance s) := by
  unfold execEyeBucketAdvance
  simp +contextual (maxDischargeDepth := 60) only [inv_fold, inv_mk, outInv_next, whenLive, onlyIf,
    State.eyeJudge_inv, apply_ite (State.Inv fz pq), inv_forEach, ite_self, implies_true, hI]

end Sys2Proof.Machine
end

