-- ==== Sys2Proof/Laws/InvMonitor.lean ====
section
/-!
SUPPORT. Every operation of Machine/Monitor.lean keeps the invariant of Laws/Inv.lean.
-/
namespace Sys2Proof.Machine

variable {fz : Fuses} {pq : List Instr}

theorem State.pullAny_inv (s : State) (hI : s.Inv fz pq) :
    (State.pullAny s).Inv fz pq := by
  unfold State.pullAny
  simp +contextual (maxDischargeDepth := 60) only [inv_fold, inv_mk, apply_ite (State.Inv fz pq), ite_self, hI]

theorem State.capTrig_inv (s : State) (c : Nat) (t : Trig) (hI : s.Inv fz pq) :
    (State.capTrig s c t).Inv fz pq := by
  unfold State.capTrig
  dsimp only
  repeat' split
  all_goals simp +contextual (maxDischargeDepth := 60) only [inv_fold, inv_mk, State.setBit_inv, State.cnt_inv,
    State.pullAny_inv, apply_ite (State.Inv fz pq), ite_self, implies_true, hI]

theorem State.capArmNow_inv (s : State) (hI : s.Inv fz pq) :
    (State.capArmNow s).Inv fz pq := by
  unfold State.capArmNow
  simp +contextual (maxDischargeDepth := 60) only [inv_fold, inv_mk, State.setBit_inv, apply_ite (State.Inv fz pq),
    ite_self, hI]

theorem State.unfreeze_inv (s : State) (hI : s.Inv fz pq) :
    (State.unfreeze s).Inv fz pq := by
  unfold State.unfreeze
  simp +contextual (maxDischargeDepth := 60) only [inv_fold, inv_mk, State.setBit_inv, apply_ite (State.Inv fz pq),
    ite_self, implies_true, hI]

theorem State.wrCapCtrl_inv (s : State) (v : Word) (hI : s.Inv fz pq) :
    (State.wrCapCtrl s v).1.Inv fz pq := by
  unfold State.wrCapCtrl
  dsimp only
  repeat' split
  all_goals simp +contextual (maxDischargeDepth := 60) only [State.setBit_inv, State.capTrig_inv,
    State.capArmNow_inv, State.unfreeze_inv, apply_ite (State.Inv fz pq), ite_self, implies_true, hI]

theorem execTrigInEdge_inv (s : State) (hI : s.Inv fz pq) :
    OutInv fz pq (execTrigInEdge s) := by
  unfold execTrigInEdge
  simp +contextual (maxDischargeDepth := 60) only [outInv_next, whenLive, State.capTrig_inv,
    apply_ite (State.Inv fz pq), ite_self, hI]

theorem execTrigAnyFall_inv (s : State) (hI : s.Inv fz pq) :
    OutInv fz pq (execTrigAnyFall s) := by
  unfold execTrigAnyFall
  simp +contextual (maxDischargeDepth := 60) only [inv_fold, inv_mk, outInv_next, whenLive, onlyIf, State.cnt_inv,
    State.capTrig_inv, apply_ite (State.Inv fz pq), ite_self, hI]

theorem execTrigAnyRelease_inv (s : State) (hI : s.Inv fz pq) :
    OutInv fz pq (execTrigAnyRelease s) := by
  unfold execTrigAnyRelease
  simp +contextual (maxDischargeDepth := 60) only [inv_fold, inv_mk, outInv_next, whenLive, onlyIf,
    apply_ite (State.Inv fz pq), ite_self, hI]

theorem execArmBusRise_inv (s : State) (hI : s.Inv fz pq) :
    OutInv fz pq (execArmBusRise s) := by
  unfold execArmBusRise
  simp +contextual (maxDischargeDepth := 60) only [inv_fold, inv_mk, outInv_next, whenLive, onlyIf,
    State.capArmNow_inv, apply_ite (State.Inv fz pq), ite_self, hI]

theorem State.startBank_inv (s : State) (delay : Nat) (b : Nat) (hI : s.Inv fz pq) :
    (State.startBank s delay b).Inv fz pq := by
  unfold State.startBank
  simp +contextual (maxDischargeDepth := 60) only [inv_fold, inv_mk, State.setFld_inv, hI]

theorem State.serveGroup_inv (s : State) (g : Group) (te : Inst) (hI : s.Inv fz pq) :
    (State.serveGroup s g te).Inv fz pq := by
  unfold State.serveGroup
  simp +contextual (maxDischargeDepth := 60) only [inv_fold, inv_mk, State.startTaken_inv, State.capTrig_inv,
    State.startBank_inv, apply_ite (State.Inv fz pq), inv_forEach, ite_self, implies_true, hI]

theorem State.takeEdge_inv (s : State) (te : Inst) (hI : s.Inv fz pq) :
    (State.takeEdge s te).Inv fz pq := by
  unfold State.takeEdge
  dsimp only
  repeat' split
  all_goals simp +contextual (maxDischargeDepth := 60) only [inv_fold, inv_mk, State.cnt_inv, State.serveGroup_inv,
    hI]

theorem execMpdEdge_inv (phase : BitVec 4) (fromBelow : Bool) (s : State) (hI : s.Inv fz pq) :
    OutInv fz pq (execMpdEdge phase fromBelow s) := by
  unfold execMpdEdge
  simp +contextual (maxDischargeDepth := 60) only [outInv_next, whenLive, inv_fold, inv_mk, State.cnt_inv,
    State.takeEdge_inv, apply_ite (State.Inv fz pq), ite_self, implies_true, hI]

theorem execStartRearm_inv (s : State) (hI : s.Inv fz pq) :
    OutInv fz pq (execStartRearm s) := by
  unfold execStartRearm
  simp +contextual (maxDischargeDepth := 60) only [outInv_next, whenLive, onlyIf, inv_fold, inv_mk, apply_ite
    (State.Inv fz pq), ite_self, implies_true, hI]

theorem State.forceBank_inv (s : State) (b : Nat) (hI : s.Inv fz pq) :
    (State.forceBank s b).Inv fz pq := by
  unfold State.forceBank
  simp +contextual (maxDischargeDepth := 60) only [State.setFld_inv, State.orBit_inv, State.cnt_inv,
    State.report_inv, apply_ite (State.Inv fz pq), ite_self, hI]

theorem execStartTimeout_inv (s : State) (hI : s.Inv fz pq) :
    OutInv fz pq (execStartTimeout s) := by
  unfold execStartTimeout
  try simp +contextual (maxDischargeDepth := 60) only [outInv_next, whenLive, apply_ite (State.Inv fz pq),
    inv_forEach, inv_foldl, ite_self, implies_true, hI]
  all_goals repeat' split
  all_goals simp +contextual (maxDischargeDepth := 60) only [outInv_next, whenLive, inv_fold, inv_mk,
    State.startTaken_inv, State.eyeMiss_inv, State.forceBank_inv, apply_ite (State.Inv fz pq), inv_forEach,
    inv_foldl, ite_self, implies_true, hI]

theorem State.avgTake_inv (s : State) (p : Pulse) (xs : List Nat) (e : Nat) (hI : s.Inv fz pq) :
    (State.avgTake s p xs e).Inv fz pq := by
  unfold State.avgTake
  simp +contextual (maxDischargeDepth := 60) only [inv_fold, inv_mk, apply_ite (State.Inv fz pq), ite_self,
    implies_true, hI]

theorem execPulseEnergyDelivery_inv (xs : List (BitVec 10)) (s : State) (hI : s.Inv fz pq) :
    OutInv fz pq (execPulseEnergyDelivery xs s) := by
  unfold execPulseEnergyDelivery
  try simp +contextual (maxDischargeDepth := 60) only [outInv_next, whenLive, apply_ite (State.Inv fz pq), hI]
  all_goals repeat' split
  all_goals simp +contextual (maxDischargeDepth := 60) only [inv_fold, inv_mk, State.setFld_inv, State.eyeCharge_inv,
    State.avgTake_inv, hI]

theorem State.avgWrite_inv (s : State) (a : Avg) (hI : s.Inv fz pq) :
    (State.avgWrite s a).Inv fz pq := by
  unfold State.avgWrite
  simp +contextual (maxDischargeDepth := 60) only [inv_fold, inv_mk, State.setBit_inv, State.cnt_inv,
    State.wrTile_inv, apply_ite (State.Inv fz pq), ite_self, implies_true, hI]

theorem State.avgFlush_inv (s : State) (hI : s.Inv fz pq) :
    (State.avgFlush s).Inv fz pq := by
  unfold State.avgFlush
  dsimp only
  repeat' split
  all_goals simp +contextual (maxDischargeDepth := 60) only [inv_fold, inv_mk, State.avgWrite_inv, apply_ite
    (State.Inv fz pq), ite_self, implies_true, hI]

theorem execAvgTileWritten_inv (s : State) (hI : s.Inv fz pq) :
    OutInv fz pq (execAvgTileWritten s) := by
  unfold execAvgTileWritten
  try simp +contextual (maxDischargeDepth := 60) only [outInv_next, whenLive, onlyIf, apply_ite (State.Inv fz pq),
    ite_self, implies_true, hI]
  all_goals repeat' split
  all_goals simp +contextual (maxDischargeDepth := 60) only [outInv_next, whenLive, onlyIf, inv_fold, inv_mk,
    State.avgWrite_inv, State.avgFlush_inv, apply_ite (State.Inv fz pq), ite_self, implies_true, hI]

theorem execAvgIntervalStart_inv (s : State) (hI : s.Inv fz pq) :
    OutInv fz pq (execAvgIntervalStart s) := by
  unfold execAvgIntervalStart
  simp +contextual (maxDischargeDepth := 60) only [outInv_next, whenLive, onlyIf, inv_fold, inv_mk,
    State.avgFlush_inv, apply_ite (State.Inv fz pq), ite_self, implies_true, hI]

theorem execMaskTableLoad_inv (s : State) (hI : s.Inv fz pq) :
    OutInv fz pq (execMaskTableLoad s) := by
  unfold execMaskTableLoad
  simp +contextual (maxDischargeDepth := 60) only [inv_fold, inv_mk, outInv_next, whenLive, onlyIf, State.setBit_inv,
    apply_ite (State.Inv fz pq), ite_self, hI]

theorem State.freezeArmed_inv (s : State) (hI : s.Inv fz pq) :
    (State.freezeArmed s).Inv fz pq := by
  unfold State.freezeArmed
  simp +contextual (maxDischargeDepth := 60) only [State.setBit_inv, apply_ite (State.Inv fz pq), ite_self,
    implies_true, hI]

theorem State.maskViolation_inv (s : State) (p : Pulse) (i : Nat) (above : Bool) (hI : s.Inv fz pq) :
    (State.maskViolation s p i above).Inv fz pq := by
  unfold State.maskViolation
  dsimp only
  repeat' split
  all_goals simp +contextual (maxDischargeDepth := 60) only [inv_fold, inv_mk, State.setFld_inv, State.setBit_inv,
    State.cnt_inv, State.report_inv, State.capTrig_inv, State.freezeArmed_inv, apply_ite (State.Inv fz pq),
    ite_self, implies_true, hI]

theorem execMaskVerdict_inv (xs : List (BitVec 10)) (s : State) (hI : s.Inv fz pq) :
    OutInv fz pq (execMaskVerdict xs s) := by
  unfold execMaskVerdict
  try simp +contextual (maxDischargeDepth := 60) only [outInv_next, whenLive, apply_ite (State.Inv fz pq), hI]
  all_goals repeat' split
  all_goals simp +contextual (maxDischargeDepth := 60) only [inv_fold, inv_mk, State.maskViolation_inv, hI]

theorem State.capWrite_inv (s : State) (xs : List (BitVec 10)) (t : Trig) (hI : s.Inv fz pq) :
    (State.capWrite s xs t).Inv fz pq := by
  unfold State.capWrite
  simp +contextual (maxDischargeDepth := 60) only [inv_fold, inv_mk, State.setFld_inv, State.setBit_inv,
    State.cnt_inv, State.wrTile_inv, State.capArmNow_inv, apply_ite (State.Inv fz pq), inv_forEach, ite_self,
    implies_true, hI]

end Sys2Proof.Machine
end

