-- ==== Sys2Proof/Laws/InvAfe.lean ====
section
/-!
SUPPORT. Every operation of Machine/Afe.lean keeps the invariant of Laws/Inv.lean.
-/
namespace Sys2Proof.Machine

variable {fz : Fuses} {pq : List Instr}

theorem State.afeStart_inv (s : State) (hI : s.Inv fz pq) :
    (State.afeStart s).Inv fz pq := by
  unfold State.afeStart
  simp +contextual (maxDischargeDepth := 60) only [inv_fold, inv_mk, hI]

theorem State.angleOf_inv (s : State) (n : Nat) (raw : Int) (hI : s.Inv fz pq) :
    (State.angleOf s n raw).2.Inv fz pq := by
  unfold State.angleOf
  simp +contextual (maxDischargeDepth := 60) only [State.near_inv, hI]

theorem State.restartAxis_inv (s : State) (a : Nat) (hI : s.Inv fz pq) :
    (State.restartAxis s a).Inv fz pq := by
  unfold State.restartAxis
  simp +contextual (maxDischargeDepth := 60) only [inv_fold, inv_mk, State.setBridge_inv, apply_ite (State.Inv fz
    pq), inv_forEach, ite_self, implies_true, hI]

theorem State.setNone_inv (s : State) (a : Nat) (b : Bool) (hI : s.Inv fz pq) :
    (State.setNone s a b).Inv fz pq := by
  unfold State.setNone
  simp +contextual (maxDischargeDepth := 60) only [inv_fold, inv_mk, apply_ite (State.Inv fz pq), ite_self,
    implies_true, hI]

theorem State.commitAct_inv (s : State) (n : Nat) (hI : s.Inv fz pq) :
    (State.commitAct s n).Inv fz pq := by
  unfold State.commitAct
  simp +contextual (maxDischargeDepth := 60) only [inv_fold, inv_mk, State.setFld_inv, State.setBit_inv,
    State.setNone_inv, apply_ite (State.Inv fz pq), ite_self, implies_true, hI]

theorem State.commitFrontEnd_inv (s : State) (hI : s.Inv fz pq) :
    (State.commitFrontEnd s).Inv fz pq := by
  unfold State.commitFrontEnd
  simp +contextual (maxDischargeDepth := 60) only [State.setBridge_inv, State.copyGroup_inv, State.restartAxis_inv,
    State.commitAct_inv, apply_ite (State.Inv fz pq), inv_forEach, ite_self, implies_true, hI]

theorem State.swapDefer_inv (s : State) (n : Nat) (hI : s.Inv fz pq) :
    (State.swapDefer s n).Inv fz pq := by
  unfold State.swapDefer
  simp +contextual (maxDischargeDepth := 60) only [State.cnt_inv, State.setBridge_inv, apply_ite (State.Inv fz pq),
    ite_self, hI]

theorem State.swapAt_inv (s : State) (n : Nat) (blocked : Bool) (hI : s.Inv fz pq) :
    (State.swapAt s n blocked).Inv fz pq := by
  unfold State.swapAt
  simp +contextual (maxDischargeDepth := 60) only [State.setFld_inv, State.cnt_inv, State.setBridge_inv,
    State.swapDefer_inv, apply_ite (State.Inv fz pq), ite_self, hI]

theorem execPolaritySwapDue_inv (n : Fin 4) (s : State) (hI : s.Inv fz pq) :
    OutInv fz pq (execPolaritySwapDue n s) := by
  unfold execPolaritySwapDue
  simp +contextual (maxDischargeDepth := 60) only [outInv_next, whenLive, onlyIf, State.setBridge_inv,
    State.swapDefer_inv, apply_ite (State.Inv fz pq), ite_self, hI]

theorem State.wrBrCtrl_inv (s : State) (v : Word) (hI : s.Inv fz pq) :
    (State.wrBrCtrl s v).1.Inv fz pq := by
  unfold State.wrBrCtrl
  simp +contextual (maxDischargeDepth := 60) only [State.setBridge_inv, inv_forEach, implies_true, hI]

theorem State.rawOf_inv (s : State) (n : Nat) (sum : Int) (hI : s.Inv fz pq) :
    (State.rawOf s n sum).2.Inv fz pq := by
  unfold State.rawOf
  simp +contextual (maxDischargeDepth := 60) only [State.takeErr_inv, State.roundFree_inv,
    apply_ite (State.Inv fz pq), apply_ite Prod.snd, ite_self, hI]

theorem State.deliverAngle_inv (s : State) (n : Nat) (t : Inst) (a : Int) (hI : s.Inv fz pq) :
    (State.deliverAngle s n t a).Inv fz pq := by
  unfold State.deliverAngle
  simp +contextual (maxDischargeDepth := 60) only [inv_fold, inv_mk, apply_ite (State.Inv fz pq), ite_self,
    implies_true, hI]

theorem State.setOutput_inv (s : State) (n : Nat) (raw : Int) (ang : Int) (valid : Bool) (hI : s.Inv fz pq) :
    (State.setOutput s n raw ang valid).Inv fz pq := by
  unfold State.setOutput
  simp +contextual (maxDischargeDepth := 60) only [State.setBit_inv, State.orBit_inv, State.clrBit_inv,
    State.setFldS_inv, apply_ite (State.Inv fz pq), ite_self, hI]

theorem State.output_inv (s : State) (n : Nat) (xs : List (BitVec 16)) (hI : s.Inv fz pq) :
    (State.output s n xs).Inv fz pq := by
  unfold State.output
  simp +contextual (maxDischargeDepth := 60) only [inv_fold, inv_mk, State.setBridge_inv, State.angleOf_inv,
    State.commitFrontEnd_inv, State.swapAt_inv, State.rawOf_inv, State.deliverAngle_inv, State.setOutput_inv,
    apply_ite (State.Inv fz pq), inv_forEach, inv_foldl, ite_self, implies_true, hI]

theorem execBridgeOutput_inv (n : Fin 4) (xs : List (BitVec 16)) (s : State) (hI : s.Inv fz pq) :
    OutInv fz pq (execBridgeOutput n xs s) := by
  unfold execBridgeOutput
  simp +contextual (maxDischargeDepth := 60) only [outInv_next, whenLive, onlyIf, State.output_inv,
    apply_ite (State.Inv fz pq), ite_self, hI]

theorem State.judgeHalf_inv (s : State) (n : Nat) (w : BridgeWin) (hI : s.Inv fz pq) :
    (State.judgeHalf s n w).1.Inv fz pq := by
  unfold State.judgeHalf
  simp +contextual (maxDischargeDepth := 60) only [State.orBit_inv, State.clrBit_inv, State.cnt_inv,
    State.setFldS_inv, State.setBridge_inv, State.roundFree_inv, apply_ite (State.Inv fz pq), apply_ite Prod.fst,
    ite_self, hI]

theorem State.undoAct_inv (s : State) (n : Nat) (hI : s.Inv fz pq) :
    (State.undoAct s n).Inv fz pq := by
  unfold State.undoAct
  dsimp only
  repeat' split
  all_goals simp +contextual (maxDischargeDepth := 60) only [State.setFld_inv, State.setBit_inv, State.setNone_inv,
    apply_ite (State.Inv fz pq), ite_self, implies_true, hI]

theorem State.breakBridge_inv (s : State) (n : Nat) (hI : s.Inv fz pq) :
    (State.breakBridge s n).Inv fz pq := by
  unfold State.breakBridge
  simp +contextual (maxDischargeDepth := 60) only [inv_fold, inv_mk, State.setFld_inv, State.setBit_inv,
    State.setBridge_inv, State.report_inv, State.setNone_inv, State.undoAct_inv, apply_ite (State.Inv fz pq),
    ite_self, implies_true, hI]

theorem breakIf_inv (c : Bool) (n : Nat) {s : State} (hI : s.Inv fz pq) :
    (if c then s.breakBridge n else s).Inv fz pq := by
  split
  · exact State.breakBridge_inv _ _ hI
  · exact hI

theorem execExcitationHalfPeriodEnd_inv (w0 w1 w2 w3 : BridgeWin) (s : State) (hI : s.Inv fz pq) :
    OutInv fz pq (execExcitationHalfPeriodEnd w0 w1 w2 w3 s) := by
  unfold execExcitationHalfPeriodEnd whenLive onlyIf
  rw [outInv_next]
  refine inv_ite _ (inv_ite _ ?_ hI) hI
  refine breakIf_inv _ _ (breakIf_inv _ _ (breakIf_inv _ _ (breakIf_inv _ _ ?_)))
  exact State.judgeHalf_inv _ _ _ (State.judgeHalf_inv _ _ _ (State.judgeHalf_inv _ _ _ (State.judgeHalf_inv _ _ _ hI)))

theorem State.wrBrStat_inv (s : State) (v : Word) (hI : s.Inv fz pq) :
    (State.wrBrStat s v).1.Inv fz pq := by
  unfold State.wrBrStat
  simp +contextual (maxDischargeDepth := 60) only [State.setBit_inv, State.clrBit_inv, apply_ite (State.Inv fz pq),
    inv_forEach, ite_self, implies_true, hI]

theorem State.wrTdacCfg_inv (s : State) (v : Word) (hI : s.Inv fz pq) :
    (State.wrTdacCfg s v).1.Inv fz pq := by
  unfold State.wrTdacCfg
  simp +contextual (maxDischargeDepth := 60) only [State.setFld_inv, State.setBit_inv, State.setBridge_inv,
    apply_ite (State.Inv fz pq), apply_ite Prod.fst, ite_self, hI]

theorem State.hkBegin_inv (s : State) (m : Nat) (single : Bool) (hI : s.Inv fz pq) :
    (State.hkBegin s m single).Inv fz pq := by
  unfold State.hkBegin
  simp +contextual (maxDischargeDepth := 60) only [inv_fold, inv_mk, State.setBit_inv, apply_ite (State.Inv fz pq),
    ite_self, implies_true, hI]

theorem State.hkAsk_inv (s : State) (hI : s.Inv fz pq) :
    (State.hkAsk s).Inv fz pq := by
  unfold State.hkAsk
  simp +contextual (maxDischargeDepth := 60) only [inv_fold, inv_mk, hI]

theorem execHkConversionStart_inv (s : State) (hI : s.Inv fz pq) :
    OutInv fz pq (execHkConversionStart s) := by
  unfold execHkConversionStart
  try simp +contextual (maxDischargeDepth := 60) only [outInv_next, whenLive, onlyIf, apply_ite (State.Inv fz pq), hI]
  all_goals repeat' split
  all_goals simp +contextual (maxDischargeDepth := 60) only [State.hkBegin_inv, hI]

theorem State.hkValue_inv (s : State) (curve : Nat) (rser : Nat) (code : Nat) (hI : s.Inv fz pq) :
    (State.hkValue s curve rser code).2.Inv fz pq := by
  unfold State.hkValue
  simp +contextual (maxDischargeDepth := 60) only [State.takeFree_inv, apply_ite (State.Inv fz pq),
    apply_ite Prod.snd, ite_self, hI]

theorem State.hkCode_inv (s : State) (m : Nat) (code : Nat) (hI : s.Inv fz pq) :
    (State.hkCode s m code).2.Inv fz pq := by
  unfold State.hkCode
  dsimp only
  repeat' split
  all_goals simp +contextual (maxDischargeDepth := 60) only [inv_fold, inv_mk, State.takeErr_inv, apply_ite
    (State.Inv fz pq), ite_self, implies_true, hI]

theorem State.hkOver_inv (s : State) (hI : s.Inv fz pq) :
    (State.hkOver s).Inv fz pq := by
  unfold State.hkOver
  simp +contextual (maxDischargeDepth := 60) only [inv_fold, inv_mk, State.setBit_inv, State.cnt_inv, apply_ite
    (State.Inv fz pq), ite_self, implies_true, hI]

theorem State.unOvr_inv (s : State) (hI : s.Inv fz pq) :
    (State.unOvr s).Inv fz pq := by
  unfold State.unOvr
  dsimp only
  repeat' split
  all_goals simp +contextual (maxDischargeDepth := 60) only [inv_fold, inv_mk, State.setFld_inv, State.setBit_inv,
    apply_ite (State.Inv fz pq), ite_self, implies_true, hI]

theorem State.hkLand_inv (s : State) (c : HkConv) (v : Int) (range : Bool) (hI : s.Inv fz pq) :
    (State.hkLand s c v range).Inv fz pq := by
  unfold State.hkLand
  simp +contextual (maxDischargeDepth := 60) only [inv_fold, inv_mk, State.setFld_inv, State.mark_inv,
    State.setBit_inv, State.setFldS_inv, State.hkOver_inv, apply_ite (State.Inv fz pq), inv_foldl, ite_self,
    implies_true, hI]

theorem execHkResultLand_inv (code : BitVec 16) (s : State) (hI : s.Inv fz pq) :
    OutInv fz pq (execHkResultLand code s) := by
  unfold execHkResultLand
  try simp +contextual (maxDischargeDepth := 60) only [outInv_next, whenLive, onlyIf, apply_ite (State.Inv fz pq),
    ite_self, implies_true, hI]
  all_goals repeat' split
  all_goals simp +contextual (maxDischargeDepth := 60) only [outInv_next, whenLive, onlyIf, State.hkValue_inv,
    State.hkCode_inv, State.hkLand_inv, apply_ite (State.Inv fz pq), ite_self, implies_true, hI]

theorem State.wrHkCtrl_inv (s : State) (v : Word) (hI : s.Inv fz pq) :
    (State.wrHkCtrl s v).1.Inv fz pq := by
  unfold State.wrHkCtrl
  simp +contextual (maxDischargeDepth := 60) only [inv_fold, inv_mk, State.setFld_inv, State.setBit_inv,
    State.hkAsk_inv, apply_ite (State.Inv fz pq), ite_self, hI]

theorem State.refRestart_inv (s : State) (hI : s.Inv fz pq) :
    (State.refRestart s).Inv fz pq := by
  unfold State.refRestart
  simp +contextual (maxDischargeDepth := 60) only [inv_fold, inv_mk, State.setBit_inv, apply_ite (State.Inv fz pq),
    ite_self, implies_true, hI]

theorem State.wrRefCfg_inv (s : State) (v : Word) (hI : s.Inv fz pq) :
    (State.wrRefCfg s v).1.Inv fz pq := by
  unfold State.wrRefCfg
  simp +contextual (maxDischargeDepth := 60) only [State.setFld_inv, State.refRestart_inv, hI]

theorem execRefSettled_inv (s : State) (hI : s.Inv fz pq) :
    OutInv fz pq (execRefSettled s) := by
  unfold execRefSettled
  simp +contextual (maxDischargeDepth := 60) only [outInv_next, whenLive, onlyIf, State.setBit_inv, State.hkAsk_inv,
    apply_ite (State.Inv fz pq), ite_self, implies_true, hI]

theorem execRefSettleTimeout_inv (s : State) (hI : s.Inv fz pq) :
    OutInv fz pq (execRefSettleTimeout s) := by
  unfold execRefSettleTimeout
  simp +contextual (maxDischargeDepth := 60) only [inv_fold, inv_mk, outInv_next, whenLive, onlyIf, State.setBit_inv,
    apply_ite (State.Inv fz pq), ite_self, hI]

end Sys2Proof.Machine
end

