-- ==== Sys2Proof/Laws/InvModeOps.lean ====
section
/-!
SUPPORT. Every operation of Machine/ModeOps.lean keeps the invariant of Laws/Inv.lean.
-/
namespace Sys2Proof.Machine

variable {fz : Fuses} {pq : List Instr}

theorem State.setLevel_inv (s : State) (ch : Nat) (v : Bool) (hI : s.Inv fz pq) :
    (State.setLevel s ch v).Inv fz pq := by
  unfold State.setLevel
  simp +contextual (maxDischargeDepth := 60) only [inv_fold, inv_mk, hI]

theorem State.outputOff_inv (s : State) (j : Nat) (hI : s.Inv fz pq) :
    (State.outputOff s j).Inv fz pq := by
  unfold State.outputOff
  simp +contextual (maxDischargeDepth := 60) only [inv_fold, inv_mk, State.clrBit_inv, State.cnt_inv,
    State.setLevel_inv, apply_ite (State.Inv fz pq), ite_self, hI]

theorem State.outputsUpdate_inv (s : State) (hI : s.Inv fz pq) :
    (State.outputsUpdate s).Inv fz pq := by
  unfold State.outputsUpdate
  simp +contextual (maxDischargeDepth := 60) only [State.outputOff_inv, apply_ite (State.Inv fz pq), inv_forEach,
    ite_self, implies_true, hI]

theorem State.zonesStart_inv (s : State) (hI : s.Inv fz pq) :
    (State.zonesStart s).Inv fz pq := by
  unfold State.zonesStart
  simp +contextual (maxDischargeDepth := 60) only [inv_fold, inv_mk, State.setFld_inv, apply_ite (State.Inv fz pq),
    inv_foldl, ite_self, implies_true, hI]

theorem State.leaveDegraded_inv (s : State) (hI : s.Inv fz pq) :
    (State.leaveDegraded s).Inv fz pq := by
  unfold State.leaveDegraded
  simp +contextual (maxDischargeDepth := 60) only [State.setFld_inv, State.setBit_inv, hI]

theorem State.modeActions_inv (s : State) (old : Mode) (m : Mode) (hI : s.Inv fz pq) :
    (State.modeActions s old m).Inv fz pq := by
  unfold State.modeActions
  dsimp only
  repeat' split
  all_goals simp +contextual (maxDischargeDepth := 60) only [inv_fold, inv_mk, State.setFld_inv, State.updBg_inv,
    State.dropLsr_inv, State.sleepBank_inv, State.capUpdate_inv, State.abandonTrim_inv, State.armBanks_inv,
    State.afeStart_inv, State.zonesStart_inv, State.leaveDegraded_inv, inv_forEach, implies_true, hI]

theorem State.enterMode_inv (s : State) (m : Mode) (hI : s.Inv fz pq) :
    (State.enterMode s m).Inv fz pq := by
  unfold State.enterMode
  simp +contextual (maxDischargeDepth := 60) only [inv_fold, inv_mk, State.setFld_inv, State.setBit_inv,
    State.cnt_inv, State.coreEvents_inv, State.modeEvent_inv, State.outputsUpdate_inv, State.modeActions_inv, hI]

theorem State.safeDecision_inv (s : State) (hI : s.Inv fz pq) :
    (State.safeDecision s).Inv fz pq := by
  unfold State.safeDecision
  try simp +contextual (maxDischargeDepth := 60) only [inv_fold, inv_mk, outInv_next, State.enterMode_inv,
    apply_ite (State.Inv fz pq), apply_ite Prod.fst, apply_ite Prod.snd, apply_ite (OutInv fz pq),
    apply_ite (ExInv fz pq), exInv_ok, exInv_error, id_eq, inv_forEach, inv_foldl, inv_foldl_fst, inv_foldl_snd,
    ite_self, implies_true, hI]
  all_goals repeat' split
  all_goals simp +contextual (maxDischargeDepth := 60) only [State.enterMode_inv, hI]

theorem State.reqErr_inv (s : State) (n : Nat) (hI : s.Inv fz pq) :
    (State.reqErr s n).1.Inv fz pq := by
  unfold State.reqErr
  simp +contextual (maxDischargeDepth := 60) only [State.setFld_inv, hI]

theorem State.reqIdle_inv (s : State) (hI : s.Inv fz pq) :
    (State.reqIdle s).1.Inv fz pq := by
  unfold State.reqIdle
  try simp +contextual (maxDischargeDepth := 60) only [inv_fold, inv_mk, outInv_next, State.enterMode_inv,
    State.reqErr_inv, apply_ite (State.Inv fz pq), apply_ite Prod.fst, apply_ite Prod.snd, apply_ite (OutInv fz pq),
    apply_ite (ExInv fz pq), exInv_ok, exInv_error, id_eq, inv_forEach, inv_foldl, inv_foldl_fst, inv_foldl_snd,
    ite_self, implies_true, hI]
  all_goals repeat' split
  all_goals simp +contextual (maxDischargeDepth := 60) only [State.enterMode_inv, State.reqErr_inv, hI]

theorem State.reqArmed_inv (s : State) (hI : s.Inv fz pq) :
    (State.reqArmed s).1.Inv fz pq := by
  unfold State.reqArmed
  try simp +contextual (maxDischargeDepth := 60) only [inv_fold, inv_mk, outInv_next, State.setFld_inv,
    State.enterMode_inv, State.reqErr_inv, apply_ite (State.Inv fz pq), apply_ite Prod.fst, apply_ite Prod.snd,
    apply_ite (OutInv fz pq), apply_ite (ExInv fz pq), exInv_ok, exInv_error, id_eq, inv_forEach, inv_foldl,
    inv_foldl_fst, inv_foldl_snd, ite_self, implies_true, hI]
  all_goals repeat' split
  all_goals simp +contextual (maxDischargeDepth := 60) only [State.setFld_inv, State.enterMode_inv, State.reqErr_inv,
    hI]

theorem State.reqScan_inv (s : State) (hI : s.Inv fz pq) :
    (State.reqScan s).1.Inv fz pq := by
  unfold State.reqScan
  try simp +contextual (maxDischargeDepth := 60) only [inv_fold, inv_mk, outInv_next, State.setFld_inv,
    State.setBit_inv, State.reqErr_inv, apply_ite (State.Inv fz pq), apply_ite Prod.fst, apply_ite Prod.snd,
    apply_ite (OutInv fz pq), apply_ite (ExInv fz pq), exInv_ok, exInv_error, id_eq, inv_forEach, inv_foldl,
    inv_foldl_fst, inv_foldl_snd, ite_self, implies_true, hI]
  all_goals repeat' split
  all_goals simp +contextual (maxDischargeDepth := 60) only [State.setFld_inv, State.setBit_inv, State.reqErr_inv, hI]

theorem State.reqSafe_inv (s : State) (hI : s.Inv fz pq) :
    (State.reqSafe s).1.Inv fz pq := by
  unfold State.reqSafe
  try simp +contextual (maxDischargeDepth := 60) only [inv_fold, inv_mk, outInv_next, State.enterMode_inv,
    State.reqErr_inv, apply_ite (State.Inv fz pq), apply_ite Prod.fst, apply_ite Prod.snd, apply_ite (OutInv fz pq),
    apply_ite (ExInv fz pq), exInv_ok, exInv_error, id_eq, inv_forEach, inv_foldl, inv_foldl_fst, inv_foldl_snd,
    ite_self, implies_true, hI]
  all_goals repeat' split
  all_goals simp +contextual (maxDischargeDepth := 60) only [State.enterMode_inv, State.reqErr_inv, hI]

theorem State.wrModeReq_inv (s : State) (v : Word) (hI : s.Inv fz pq) :
    (State.wrModeReq s v).1.Inv fz pq := by
  unfold State.wrModeReq
  dsimp only
  repeat' split
  all_goals simp +contextual (maxDischargeDepth := 60) only [State.setFld_inv, State.setBit_inv, State.reqErr_inv,
    State.reqIdle_inv, State.reqArmed_inv, State.reqScan_inv, State.reqSafe_inv, hI]

end Sys2Proof.Machine
end

