-- ==== Sys2Proof/Laws/InvMirror.lean ====
section
/-!
SUPPORT. Every operation of Machine/Mirror.lean keeps the invariant of Laws/Inv.lean.
-/
namespace Sys2Proof.Machine

variable {fz : Fuses} {pq : List Instr}

theorem State.takeInt_inv (s : State) (hI : s.Inv fz pq) :
    (State.takeInt s).2.Inv fz pq := by
  unfold State.takeInt
  simp +contextual (maxDischargeDepth := 60) only [State.takeFree_inv, hI]

theorem State.trackerStep_inv (s : State) (hI : s.Inv fz pq) :
    (State.trackerStep s).2.Inv fz pq := by
  unfold State.trackerStep
  dsimp only
  repeat' split
  all_goals simp +contextual (maxDischargeDepth := 60) only [inv_fold, inv_mk, State.around_inv, State.takeInt_inv,
    apply_ite (State.Inv fz pq), ite_self, implies_true, hI]

theorem State.feCheck_inv (s : State) (eH : Nat) (hI : s.Inv fz pq) :
    (State.feCheck s eH).Inv fz pq := by
  unfold State.feCheck
  simp +contextual (maxDischargeDepth := 60) only [inv_fold, inv_mk, State.peak_inv, apply_ite (State.Inv fz pq),
    ite_self, implies_true, hI]

theorem State.periodEnd_inv (s : State) (hI : s.Inv fz pq) :
    (State.periodEnd s).Inv fz pq := by
  unfold State.periodEnd
  simp +contextual (maxDischargeDepth := 60) only [inv_fold, inv_mk, hI]

theorem State.park_inv (s : State) (hI : s.Inv fz pq) :
    (State.park s).Inv fz pq := by
  unfold State.park
  simp +contextual (maxDischargeDepth := 60) only [inv_fold, inv_mk, State.setFld_inv, State.setBit_inv, apply_ite
    (State.Inv fz pq), ite_self, implies_true, hI]

theorem State.searchStart_inv (s : State) (hI : s.Inv fz pq) :
    (State.searchStart s).Inv fz pq := by
  unfold State.searchStart
  simp +contextual (maxDischargeDepth := 60) only [inv_fold, inv_mk, State.setBit_inv, hI]

theorem State.applyRes_inv (s : State) (hI : s.Inv fz pq) :
    (State.applyRes s).Inv fz pq := by
  unfold State.applyRes
  dsimp only
  repeat' split
  all_goals simp +contextual (maxDischargeDepth := 60) only [inv_fold, inv_mk, State.setFld_inv, State.cnt_inv,
    apply_ite (State.Inv fz pq), ite_self, implies_true, hI]

theorem State.showModel_inv (s : State) (hI : s.Inv fz pq) :
    (State.showModel s).Inv fz pq := by
  unfold State.showModel
  simp +contextual (maxDischargeDepth := 60) only [State.setFldS_inv, State.roundFree_inv, hI]

theorem State.latchPeriod_inv (s : State) (vhv : Nat) (iH : Nat) (iV : Nat) (hI : s.Inv fz pq) :
    (State.latchPeriod s vhv iH iV).Inv fz pq := by
  unfold State.latchPeriod
  simp +contextual (maxDischargeDepth := 60) only [inv_fold, inv_mk, State.setFld_inv, State.copyGroup_inv,
    State.takeInt_inv, apply_ite (State.Inv fz pq), apply_ite Prod.fst, apply_ite Prod.snd, ite_self, hI]

theorem State.tryCapture_inv (s : State) (hI : s.Inv fz pq) :
    (State.tryCapture s).Inv fz pq := by
  unfold State.tryCapture
  simp +contextual (maxDischargeDepth := 60) only [inv_fold, inv_mk, State.setBit_inv, State.setFldS_inv,
    apply_ite (State.Inv fz pq), ite_self, hI]

theorem State.nextNco_inv (s : State) (hI : s.Inv fz pq) :
    (State.nextNco s).2.Inv fz pq := by
  unfold State.nextNco
  simp +contextual (maxDischargeDepth := 60) only [State.roundFree_inv, apply_ite (State.Inv fz pq),
    apply_ite Prod.snd, ite_self, hI]

theorem State.hLoop_inv (s : State) (hI : s.Inv fz pq) :
    (State.hLoop s).2.Inv fz pq := by
  unfold State.hLoop
  simp +contextual (maxDischargeDepth := 60) only [inv_fold, inv_mk, State.roundFree_inv, hI]

theorem State.vLoop_inv (s : State) (hI : s.Inv fz pq) :
    (State.vLoop s).2.2.Inv fz pq := by
  unfold State.vLoop
  simp +contextual (maxDischargeDepth := 60) only [inv_fold, inv_mk, State.setBit_inv, State.setFldS_inv,
    State.roundFree_inv, hI]

theorem State.compute_inv (s : State) (hI : s.Inv fz pq) :
    (State.compute s).Inv fz pq := by
  unfold State.compute
  simp +contextual (maxDischargeDepth := 60) only [inv_fold, inv_mk, State.trackerStep_inv, State.feCheck_inv,
    State.nextNco_inv, State.hLoop_inv, State.vLoop_inv, apply_ite (State.Inv fz pq), ite_self, implies_true, hI]

theorem State.armFail_inv (s : State) (n : Nat) (hI : s.Inv fz pq) :
    (State.armFail s n).Inv fz pq := by
  unfold State.armFail
  simp +contextual (maxDischargeDepth := 60) only [State.setFld_inv, State.enterMode_inv, hI]

theorem State.boundary_inv (s : State) (vhv : Nat) (iH : Nat) (iV : Nat) (hI : s.Inv fz pq) :
    (State.boundary s vhv iH iV).Inv fz pq := by
  unfold State.boundary
  simp +contextual (maxDischargeDepth := 60) only [State.setBit_inv, State.setFldS_inv, State.periodEnd_inv,
    State.park_inv, State.searchStart_inv, State.applyRes_inv, State.showModel_inv, State.latchPeriod_inv,
    State.tryCapture_inv, State.compute_inv, State.armFail_inv, apply_ite (State.Inv fz pq), ite_self, implies_true,
    hI]

theorem State.commitStopped_inv (s : State) (hI : s.Inv fz pq) :
    (State.commitStopped s).Inv fz pq := by
  unfold State.commitStopped
  simp +contextual (maxDischargeDepth := 60) only [State.commitFrontEnd_inv, apply_ite (State.Inv fz pq), ite_self,
    implies_true, hI]

theorem execControlPeriodBoundary_inv (vhv : BitVec 12) (iH : BitVec 12) (iV : BitVec 12) (s : State) (hI : s.Inv fz
    pq) :
    OutInv fz pq (execControlPeriodBoundary vhv iH iV s) := by
  unfold execControlPeriodBoundary
  simp +contextual (maxDischargeDepth := 60) only [outInv_next, whenLive, onlyIf, inv_fold, inv_mk,
    State.boundary_inv, State.commitStopped_inv, apply_ite (State.Inv fz pq), ite_self, implies_true, hI]

theorem execHLock_inv (s : State) (hI : s.Inv fz pq) :
    OutInv fz pq (execHLock s) := by
  unfold execHLock
  simp +contextual (maxDischargeDepth := 60) only [inv_fold, inv_mk, outInv_next, whenLive, onlyIf, State.setBit_inv,
    State.setFldS_inv, apply_ite (State.Inv fz pq), ite_self, hI]

theorem execLockTimeout_inv (s : State) (hI : s.Inv fz pq) :
    OutInv fz pq (execLockTimeout s) := by
  unfold execLockTimeout
  simp +contextual (maxDischargeDepth := 60) only [outInv_next, whenLive, onlyIf, State.setBit_inv,
    State.armFail_inv, apply_ite (State.Inv fz pq), ite_self, hI]

theorem execFollowingErrorFault_inv (x : Axis) (s : State) (hI : s.Inv fz pq) :
    OutInv fz pq (execFollowingErrorFault x s) := by
  unfold execFollowingErrorFault
  dsimp only
  repeat' split
  all_goals simp +contextual (maxDischargeDepth := 60) only [outInv_next, whenLive, inv_fold, inv_mk,
    State.setBit_inv, State.dropLsr_inv, State.report_inv, apply_ite (State.Inv fz pq), ite_self, implies_true, hI]

theorem execFeRecovery_inv (x : Axis) (s : State) (hI : s.Inv fz pq) :
    OutInv fz pq (execFeRecovery x s) := by
  unfold execFeRecovery
  dsimp only
  repeat' split
  all_goals simp +contextual (maxDischargeDepth := 60) only [inv_fold, inv_mk, outInv_next, whenLive,
    apply_ite (State.Inv fz pq), ite_self, hI]

end Sys2Proof.Machine
end

