-- ==== Sys2Proof/Laws/InvTransit.lean ====
section
/-!
SUPPORT. Every operation of Machine/Transit.lean keeps the invariant of Laws/Inv.lean.
-/
namespace Sys2Proof.Machine

variable {fz : Fuses} {pq : List Instr}

theorem State.ephSwap_inv (s : State) (hI : s.Inv fz pq) :
    (State.ephSwap s).Inv fz pq := by
  unfold State.ephSwap
  simp +contextual (maxDischargeDepth := 60) only [inv_fold, inv_mk, State.setFld_inv, State.setForce_inv,
    State.setBit_inv, apply_ite (State.Inv fz pq), ite_self, implies_true, hI]

theorem State.countAgeStep_inv (s : State) (hI : s.Inv fz pq) :
    (State.countAgeStep s).Inv fz pq := by
  unfold State.countAgeStep
  try simp +contextual (maxDischargeDepth := 60) only [inv_fold, inv_mk, outInv_next, State.cnt_inv, State.updBg_inv,
    apply_ite (State.Inv fz pq), apply_ite Prod.fst, apply_ite Prod.snd, apply_ite (OutInv fz pq),
    apply_ite (ExInv fz pq), exInv_ok, exInv_error, id_eq, inv_forEach, inv_foldl, inv_foldl_fst, inv_foldl_snd,
    ite_self, implies_true, hI]
  all_goals repeat' split
  all_goals simp +contextual (maxDischargeDepth := 60) only [State.cnt_inv, State.updBg_inv, hI]

theorem State.commitFiring_inv (s : State) (hI : s.Inv fz pq) :
    (State.commitFiring s).Inv fz pq := by
  unfold State.commitFiring
  simp +contextual (maxDischargeDepth := 60) only [inv_fold, inv_mk, State.setFld_inv, State.copyGroup_inv,
    State.settleBudget_inv, State.refreshEdges_inv, State.ephSwap_inv, State.countAgeStep_inv, apply_ite (State.Inv
    fz pq), ite_self, implies_true, hI]

theorem State.commitWindow_inv (s : State) (hI : s.Inv fz pq) :
    (State.commitWindow s).Inv fz pq := by
  unfold State.commitWindow
  simp +contextual (maxDischargeDepth := 60) only [State.copyGroup_inv, State.refreshEdges_inv, apply_ite (State.Inv
    fz pq), ite_self, implies_true, hI]

theorem State.commitCell_inv (s : State) (hI : s.Inv fz pq) :
    (State.commitCell s).Inv fz pq := by
  unfold State.commitCell
  simp +contextual (maxDischargeDepth := 60) only [State.copyGroup_inv, State.refreshEdges_inv, apply_ite (State.Inv
    fz pq), ite_self, implies_true, hI]

theorem State.commitRejection_inv (s : State) (hI : s.Inv fz pq) :
    (State.commitRejection s).Inv fz pq := by
  unfold State.commitRejection
  simp +contextual (maxDischargeDepth := 60) only [State.copyGroup_inv, State.ringLeave_inv, inv_forEach, inv_foldl,
    implies_true, hI]

theorem State.wcRestart_inv (s : State) (hI : s.Inv fz pq) :
    (State.wcRestart s).Inv fz pq := by
  unfold State.wcRestart
  simp +contextual (maxDischargeDepth := 60) only [inv_fold, inv_mk, hI]

theorem execCommitImmediate_inv (g : Fin 7) (s : State) (hI : s.Inv fz pq) :
    OutInv fz pq (execCommitImmediate g s) := by
  unfold execCommitImmediate
  try simp +contextual (maxDischargeDepth := 60) only [outInv_next, whenLive, onlyIf, apply_ite (State.Inv fz pq),
    ite_self, implies_true, hI]
  all_goals repeat' split
  all_goals simp +contextual (maxDischargeDepth := 60) only [outInv_next, whenLive, onlyIf, State.commitFiring_inv,
    State.commitWindow_inv, State.commitCell_inv, State.commitRejection_inv, apply_ite (State.Inv fz pq), ite_self,
    implies_true, hI]

theorem State.moveVa_inv (s : State) (d : Nat) (v : Nat) (hI : s.Inv fz pq) :
    (State.moveVa s d v).Inv fz pq := by
  unfold State.moveVa
  simp +contextual (maxDischargeDepth := 60) only [inv_fold, inv_mk, State.setFld_inv, State.setStrip_inv, apply_ite
    (State.Inv fz pq), ite_self, implies_true, hI]

theorem State.applyVa_inv (s : State) (d : Nat) (hI : s.Inv fz pq) :
    (State.applyVa s d).Inv fz pq := by
  unfold State.applyVa
  dsimp only
  repeat' split
  all_goals simp +contextual (maxDischargeDepth := 60) only [inv_fold, inv_mk, State.setStrip_inv, State.moveVa_inv,
    apply_ite (State.Inv fz pq), ite_self, implies_true, hI]

theorem State.retireHot_inv (s : State) (d : Nat) (hI : s.Inv fz pq) :
    (State.retireHot s d).Inv fz pq := by
  unfold State.retireHot
  simp +contextual (maxDischargeDepth := 60) only [inv_fold, inv_mk, State.cnt_inv, State.setStrip_inv, apply_ite
    (State.Inv fz pq), ite_self, implies_true, hI]

theorem State.rsetLeast_inv (s : State) (j : Nat) (hI : s.Inv fz pq) :
    (State.rsetLeast s j).Inv fz pq := by
  unfold State.rsetLeast
  dsimp only
  repeat' split
  all_goals simp +contextual (maxDischargeDepth := 60) only [State.setFld_inv, hI]

theorem State.frameBoundary_inv (s : State) (hI : s.Inv fz pq) :
    (State.frameBoundary s).Inv fz pq := by
  unfold State.frameBoundary
  simp +contextual (maxDischargeDepth := 60) only [inv_fold, inv_mk, State.coreEvents_inv, State.headerCause_inv,
    State.frameStrip_inv, State.frameNext_inv, State.commitCell_inv, State.commitRejection_inv, State.wcRestart_inv,
    apply_ite (State.Inv fz pq), inv_forEach, ite_self, implies_true, hI]

theorem State.halfFrame_inv (s : State) (hI : s.Inv fz pq) :
    (State.halfFrame s).Inv fz pq := by
  unfold State.halfFrame
  simp +contextual (maxDischargeDepth := 60) only [State.headerCause_inv, apply_ite (State.Inv fz pq), inv_forEach,
    ite_self, implies_true, hI]

theorem State.crossing_inv (s : State) (w : TSweep) (hI : s.Inv fz pq) :
    (State.crossing s w).2.Inv fz pq := by
  unfold State.crossing
  simp +contextual (maxDischargeDepth := 60) only [State.near_inv, State.takeInt_inv, apply_ite (State.Inv fz pq),
    apply_ite Prod.snd, ite_self, hI]

theorem State.flushSweeps_inv (s : State) (l : List TSweep) (hI : s.Inv fz pq) : (s.flushSweeps l).Inv fz pq := by
  induction l generalizing s with
  | nil => exact hI
  | cons w l ih =>
    unfold State.flushSweeps
    refine inv_ite _ hI (ih _ ?_)
    exact State.cnt_inv s _ _ 0 0 hI

theorem State.sweepAdvance_inv (s : State) (hI : s.Inv fz pq) :
    (State.sweepAdvance s).Inv fz pq := by
  unfold State.sweepAdvance
  simp +contextual (maxDischargeDepth := 60) only [inv_fold, inv_mk, State.cnt_inv, State.setFldS_inv,
    State.flushSweeps_inv, hI]

theorem State.sweepCommits_inv (s : State) (hI : s.Inv fz pq) :
    (State.sweepCommits s).Inv fz pq := by
  unfold State.sweepCommits
  simp +contextual (maxDischargeDepth := 60) only [State.coreEvents_inv, State.applyStart_inv,
    State.refreshEdges_inv, State.commitFiring_inv, State.commitWindow_inv, State.applyVa_inv, State.retireHot_inv,
    State.rsetLeast_inv, apply_ite (State.Inv fz pq), inv_forEach, ite_self, implies_true, hI]

theorem State.sweepColumns_inv (s : State) (hI : s.Inv fz pq) :
    (State.sweepColumns s).Inv fz pq := by
  unfold State.sweepColumns
  simp +contextual (maxDischargeDepth := 60) only [inv_fold, inv_mk, apply_ite (State.Inv fz pq), ite_self, hI]

theorem State.sweepFrames_inv (s : State) (hI : s.Inv fz pq) :
    (State.sweepFrames s).Inv fz pq := by
  unfold State.sweepFrames
  simp +contextual (maxDischargeDepth := 60) only [inv_fold, inv_mk, State.frameBoundary_inv, State.halfFrame_inv,
    apply_ite (State.Inv fz pq), ite_self, hI]

theorem State.sweepFirst_inv (s : State) (hI : s.Inv fz pq) :
    (State.sweepFirst s).Inv fz pq := by
  unfold State.sweepFirst
  simp +contextual (maxDischargeDepth := 60) only [State.sweepAdvance_inv, State.sweepCommits_inv,
    State.sweepColumns_inv, State.sweepFrames_inv, apply_ite (State.Inv fz pq), ite_self, implies_true, hI]

theorem execSweepBoundary_inv (s : State) (hI : s.Inv fz pq) :
    OutInv fz pq (execSweepBoundary s) := by
  unfold execSweepBoundary
  simp +contextual (maxDischargeDepth := 60) only [outInv_next, whenLive, State.sweepFirst_inv, apply_ite (State.Inv
    fz pq), ite_self, implies_true, hI]

theorem State.postTo_inv (s : State) (e : ColEv) (b : Nat) (hI : s.Inv fz pq) :
    (State.postTo s e b).Inv fz pq := by
  unfold State.postTo
  simp +contextual (maxDischargeDepth := 60) only [State.cnt_inv, State.setCore_inv, apply_ite (State.Inv fz pq),
    ite_self, hI]

theorem State.postColumn_inv (s : State) (w : TSweep) (t : Inst) (late : Bool) (hI : s.Inv fz pq) :
    (State.postColumn s w t late).Inv fz pq := by
  unfold State.postColumn
  simp +contextual (maxDischargeDepth := 60) only [inv_fold, inv_mk, State.cnt_inv, State.ditherStep_inv,
    State.postTo_inv, apply_ite (State.Inv fz pq), inv_forEach, ite_self, implies_true, hI]

theorem State.postNext_inv (s : State) (hI : s.Inv fz pq) :
    (State.postNext s).Inv fz pq := by
  unfold State.postNext
  dsimp only
  repeat' split
  all_goals simp +contextual (maxDischargeDepth := 60) only [inv_fold, inv_mk, State.cnt_inv, State.crossing_inv,
    State.flushSweeps_inv, State.postColumn_inv, apply_ite (State.Inv fz pq), ite_self, implies_true, hI]

theorem execColumnEventPost_inv (s : State) (hI : s.Inv fz pq) :
    OutInv fz pq (execColumnEventPost s) := by
  unfold execColumnEventPost
  simp +contextual (maxDischargeDepth := 60) only [outInv_next, whenLive, onlyIf, State.sweepFirst_inv,
    State.postNext_inv, apply_ite (State.Inv fz pq), ite_self, implies_true, hI]

end Sys2Proof.Machine
end

