-- ==== Sys2Proof/Laws/InvDome.lean ====
section
/-!
SUPPORT. Every operation of Machine/Dome.lean keeps the invariant of Laws/Inv.lean.
-/
namespace Sys2Proof.Machine

variable {fz : Fuses} {pq : List Instr}

theorem State.setUnit_inv (s : State) (u : Nat) (hI : s.Inv fz pq) :
    (State.setUnit s u).Inv fz pq := by
  unfold State.setUnit
  simp +contextual (maxDischargeDepth := 60) only [State.orBit_inv, hI]

theorem State.raiseFlts_inv (s : State) (l : List Fld) (hI : s.Inv fz pq) :
    (State.raiseFlts s l).Inv fz pq := by
  unfold State.raiseFlts
  simp +contextual (maxDischargeDepth := 60) only [State.setBit_inv, State.faultEvent_inv,
    apply_ite (State.Inv fz pq), inv_foldl, ite_self, implies_true, hI]

theorem State.confine_inv (s : State) (us : List Nat) (hI : s.Inv fz pq) :
    (State.confine s us).Inv fz pq := by
  unfold State.confine
  simp +contextual (maxDischargeDepth := 60) only [State.setBit_inv, State.enterMode_inv, State.safeDecision_inv,
    State.setUnit_inv, State.raiseFlts_inv, apply_ite (State.Inv fz pq), inv_foldl, ite_self, implies_true, hI]

theorem State.reactTo_inv (s : State) (rs : List Report) (hI : s.Inv fz pq) :
    (State.reactTo s rs).Inv fz pq := by
  unfold State.reactTo
  simp +contextual (maxDischargeDepth := 60) only [State.outputsUpdate_inv, State.safeDecision_inv,
    State.raiseFlts_inv, State.confine_inv, apply_ite (State.Inv fz pq), ite_self, hI]

theorem execDomeFaultReaction_inv (s : State) (hI : s.Inv fz pq) :
    OutInv fz pq (execDomeFaultReaction s) := by
  unfold execDomeFaultReaction
  try simp +contextual (maxDischargeDepth := 60) only [outInv_next, whenLive, apply_ite (State.Inv fz pq), hI]
  all_goals repeat' split
  all_goals simp +contextual (maxDischargeDepth := 60) only [inv_fold, inv_mk, State.reactTo_inv, hI]

theorem State.bootJudge_inv (s : State) (hI : s.Inv fz pq) :
    (State.bootJudge s).Inv fz pq := by
  unfold State.bootJudge
  simp +contextual (maxDischargeDepth := 60) only [State.safeDecision_inv, apply_ite (State.Inv fz pq), ite_self, hI]

theorem execLockstepMismatch_inv (s : State) (hI : s.Inv fz pq) :
    OutInv fz pq (execLockstepMismatch s) := by
  unfold execLockstepMismatch
  simp +contextual (maxDischargeDepth := 60) only [outInv_next, whenLive, State.setBit_inv, State.dropLsr_inv,
    State.report_inv, State.outputOff_inv, State.raiseFlts_inv, apply_ite (State.Inv fz pq), ite_self, hI]

theorem State.setContact_inv (s : State) (c : Nat) (x : Contact) (hI : s.Inv fz pq) :
    (State.setContact s c x).Inv fz pq := by
  unfold State.setContact
  simp +contextual (maxDischargeDepth := 60) only [inv_fold, inv_mk, hI]

theorem State.contactJudge_inv (s : State) (hI : s.Inv fz pq) :
    (State.contactJudge s).Inv fz pq := by
  unfold State.contactJudge
  try simp +contextual (maxDischargeDepth := 60) only [inv_fold, inv_mk, outInv_next, State.report_inv,
    apply_ite (State.Inv fz pq), apply_ite Prod.fst, apply_ite Prod.snd, apply_ite (OutInv fz pq),
    apply_ite (ExInv fz pq), exInv_ok, exInv_error, id_eq, inv_forEach, inv_foldl, inv_foldl_fst, inv_foldl_snd,
    ite_self, implies_true, hI]
  all_goals repeat' split
  all_goals simp +contextual (maxDischargeDepth := 60) only [State.report_inv, hI]

theorem State.contactSet_inv (s : State) (k : Nat) (chB : Bool) (op : Bool) (hI : s.Inv fz pq) :
    (State.contactSet s k chB op).Inv fz pq := by
  unfold State.contactSet
  simp +contextual (maxDischargeDepth := 60) only [inv_fold, inv_mk, State.orBit_inv, State.clrBit_inv,
    State.setContact_inv, apply_ite (State.Inv fz pq), ite_self, hI]

theorem execContactOpen_inv (k : Fin 4) (chB : Bool) (s : State) (hI : s.Inv fz pq) :
    OutInv fz pq (execContactOpen k chB s) := by
  unfold execContactOpen
  simp +contextual (maxDischargeDepth := 60) only [outInv_next, whenLive, State.report_inv, State.contactSet_inv,
    apply_ite (State.Inv fz pq), ite_self, hI]

theorem execContactClosed_inv (k : Fin 4) (chB : Bool) (s : State) (hI : s.Inv fz pq) :
    OutInv fz pq (execContactClosed k chB s) := by
  unfold execContactClosed
  simp +contextual (maxDischargeDepth := 60) only [outInv_next, whenLive, State.contactSet_inv,
    apply_ite (State.Inv fz pq), ite_self, hI]

theorem execContactDiscrepancy_inv (k : Fin 4) (s : State) (hI : s.Inv fz pq) :
    OutInv fz pq (execContactDiscrepancy k s) := by
  unfold execContactDiscrepancy
  try simp +contextual (maxDischargeDepth := 60) only [outInv_next, whenLive, apply_ite (State.Inv fz pq), hI]
  all_goals repeat' split
  all_goals simp +contextual (maxDischargeDepth := 60) only [State.orBit_inv, State.report_inv, hI]

theorem State.gapCheck_inv (s : State) (src : Bool) (ins : BitVec 8) (c : Nat) (hI : s.Inv fz pq) :
    (State.gapCheck s src ins c).Inv fz pq := by
  unfold State.gapCheck
  simp +contextual (maxDischargeDepth := 60) only [State.orBit_inv, State.report_inv, State.setContact_inv,
    apply_ite (State.Inv fz pq), ite_self, hI]

theorem execTpGap_inv (src : Bool) (ins : BitVec 8) (s : State) (hI : s.Inv fz pq) :
    OutInv fz pq (execTpGap src ins s) := by
  unfold execTpGap
  simp +contextual (maxDischargeDepth := 60) only [outInv_next, whenLive, onlyIf, inv_fold, inv_mk,
    State.gapCheck_inv, apply_ite (State.Inv fz pq), inv_forEach, ite_self, implies_true, hI]

theorem execTpOvercurrent_inv (src : Bool) (s : State) (hI : s.Inv fz pq) :
    OutInv fz pq (execTpOvercurrent src s) := by
  unfold execTpOvercurrent
  simp +contextual (maxDischargeDepth := 60) only [outInv_next, whenLive, State.setBit_inv, State.report_inv,
    apply_ite (State.Inv fz pq), ite_self, hI]

theorem execLsrEnRaise_inv (s : State) (hI : s.Inv fz pq) :
    OutInv fz pq (execLsrEnRaise s) := by
  unfold execLsrEnRaise
  simp +contextual (maxDischargeDepth := 60) only [inv_fold, inv_mk, outInv_next, whenLive, onlyIf,
    apply_ite (State.Inv fz pq), ite_self, hI]

theorem State.wrDegCtrl_inv (s : State) (v : Word) (hI : s.Inv fz pq) :
    (State.wrDegCtrl s v).1.Inv fz pq := by
  unfold State.wrDegCtrl
  try simp +contextual (maxDischargeDepth := 60) only [apply_ite (State.Inv fz pq), ite_self, implies_true, hI]
  all_goals repeat' split
  all_goals simp +contextual (maxDischargeDepth := 60) only [State.setBit_inv, apply_ite (State.Inv fz pq),
    ite_self, implies_true, hI]

theorem execDegradedExit_inv (s : State) (hI : s.Inv fz pq) :
    OutInv fz pq (execDegradedExit s) := by
  unfold execDegradedExit
  simp +contextual (maxDischargeDepth := 60) only [outInv_next, whenLive, onlyIf, State.enterMode_inv, apply_ite
    (State.Inv fz pq), ite_self, implies_true, hI]

theorem execDegTmaxExpiry_inv (s : State) (hI : s.Inv fz pq) :
    OutInv fz pq (execDegTmaxExpiry s) := by
  unfold execDegTmaxExpiry
  simp +contextual (maxDischargeDepth := 60) only [outInv_next, whenLive, onlyIf, State.safeDecision_inv,
    State.raiseFlts_inv, apply_ite (State.Inv fz pq), ite_self, implies_true, hI]

theorem State.checkBit_inv (s : State) (k : Nat) (failed : Bool) (hI : s.Inv fz pq) :
    (State.checkBit s k failed).Inv fz pq := by
  unfold State.checkBit
  simp +contextual (maxDischargeDepth := 60) only [inv_fold, inv_mk, hI]

theorem execDomePeriodicCheck_inv (c : DomeCheck) (failed : Bool) (s : State) (hI : s.Inv fz pq) :
    OutInv fz pq (execDomePeriodicCheck c failed s) := by
  unfold execDomePeriodicCheck
  dsimp only
  repeat' split
  all_goals simp +contextual (maxDischargeDepth := 60) only [outInv_next, whenLive, State.report_inv,
    State.checkBit_inv, apply_ite (State.Inv fz pq), inv_forEach, ite_self, implies_true, hI]

theorem execScanEntryChecksDone_inv (env : EntryEnv) (s : State) (hI : s.Inv fz pq) :
    OutInv fz pq (execScanEntryChecksDone env s) := by
  unfold execScanEntryChecksDone
  simp +contextual (maxDischargeDepth := 60) only [outInv_next, whenLive, onlyIf, State.setFld_inv,
    State.setBit_inv, State.enterMode_inv, State.safeDecision_inv, State.setUnit_inv, State.raiseFlts_inv, apply_ite
    (State.Inv fz pq), inv_foldl, ite_self, implies_true, hI]

theorem State.showBit_inv (s : State) (F : Fld) (k : Nat) (b : Bool) (hI : s.Inv fz pq) :
    (State.showBit s F k b).Inv fz pq := by
  unfold State.showBit
  simp +contextual (maxDischargeDepth := 60) only [State.orBit_inv, State.clrBit_inv, apply_ite (State.Inv fz pq),
    ite_self, hI]

theorem State.zoneJudge_inv (s : State) (f : Nat) (z : Nat) (hI : s.Inv fz pq) :
    (State.zoneJudge s f z).Inv fz pq := by
  unfold State.zoneJudge
  try simp only [apply_ite (State.Inv fz pq)]
  first | with_reducible assumption | simp +contextual (maxDischargeDepth := 60) only [inv_fold, inv_mk,
    State.orBit_inv, State.clrBit_inv, State.cnt_inv, State.showBit_inv, apply_ite (State.Inv fz pq), ite_self, *]

theorem execZoneVerdict_inv (s : State) (hI : s.Inv fz pq) :
    OutInv fz pq (execZoneVerdict s) := by
  unfold execZoneVerdict
  try simp +contextual (maxDischargeDepth := 60) only [outInv_next, whenLive, onlyIf, apply_ite (State.Inv fz pq), hI]
  all_goals repeat' split
  all_goals simp +contextual (maxDischargeDepth := 60) only [inv_fold, inv_mk, State.cnt_inv,
    State.outputsUpdate_inv, State.zoneJudge_inv, inv_forEach, implies_true, hI]

theorem execFrameTimeout_inv (s : State) (hI : s.Inv fz pq) :
    OutInv fz pq (execFrameTimeout s) := by
  unfold execFrameTimeout
  simp +contextual (maxDischargeDepth := 60) only [outInv_next, whenLive, onlyIf, State.cnt_inv, State.outputOff_inv,
    State.safeDecision_inv, State.raiseFlts_inv, apply_ite (State.Inv fz pq), ite_self, hI]

theorem State.readCheck_inv (s : State) (levels : BitVec 4) (ch : Nat) (hI : s.Inv fz pq) :
    (State.readCheck s levels ch).Inv fz pq := by
  unfold State.readCheck
  simp +contextual (maxDischargeDepth := 60) only [inv_fold, inv_mk, apply_ite (State.Inv fz pq), ite_self, hI]

theorem State.slotEnd_inv (s : State) (hI : s.Inv fz pq) :
    (State.slotEnd s).Inv fz pq := by
  unfold State.slotEnd
  dsimp only
  repeat' split
  all_goals simp +contextual (maxDischargeDepth := 60) only [inv_fold, inv_mk, State.showBit_inv, hI]

theorem State.halfPeriod_inv (s : State) (j : Nat) (hI : s.Inv fz pq) :
    (State.halfPeriod s j).Inv fz pq := by
  unfold State.halfPeriod
  simp +contextual (maxDischargeDepth := 60) only [State.orBit_inv, State.setLevel_inv, apply_ite (State.Inv fz pq),
    ite_self, hI]

theorem execSoutHalfPeriod_inv (levels : BitVec 4) (s : State) (hI : s.Inv fz pq) :
    OutInv fz pq (execSoutHalfPeriod levels s) := by
  unfold execSoutHalfPeriod
  simp +contextual (maxDischargeDepth := 60) only [outInv_next, whenLive, onlyIf, inv_fold, inv_mk,
    State.readCheck_inv, State.slotEnd_inv, State.halfPeriod_inv, apply_ite (State.Inv fz pq), inv_forEach,
    ite_self, implies_true, hI]

theorem execSoutTestGap_inv (ch : Fin 4) (readHigh : Bool) (s : State) (hI : s.Inv fz pq) :
    OutInv fz pq (execSoutTestGap ch readHigh s) := by
  unfold execSoutTestGap
  simp +contextual (maxDischargeDepth := 60) only [outInv_next, whenLive, onlyIf, inv_fold, inv_mk, State.cnt_inv,
    State.setLevel_inv, apply_ite (State.Inv fz pq), ite_self, implies_true, hI]

theorem execSoutReadbackFailure_inv (ch : Fin 4) (s : State) (hI : s.Inv fz pq) :
    OutInv fz pq (execSoutReadbackFailure ch s) := by
  unfold execSoutReadbackFailure
  simp +contextual (maxDischargeDepth := 60) only [inv_fold, inv_mk, outInv_next, whenLive, onlyIf, State.orBit_inv,
    State.clrBit_inv, State.report_inv, State.outputOff_inv, apply_ite (State.Inv fz pq), ite_self, hI]

theorem State.wrFlt_inv (s : State) (v : Word) (hI : s.Inv fz pq) :
    (State.wrFlt s v).1.Inv fz pq := by
  unfold State.wrFlt
  simp +contextual (maxDischargeDepth := 60) only [State.setBit_inv, apply_ite (State.Inv fz pq), inv_foldl,
    ite_self, implies_true, hI]

theorem State.wrSoutStat_inv (s : State) (v : Word) (hI : s.Inv fz pq) :
    (State.wrSoutStat s v).1.Inv fz pq := by
  unfold State.wrSoutStat
  simp +contextual (maxDischargeDepth := 60) only [State.clrBit_inv, apply_ite (State.Inv fz pq), inv_forEach,
    ite_self, implies_true, hI]

end Sys2Proof.Machine
end

