-- ==== Sys2Proof/Laws/InvModes.lean ====
section
/-!
SUPPORT. Every operation of Machine/Modes.lean keeps the invariant of Laws/Inv.lean.
-/
namespace Sys2Proof.Machine

variable {fz : Fuses} {pq : List Instr}

theorem State.setRailNum_inv (s : State) (k : Nat) (f : Rail → Rail) (hI : s.Inv fz pq) :
    (State.setRailNum s k f).Inv fz pq := by
  unfold State.setRailNum
  simp +contextual (maxDischargeDepth := 60) only [State.setRail_inv, hI]

theorem State.setInput_inv (s : State) (k : Nat) (bk : Bool) (hI : s.Inv fz pq) :
    (State.setInput s k bk).Inv fz pq := by
  unfold State.setInput
  simp +contextual (maxDischargeDepth := 60) only [inv_fold, inv_mk, State.setRailNum_inv, apply_ite (State.Inv fz
    pq), ite_self, implies_true, hI]

theorem State.switchOver_inv (s : State) (k : Nat) (hI : s.Inv fz pq) :
    (State.switchOver s k).Inv fz pq := by
  unfold State.switchOver
  simp +contextual (maxDischargeDepth := 60) only [State.cnt_inv, State.setInput_inv, apply_ite (State.Inv fz pq),
    ite_self, implies_true, hI]

theorem State.stayOn_inv (s : State) (k : Nat) (hI : s.Inv fz pq) :
    (State.stayOn s k).Inv fz pq := by
  unfold State.stayOn
  simp +contextual (maxDischargeDepth := 60) only [State.uncnt_inv, State.setInput_inv, apply_ite (State.Inv fz pq),
    ite_self, implies_true, hI]

theorem State.railJudge_inv (s : State) (k : Nat) (hI : s.Inv fz pq) :
    (State.railJudge s k).Inv fz pq := by
  unfold State.railJudge
  simp +contextual (maxDischargeDepth := 60) only [State.setInput_inv, State.switchOver_inv, State.stayOn_inv,
    apply_ite (State.Inv fz pq), ite_self, implies_true, hI]

theorem State.supplyFaults_inv (s : State) (k : Nat) (hI : s.Inv fz pq) :
    (State.supplyFaults s k).Inv fz pq := by
  unfold State.supplyFaults
  simp +contextual (maxDischargeDepth := 60) only [State.orBit_inv, State.report_inv, apply_ite (State.Inv fz pq),
    ite_self, implies_true, hI]

theorem State.supplySettle_inv (s : State) (hI : s.Inv fz pq) :
    (State.supplySettle s).Inv fz pq := by
  unfold State.supplySettle
  simp +contextual (maxDischargeDepth := 60) only [inv_fold, inv_mk, State.capUpdate_inv, State.enterMode_inv,
    State.supplyFaults_inv, apply_ite (State.Inv fz pq), inv_forEach, ite_self, implies_true, hI]

theorem State.porRestart_inv (s : State) (k : Nat) (hI : s.Inv fz pq) :
    (State.porRestart s k).Inv fz pq := by
  unfold State.porRestart
  simp +contextual (maxDischargeDepth := 60) only [State.setRailNum_inv, apply_ite (State.Inv fz pq), ite_self, hI]

theorem State.supplyChanged_inv (s : State) (hI : s.Inv fz pq) :
    (State.supplyChanged s).Inv fz pq := by
  unfold State.supplyChanged
  simp +contextual (maxDischargeDepth := 60) only [inv_fold, inv_mk, apply_ite (State.Inv fz pq), ite_self,
    implies_true, hI]

theorem execSupplyInputOutOfWindow_inv (rail : Fin 4) (backup : Bool) (s : State) (hI : s.Inv fz pq) :
    OutInv fz pq (execSupplyInputOutOfWindow rail backup s) := by
  unfold execSupplyInputOutOfWindow
  simp +contextual (maxDischargeDepth := 60) only [outInv_next, inv_fold, inv_mk, State.setRailNum_inv,
    State.railJudge_inv, State.porRestart_inv, State.supplyChanged_inv, apply_ite (State.Inv fz pq), ite_self,
    implies_true, hI]

theorem execSupplyInputInWindow_inv (rail : Fin 4) (backup : Bool) (s : State) (hI : s.Inv fz pq) :
    OutInv fz pq (execSupplyInputInWindow rail backup s) := by
  unfold execSupplyInputInWindow
  simp +contextual (maxDischargeDepth := 60) only [outInv_next, inv_fold, inv_mk, State.setRailNum_inv,
    State.railJudge_inv, State.supplyChanged_inv, apply_ite (State.Inv fz pq), ite_self, implies_true, hI]

theorem execSupplySwitchBack_inv (rail : Fin 4) (s : State) (hI : s.Inv fz pq) :
    OutInv fz pq (execSupplySwitchBack rail s) := by
  unfold execSupplySwitchBack
  dsimp only
  repeat' split
  all_goals simp +contextual (maxDischargeDepth := 60) only [outInv_next, State.setInput_inv, apply_ite (State.Inv
    fz pq), ite_self, implies_true, hI]

theorem State.supplyJudge_inv (s : State) (hI : s.Inv fz pq) :
    (State.supplyJudge s).Inv fz pq := by
  unfold State.supplyJudge
  simp +contextual (maxDischargeDepth := 60) only [State.railJudge_inv, State.supplySettle_inv, apply_ite (State.Inv
    fz pq), inv_forEach, ite_self, implies_true, hI]

theorem State.thawSupplies_inv (s : State) (hI : s.Inv fz pq) :
    (State.thawSupplies s).Inv fz pq := by
  unfold State.thawSupplies
  simp +contextual (maxDischargeDepth := 60) only [inv_fold, inv_mk, State.supplyJudge_inv, hI]

theorem State.showFreeze_inv (s : State) (hI : s.Inv fz pq) :
    (State.showFreeze s).Inv fz pq := by
  unfold State.showFreeze
  simp +contextual (maxDischargeDepth := 60) only [inv_fold, inv_mk, State.setBit_inv, apply_ite (State.Inv fz pq),
    ite_self, hI]

/-- A reset clears memory and the in-force copies and keeps the always-on registers. -/
theorem State.afterReset_inv (s : State) (hI : s.Inv fz pq) : s.afterReset.Inv fz pq := by
  have hs := Tab.sorted_filter hI.2.2.2.1 (fun p => aonRegs.contains (p.1 / 64))
  exact ⟨hI.1, hI.2.1, rfl, hs, rfl⟩

theorem State.startReset_inv (s : State) (cause : Fld) (hI : s.Inv fz pq) :
    (State.startReset s cause).Inv fz pq := by
  unfold State.startReset
  simp +contextual (maxDischargeDepth := 60) only [State.setBit_inv, State.showFreeze_inv, State.afterReset_inv,
    apply_ite (State.Inv fz pq), ite_self, hI]

theorem execPowerOnReset_inv (rail : Fin 4) (s : State) (hI : s.Inv fz pq) :
    OutInv fz pq (execPowerOnReset rail s) := by
  unfold execPowerOnReset
  simp +contextual (maxDischargeDepth := 60) only [inv_fold, inv_mk, outInv_next, State.setRailNum_inv,
    State.startReset_inv, hI]

theorem execResetNAssert_inv (s : State) (hI : s.Inv fz pq) :
    OutInv fz pq (execResetNAssert s) := by
  unfold execResetNAssert
  simp +contextual (maxDischargeDepth := 60) only [inv_fold, inv_mk, outInv_next, State.startReset_inv, hI]

theorem execResetNRelease_inv (s : State) (hI : s.Inv fz pq) :
    OutInv fz pq (execResetNRelease s) := by
  unfold execResetNRelease
  dsimp only
  repeat' split
  all_goals simp +contextual (maxDischargeDepth := 60) only [inv_fold, inv_mk, outInv_next, State.setFld_inv,
    State.setBit_inv, hI]

theorem execDomeReset_inv (s : State) (hI : s.Inv fz pq) :
    OutInv fz pq (execDomeReset s) := by
  unfold execDomeReset
  simp +contextual (maxDischargeDepth := 60) only [outInv_next, whenLive, State.startReset_inv,
    apply_ite (State.Inv fz pq), ite_self, hI]

theorem State.wrRstCtrl_inv (s : State) (v : Word) (hI : s.Inv fz pq) :
    (State.wrRstCtrl s v).1.Inv fz pq := by
  unfold State.wrRstCtrl
  simp +contextual (maxDischargeDepth := 60) only [State.startReset_inv, apply_ite (State.Inv fz pq),
    apply_ite Prod.fst, ite_self, hI]

theorem execResetEnd_inv (bootsel : BitVec 2) (s : State) (hI : s.Inv fz pq) :
    OutInv fz pq (execResetEnd bootsel s) := by
  unfold execResetEnd
  dsimp only
  repeat' split
  all_goals simp +contextual (maxDischargeDepth := 60) only [outInv_next, inv_fold, inv_mk, State.setFld_inv,
    State.supplyJudge_inv, apply_ite (State.Inv fz pq), ite_self, implies_true, hI]

theorem State.freezeNow_inv (s : State) (src : Nat) (hI : s.Inv fz pq) :
    (State.freezeNow s src).Inv fz pq := by
  unfold State.freezeNow
  simp +contextual (maxDischargeDepth := 60) only [inv_fold, inv_mk, State.setFld_inv, State.setBit_inv,
    State.cnt_inv, State.dropLsr_inv, State.coreEvents_inv, State.portsStop_inv, State.outputOff_inv,
    State.leaveDegraded_inv, apply_ite (State.Inv fz pq), ite_self, implies_true, hI]

theorem State.freezeReq_inv (s : State) (src : Nat) (hI : s.Inv fz pq) :
    (State.freezeReq s src).Inv fz pq := by
  unfold State.freezeReq
  simp +contextual (maxDischargeDepth := 60) only [State.cnt_inv, State.freezeNow_inv, apply_ite (State.Inv fz pq),
    ite_self, hI]

theorem execFreezePin_inv (s : State) (hI : s.Inv fz pq) :
    OutInv fz pq (execFreezePin s) := by
  unfold execFreezePin
  simp +contextual (maxDischargeDepth := 60) only [outInv_next, State.freezeReq_inv, apply_ite (State.Inv fz pq),
    ite_self, hI]

theorem State.wrFrzCtrl_inv (s : State) (a : Accessor) (v : Word) (hI : s.Inv fz pq) :
    (State.wrFrzCtrl s a v).1.Inv fz pq := by
  unfold State.wrFrzCtrl
  simp +contextual (maxDischargeDepth := 60) only [State.freezeReq_inv, apply_ite (State.Inv fz pq), ite_self, hI]

theorem execCaptureRecordWritten_inv (xs : List (BitVec 10)) (s : State) (hI : s.Inv fz pq) :
    OutInv fz pq (execCaptureRecordWritten xs s) := by
  unfold execCaptureRecordWritten
  try simp +contextual (maxDischargeDepth := 60) only [outInv_next, whenLive, apply_ite (State.Inv fz pq), hI]
  all_goals repeat' split
  all_goals simp +contextual (maxDischargeDepth := 60) only [State.capWrite_inv, State.freezeReq_inv, hI]

end Sys2Proof.Machine
end

