-- ==== Sys2Proof/Laws/InvCoreOps.lean ====
section
/-!
SUPPORT. Every operation of Machine/CoreOps.lean keeps the invariant of Laws/Inv.lean.
-/
namespace Sys2Proof.Machine

variable {fz : Fuses} {pq : List Instr}

theorem State.updCore_inv (s : State) (c : Nat) (f : Core → Core) (hI : s.Inv fz pq) :
    (State.updCore s c f).Inv fz pq := by
  unfold State.updCore
  simp +contextual (maxDischargeDepth := 60) only [State.setCore_inv, hI]

theorem State.setCoreState_inv (s : State) (c : Nat) (n : Nat) (hI : s.Inv fz pq) :
    (State.setCoreState s c n).Inv fz pq := by
  unfold State.setCoreState
  simp +contextual (maxDischargeDepth := 60) only [State.setFld_inv, hI]

theorem State.coreWait_inv (s : State) (c : Nat) (w : Wait) (hI : s.Inv fz pq) :
    (State.coreWait s c w).Inv fz pq := by
  unfold State.coreWait
  simp +contextual (maxDischargeDepth := 60) only [State.updCore_inv, State.setCoreState_inv, hI]

theorem State.coreResume_inv (s : State) (c : Nat) (hI : s.Inv fz pq) :
    (State.coreResume s c).Inv fz pq := by
  unfold State.coreResume
  simp +contextual (maxDischargeDepth := 60) only [State.updCore_inv, State.setCoreState_inv, hI]

theorem State.failover_inv (s : State) (c : Nat) (hI : s.Inv fz pq) :
    (State.failover s c).Inv fz pq := by
  unfold State.failover
  dsimp only
  repeat' split
  all_goals simp +contextual (maxDischargeDepth := 60) only [State.updCore_inv, hI]

theorem State.handOver_inv (s : State) (g : OutGrp) (hI : s.Inv fz pq) :
    (State.handOver s g).Inv fz pq := by
  unfold State.handOver
  simp +contextual (maxDischargeDepth := 60) only [State.setRing_inv, State.ringEntry_inv,
    apply_ite (State.Inv fz pq), ite_self, hI]

theorem State.releaseCell_inv (s : State) (c : Nat) (hI : s.Inv fz pq) :
    (State.releaseCell s c).Inv fz pq := by
  unfold State.releaseCell
  dsimp only
  repeat' split
  all_goals simp +contextual (maxDischargeDepth := 60) only [inv_fold, inv_mk, State.cnt_inv, State.wrMem_inv,
    State.reCrc_inv, State.updCore_inv, State.handOver_inv, hI]

theorem State.noReticle_inv (s : State) (hI : s.Inv fz pq) :
    (State.noReticle s).Inv fz pq := by
  unfold State.noReticle
  simp +contextual (maxDischargeDepth := 60) only [State.report_inv, apply_ite (State.Inv fz pq), ite_self,
    implies_true, hI]

theorem State.enterStopped_inv (s : State) (c : Nat) (n : Nat) (hI : s.Inv fz pq) :
    (State.enterStopped s c n).Inv fz pq := by
  unfold State.enterStopped
  simp +contextual (maxDischargeDepth := 60) only [inv_fold, inv_mk, State.report_inv, State.semReleaseAll_inv,
    State.updCore_inv, State.setCoreState_inv, State.failover_inv, State.releaseCell_inv, State.noReticle_inv,
    apply_ite (State.Inv fz pq), ite_self, implies_true, hI]

theorem State.stopDue_inv (s : State) (c : Nat) (hI : s.Inv fz pq) :
    (State.stopDue s c).Inv fz pq := by
  unfold State.stopDue
  simp +contextual (maxDischargeDepth := 60) only [State.enterStopped_inv, apply_ite (State.Inv fz pq), ite_self, hI]

theorem State.stopsDue_inv (s : State) (hI : s.Inv fz pq) :
    (State.stopsDue s).Inv fz pq := by
  unfold State.stopsDue
  simp +contextual (maxDischargeDepth := 60) only [State.stopDue_inv, inv_forEach, implies_true, hI]

theorem State.noteTrap_inv (s : State) (c : Nat) (cause : Nat) (hI : s.Inv fz pq) :
    (State.noteTrap s c cause).Inv fz pq := by
  unfold State.noteTrap
  simp +contextual (maxDischargeDepth := 60) only [State.setFld_inv, hI]

theorem State.trapTo_inv (s : State) (c : Nat) (cause : Nat) (hI : s.Inv fz pq) :
    (State.trapTo s c cause).Inv fz pq := by
  unfold State.trapTo
  simp +contextual (maxDischargeDepth := 60) only [State.setFld_inv, State.setBit_inv, State.updCore_inv,
    State.enterStopped_inv, State.noteTrap_inv, apply_ite (State.Inv fz pq), ite_self, hI]

theorem State.mbxYield_inv (s : State) (m : Nat) (a : Accessor) (hI : s.Inv fz pq) :
    (State.mbxYield s m a).Inv fz pq := by
  unfold State.mbxYield
  dsimp only
  repeat' split
  all_goals simp +contextual (maxDischargeDepth := 60) only [inv_fold, inv_mk, State.setFld_inv, State.cnt_inv,
    State.setMbx_inv, State.updCore_inv, State.trapTo_inv, apply_ite (State.Inv fz pq), ite_self, implies_true, hI]

/-- A fetch only moves the tile in the core's cache. -/
theorem State.fetch_inv (s : State) (c : Nat) {r : Word × State} (hI : s.Inv fz pq) (h : s.fetch c = some r) :
    r.2.Inv fz pq := by
  unfold State.fetch at h
  dsimp only at h
  split at h
  · injection h with h
    subst h
    exact State.setCore_inv _ _ _ hI
  · split at h
    · injection h with h
      subst h
      exact State.setCore_inv _ _ _ hI
    · cases h

theorem State.advance_inv (s : State) (c : Nat) (hI : s.Inv fz pq) :
    (State.advance s c).Inv fz pq := by
  unfold State.advance
  simp +contextual (maxDischargeDepth := 60) only [State.updCore_inv, hI]

/-- An instruction keeps the invariant if its action does. -/
theorem State.issue_inv (s : State) (c op : Nat) (w : BitVec 40) (u : Subset) (legal : Bool)
    (act : State → Except Nat State) (count : State → State) (ha : ∀ t, t.Inv fz pq → ExInv fz pq (act t))
    (hc : ∀ t, t.Inv fz pq → (count t).Inv fz pq) (hI : s.Inv fz pq) :
    (s.issue c op w u legal act count).Inv fz pq := by
  unfold State.issue
  refine inv_ite _ hI (inv_ite _ (State.trapTo_inv _ _ _ hI) ?_)
  split
  · exact State.trapTo_inv _ _ _ hI
  · rename_i v t h
    have ht := State.fetch_inv s c hI h
    refine inv_ite _ (State.trapTo_inv _ _ _ ht) (inv_ite _ hI (inv_ite _ (State.trapTo_inv _ _ _ ht) ?_))
    have h2 := ha _ (State.advance_inv t c ht)
    split
    · exact State.trapTo_inv _ _ _ (hc _ ht)
    · rename_i t2 h3
      rw [h3] at h2
      exact h2

theorem State.issueCore_inv (s : State) (c : Nat) (op : Nat) (w : BitVec 40) (u : Subset) (legal : Bool) (f : Core → Core) (hI : s.Inv fz pq) :
    (State.issueCore s c op w u legal f).Inv fz pq := by
  unfold State.issueCore
  simp +contextual (maxDischargeDepth := 60) only [State.updCore_inv, State.issue_inv, exInv_ok, id_eq, implies_true,
    hI]

end Sys2Proof.Machine
end

