-- ==== Sys2Proof/Laws/InvOutput.lean ====
section
/-!
SUPPORT. Every operation of Machine/Output.lean keeps the invariant of Laws/Inv.lean.
-/
namespace Sys2Proof.Machine

variable {fz : Fuses} {pq : List Instr}

theorem execRingGroupEntry_inv (b : Fin 4) (s : State) (hI : s.Inv fz pq) :
    OutInv fz pq (execRingGroupEntry b s) := by
  unfold execRingGroupEntry
  simp +contextual (maxDischargeDepth := 60) only [outInv_next, whenLive, State.ringEntry_inv, State.sweepFirst_inv,
    State.stopsDue_inv, apply_ite (State.Inv fz pq), ite_self, implies_true, hI]

theorem execRingStallTimeout_inv (b : Fin 4) (s : State) (hI : s.Inv fz pq) :
    OutInv fz pq (execRingStallTimeout b s) := by
  unfold execRingStallTimeout
  try simp +contextual (maxDischargeDepth := 60) only [outInv_next, whenLive, onlyIf, apply_ite (State.Inv fz pq), hI]
  all_goals repeat' split
  all_goals simp +contextual (maxDischargeDepth := 60) only [State.setBit_inv, State.ringEntry_inv,
    State.stopsDue_inv, hI]

theorem State.ringEmpty_inv (s : State) (b : Nat) (hI : s.Inv fz pq) :
    (State.ringEmpty s b).Inv fz pq := by
  unfold State.ringEmpty
  simp +contextual (maxDischargeDepth := 60) only [inv_fold, inv_mk, State.setRing_inv, State.ringDiscarded_inv,
    State.updPort_inv, apply_ite (State.Inv fz pq), inv_forEach, ite_self, implies_true, hI]

theorem State.wrRingCfg_inv (s : State) (b : Nat) (v : Word) (hI : s.Inv fz pq) :
    (State.wrRingCfg s b v).1.Inv fz pq := by
  unfold State.wrRingCfg
  dsimp only
  repeat' split
  all_goals simp +contextual (maxDischargeDepth := 60) only [State.setFld_inv, State.stage_inv, State.ringEmpty_inv,
    apply_ite (State.Inv fz pq), ite_self, implies_true, hI]

theorem execWcIntervalEnd_inv (b : Fin 4) (s : State) (hI : s.Inv fz pq) :
    OutInv fz pq (execWcIntervalEnd b s) := by
  unfold execWcIntervalEnd
  simp +contextual (maxDischargeDepth := 60) only [outInv_next, whenLive, State.wcEnd_inv, apply_ite (State.Inv fz
    pq), ite_self, implies_true, hI]

theorem execPointFrameSend_inv (p : Fin 2) (b : Fin 4) (s : State) (hI : s.Inv fz pq) :
    OutInv fz pq (execPointFrameSend p b s) := by
  unfold execPointFrameSend
  try simp +contextual (maxDischargeDepth := 60) only [outInv_next, whenLive, onlyIf, apply_ite (State.Inv fz pq), hI]
  all_goals repeat' split
  all_goals simp +contextual (maxDischargeDepth := 60) only [State.setRing_inv, State.updPort_inv, State.sendNow_inv,
    State.pump_inv, hI]

end Sys2Proof.Machine
end

