-- ==== Sys2Proof/Laws/InvGloe.lean ====
section
/-!
SUPPORT. Every operation of Machine/Gloe.lean keeps the invariant of Laws/Inv.lean.
-/
namespace Sys2Proof.Machine

variable {fz : Fuses} {pq : List Instr}

theorem execBlockLock_inv (p : PortRun) (s : State) (hI : s.Inv fz pq) :
    OutInv fz pq (execBlockLock p s) := by
  unfold execBlockLock
  try simp +contextual (maxDischargeDepth := 60) only [outInv_next, whenLive, onlyIf, apply_ite (State.Inv fz pq),
    ite_self, implies_true, hI]
  all_goals repeat' split
  all_goals simp +contextual (maxDischargeDepth := 60) only [outInv_next, whenLive, onlyIf, inv_fold, inv_mk,
    State.setBit_inv, State.updPort_inv, State.sendTrain_inv, apply_ite (State.Inv fz pq), ite_self, implies_true,
    hI]

theorem State.loseLock_inv (s : State) (p : Nat) (hI : s.Inv fz pq) :
    (State.loseLock s p).Inv fz pq := by
  unfold State.loseLock
  simp +contextual (maxDischargeDepth := 60) only [inv_fold, inv_mk, State.updPort_inv, State.portDown_inv,
    apply_ite (State.Inv fz pq), ite_self, implies_true, hI]

theorem execBlockLockLoss_inv (p : PortRun) (s : State) (hI : s.Inv fz pq) :
    OutInv fz pq (execBlockLockLoss p s) := by
  unfold execBlockLockLoss
  simp +contextual (maxDischargeDepth := 60) only [outInv_next, whenLive, onlyIf, State.loseLock_inv, apply_ite
    (State.Inv fz pq), ite_self, implies_true, hI]

theorem State.countBad_inv (s : State) (p : Nat) (n : Nat) (hI : s.Inv fz pq) :
    (State.countBad s p n).Inv fz pq := by
  unfold State.countBad
  simp +contextual (maxDischargeDepth := 60) only [inv_fold, inv_mk, State.setPort_inv, State.loseLock_inv,
    apply_ite (State.Inv fz pq), ite_self, implies_true, hI]

theorem State.trained_inv (s : State) (p : Nat) (hI : s.Inv fz pq) :
    (State.trained s p).Inv fz pq := by
  unfold State.trained
  simp +contextual (maxDischargeDepth := 60) only [State.setFld_inv, State.sendFlow_inv, apply_ite (State.Inv fz
    pq), ite_self, implies_true, hI]

theorem State.nak_inv (s : State) (p : Nat) (hI : s.Inv fz pq) :
    (State.nak s p).Inv fz pq := by
  unfold State.nak
  simp +contextual (maxDischargeDepth := 60) only [State.updPort_inv, hI]

theorem State.malformed_inv (s : State) (p : Nat) (hI : s.Inv fz pq) :
    (State.malformed s p).Inv fz pq := by
  unfold State.malformed
  simp +contextual (maxDischargeDepth := 60) only [State.cnt_inv, State.nak_inv, apply_ite (State.Inv fz pq),
    ite_self, implies_true, hI]

theorem execTrain_inv (p : Fin 3) (f : List Word) (s : State) (hI : s.Inv fz pq) :
    OutInv fz pq (execTrain p f s) := by
  unfold execTrain
  simp +contextual (maxDischargeDepth := 60) only [outInv_next, whenLive, onlyIf, inv_fold, inv_mk,
    State.updPort_inv, State.sendTrain_inv, State.portDown_inv, State.trained_inv, State.malformed_inv, apply_ite
    (State.Inv fz pq), ite_self, implies_true, hI]

theorem execFlow_inv (p : Fin 3) (f : List Word) (s : State) (hI : s.Inv fz pq) :
    OutInv fz pq (execFlow p f s) := by
  unfold execFlow
  simp +contextual (maxDischargeDepth := 60) only [outInv_next, whenLive, onlyIf, State.setFld_inv,
    State.updPort_inv, State.pump_inv, State.portUp_inv, apply_ite (State.Inv fz pq), ite_self, hI]

theorem execFlowSend_inv (p : Fin 3) (s : State) (hI : s.Inv fz pq) :
    OutInv fz pq (execFlowSend p s) := by
  unfold execFlowSend
  simp +contextual (maxDischargeDepth := 60) only [outInv_next, whenLive, onlyIf, State.sendFlow_inv, apply_ite
    (State.Inv fz pq), ite_self, implies_true, hI]

theorem State.wrLinkCtrl_inv (s : State) (p : Nat) (v : Word) (hI : s.Inv fz pq) :
    (State.wrLinkCtrl s p v).1.Inv fz pq := by
  unfold State.wrLinkCtrl
  simp +contextual (maxDischargeDepth := 60) only [State.setFld_inv, State.setBit_inv, State.startTrain_inv,
    State.portDown_inv, apply_ite (State.Inv fz pq), ite_self, implies_true, hI]

theorem State.takeAcks_inv (s : State) (p : Nat) (bs : List Payload) (hI : s.Inv fz pq) :
    (State.takeAcks s p bs).Inv fz pq := by
  unfold State.takeAcks
  simp +contextual (maxDischargeDepth := 60) only [State.release_inv, apply_ite (State.Inv fz pq), inv_foldl,
    ite_self, implies_true, hI]

theorem execAckReceived_inv (p : Fin 3) (rx : LineRun) (s : State) (hI : s.Inv fz pq) :
    OutInv fz pq (execAckReceived p rx s) := by
  unfold execAckReceived
  simp +contextual (maxDischargeDepth := 60) only [outInv_next, whenLive, State.pump_inv, State.takeAcks_inv,
    apply_ite (State.Inv fz pq), ite_self, implies_true, hI]

theorem execNakReceived_inv (p : Fin 3) (rx : LineRun) (s : State) (hI : s.Inv fz pq) :
    OutInv fz pq (execNakReceived p rx s) := by
  unfold execNakReceived
  simp +contextual (maxDischargeDepth := 60) only [outInv_next, whenLive, onlyIf, State.cnt_inv, State.pump_inv,
    State.replay_inv, State.takeAcks_inv, apply_ite (State.Inv fz pq), ite_self, implies_true, hI]

theorem execAckTimeout_inv (p : Fin 3) (s : State) (hI : s.Inv fz pq) :
    OutInv fz pq (execAckTimeout p s) := by
  unfold execAckTimeout
  simp +contextual (maxDischargeDepth := 60) only [outInv_next, whenLive, onlyIf, State.cnt_inv, State.setPort_inv,
    State.portDown_inv, State.replay_inv, apply_ite (State.Inv fz pq), ite_self, hI]

theorem execPortFault_inv (p : Fin 3) (s : State) (hI : s.Inv fz pq) :
    OutInv fz pq (execPortFault p s) := by
  unfold execPortFault
  simp +contextual (maxDischargeDepth := 60) only [outInv_next, whenLive, onlyIf, State.setBit_inv, State.report_inv,
    State.portEvent_inv, apply_ite (State.Inv fz pq), ite_self, hI]

theorem State.wrLinkStat_inv (s : State) (p : Nat) (v : Word) (hI : s.Inv fz pq) :
    (State.wrLinkStat s p v).1.Inv fz pq := by
  unfold State.wrLinkStat
  simp +contextual (maxDischargeDepth := 60) only [State.setBit_inv, apply_ite (State.Inv fz pq), ite_self,
    implies_true, hI]

theorem execSemHoldExpiry_inv (p : Fin 3) (s : State) (hI : s.Inv fz pq) :
    OutInv fz pq (execSemHoldExpiry p s) := by
  unfold execSemHoldExpiry
  simp +contextual (maxDischargeDepth := 60) only [outInv_next, whenLive, onlyIf, State.semReleaseAll_inv,
    apply_ite (State.Inv fz pq), inv_foldl, ite_self, implies_true, hI]

theorem State.wrMbxAck_inv (s : State) (m : Nat) (v : Word) (hI : s.Inv fz pq) :
    (State.wrMbxAck s m v).1.Inv fz pq := by
  unfold State.wrMbxAck
  simp +contextual (maxDischargeDepth := 60) only [State.mbxSetAck_inv, apply_ite (State.Inv fz pq), ite_self, hI]

theorem execChain_inv (p : Fin 3) (f : List Word) (s : State) (hI : s.Inv fz pq) :
    OutInv fz pq (execChain p f s) := by
  unfold execChain
  simp +contextual (maxDischargeDepth := 60) only [inv_fold, inv_mk, outInv_next, whenLive, onlyIf, State.freed_inv,
    State.chainUpdate_inv, State.rxAccept_inv, apply_ite (State.Inv fz pq), ite_self, implies_true, hI]

theorem State.forwardUp_inv (s : State) (f : List Word) (hI : s.Inv fz pq) :
    (State.forwardUp s f).Inv fz pq := by
  unfold State.forwardUp
  simp +contextual (maxDischargeDepth := 60) only [inv_fold, inv_mk, State.queueFrame_inv, hI]

theorem execUpstreamFrameForward_inv (f : List Word) (s : State) (hI : s.Inv fz pq) :
    OutInv fz pq (execUpstreamFrameForward f s) := by
  unfold execUpstreamFrameForward
  simp +contextual (maxDischargeDepth := 60) only [outInv_next, whenLive, onlyIf, State.rxAccept_inv,
    State.malformed_inv, State.forwardUp_inv, apply_ite (State.Inv fz pq), ite_self, implies_true, hI]

end Sys2Proof.Machine
end

