-- ==== Sys2Proof/Laws/InvCoreCtl.lean ====
section
/-!
SUPPORT. Every operation of Machine/CoreCtl.lean keeps the invariant of Laws/Inv.lean.
-/
namespace Sys2Proof.Machine

variable {fz : Fuses} {pq : List Instr}

theorem State.startCore_inv (s : State) (c : Nat) (hI : s.Inv fz pq) :
    (State.startCore s c).Inv fz pq := by
  unfold State.startCore
  simp +contextual (maxDischargeDepth := 60) only [inv_fold, inv_mk, State.setFld_inv, State.setBit_inv,
    State.updCore_inv, State.setCoreState_inv, State.releaseCell_inv, apply_ite (State.Inv fz pq), ite_self,
    implies_true, hI]

theorem State.stopCore_inv (s : State) (c : Nat) (hI : s.Inv fz pq) :
    (State.stopCore s c).Inv fz pq := by
  unfold State.stopCore
  simp +contextual (maxDischargeDepth := 60) only [State.updCore_inv, State.stopDue_inv, apply_ite (State.Inv fz pq),
    ite_self, hI]

theorem State.setWd_inv (s : State) (c : Nat) (n : Nat) (hI : s.Inv fz pq) :
    (State.setWd s c n).Inv fz pq := by
  unfold State.setWd
  simp +contextual (maxDischargeDepth := 60) only [State.setFld_inv, State.updCore_inv, apply_ite (State.Inv fz pq),
    ite_self, hI]

theorem State.wrCoreCtrl_inv (s : State) (c : Nat) (v : Word) (hI : s.Inv fz pq) :
    (State.wrCoreCtrl s c v).1.Inv fz pq := by
  unfold State.wrCoreCtrl
  simp +contextual (maxDischargeDepth := 60) only [State.setFld_inv, State.setBit_inv, State.coreEvent_inv,
    State.startCore_inv, State.stopCore_inv, State.setWd_inv, apply_ite (State.Inv fz pq), apply_ite Prod.fst,
    ite_self, hI]

theorem execCoreLoadDone_inv (c : Fin 12) (s : State) (hI : s.Inv fz pq) :
    OutInv fz pq (execCoreLoadDone c s) := by
  unfold execCoreLoadDone
  simp +contextual (maxDischargeDepth := 60) only [outInv_next, whenLive, onlyIf, State.setFld_inv,
    State.updCore_inv, State.setCoreState_inv, State.enterStopped_inv, apply_ite (State.Inv fz pq), ite_self, hI]

theorem execWatchdogExpiry_inv (c : Fin 12) (s : State) (hI : s.Inv fz pq) :
    OutInv fz pq (execWatchdogExpiry c s) := by
  unfold execWatchdogExpiry
  simp +contextual (maxDischargeDepth := 60) only [outInv_next, whenLive, onlyIf, State.setBit_inv, State.report_inv,
    State.updCore_inv, apply_ite (State.Inv fz pq), ite_self, hI]

theorem State.wrEphLoad_inv (s : State) (v : Word) (hI : s.Inv fz pq) :
    (State.wrEphLoad s v).1.Inv fz pq := by
  unfold State.wrEphLoad
  simp +contextual (maxDischargeDepth := 60) only [inv_fold, inv_mk, State.setFld_inv, State.setBit_inv,
    apply_ite (State.Inv fz pq), apply_ite Prod.fst, ite_self, hI]

theorem State.ephCopy_inv (s : State) (ws : List Word) (k : Nat) (hI : s.Inv fz pq) :
    (State.ephCopy s ws k).Inv fz pq := by
  unfold State.ephCopy
  simp +contextual (maxDischargeDepth := 60) only [inv_fold, inv_mk, inv_forEach, implies_true, hI]

theorem State.ephVerify_inv (n k : Nat) (prev : Option Int) (s : State) (hI : s.Inv fz pq) :
    (State.ephVerify n k prev s).2.Inv fz pq := by
  induction n generalizing k prev s with
  | zero => exact hI
  | succ n ih =>
    unfold State.ephVerify
    dsimp only
    split
    · exact State.ephCopy_inv _ _ _ hI
    · exact ih _ _ _ (State.ephCopy_inv _ _ _ hI)

theorem execEphVerifyDone_inv (s : State) (hI : s.Inv fz pq) :
    OutInv fz pq (execEphVerifyDone s) := by
  unfold execEphVerifyDone
  try simp only [whenLive, onlyIf, outInv_next, apply_ite (State.Inv fz pq)]
  repeat' first
    | split
    | with_reducible refine inv_forEach (fun _ _ _ => ?_) _ ?_
    | with_reducible refine inv_foldl (fun _ _ _ => ?_) _ ?_ | dsimp only
  all_goals first | with_reducible assumption | simp +contextual (maxDischargeDepth := 60) only [State.setFld_inv,
    State.setBit_inv, State.ephVerify_inv, *]

theorem State.wrCommit_inv (s : State) (a : Accessor) (v : Word) (hI : s.Inv fz pq) :
    (State.wrCommit s a v).1.Inv fz pq := by
  unfold State.wrCommit
  simp +contextual (maxDischargeDepth := 60) only [State.makeCommit_inv, apply_ite (State.Inv fz pq), inv_forEach,
    ite_self, implies_true, hI]

end Sys2Proof.Machine
end

