-- ==== Sys2Proof/Laws/InvBoot.lean ====
section
/-!
SUPPORT. Every operation of Machine/Boot.lean keeps the invariant of Laws/Inv.lean.
-/
namespace Sys2Proof.Machine

variable {fz : Fuses} {pq : List Instr}

theorem State.placeData_inv (s : State) (m : Image) (hI : s.Inv fz pq) :
    (State.placeData s m).Inv fz pq := by
  unfold State.placeData
  simp +contextual (maxDischargeDepth := 60) only [State.wrTile_inv, inv_forEach, inv_foldl, implies_true, hI]

theorem State.bootFail_inv (s : State) (err : Nat) (hI : s.Inv fz pq) :
    (State.bootFail s err).Inv fz pq := by
  unfold State.bootFail
  simp +contextual (maxDischargeDepth := 60) only [inv_fold, inv_mk, State.setFld_inv, State.setBit_inv, hI]

theorem State.bootDone_inv (s : State) (m : Image) (used : Nat) (hI : s.Inv fz pq) :
    (State.bootDone s m used).Inv fz pq := by
  unfold State.bootDone
  simp +contextual (maxDischargeDepth := 60) only [inv_fold, inv_mk, State.setFld_inv, State.setBit_inv,
    State.enterMode_inv, State.bootJudge_inv, hI]

theorem State.bootCheck_inv (s : State) (m : Image) (used : Nat) (stage : Option Nat) (env : BootEnv) (hI : s.Inv fz pq) :
    (State.bootCheck s m used stage env).Inv fz pq := by
  unfold State.bootCheck
  dsimp only
  repeat' split
  all_goals simp +contextual (maxDischargeDepth := 60) only [inv_fold, inv_mk, State.setBit_inv, State.placeData_inv,
    State.bootFail_inv, State.bootDone_inv, hI]

theorem execBootChecksDone_inv (env : BootEnv) (s : State) (hI : s.Inv fz pq) :
    OutInv fz pq (execBootChecksDone env s) := by
  unfold execBootChecksDone
  try simp +contextual (maxDischargeDepth := 60) only [outInv_next, whenLive, onlyIf, apply_ite (State.Inv fz pq),
    ite_self, implies_true, hI]
  all_goals repeat' split
  all_goals simp +contextual (maxDischargeDepth := 60) only [outInv_next, whenLive, onlyIf, State.bootCheck_inv,
    apply_ite (State.Inv fz pq), ite_self, implies_true, hI]

theorem State.wrBootCtrl_inv (s : State) (a : Accessor) (v : Word) (hI : s.Inv fz pq) :
    (State.wrBootCtrl s a v).1.Inv fz pq := by
  unfold State.wrBootCtrl
  simp +contextual (maxDischargeDepth := 60) only [inv_fold, inv_mk, State.setFld_inv, State.setBit_inv,
    apply_ite (State.Inv fz pq), apply_ite Prod.fst, ite_self, hI]

end Sys2Proof.Machine
end

