-- ==== Sys2Proof/Laws/InvAccess.lean ====
section
/-!
SUPPORT. Every operation of Machine/Access.lean keeps the invariant of Laws/Inv.lean.
-/
namespace Sys2Proof.Machine

variable {fz : Fuses} {pq : List Instr}

theorem State.beforeHot_inv (s : State) (a : Nat) (hI : s.Inv fz pq) :
    (State.beforeHot s a).Inv fz pq := by
  unfold State.beforeHot
  try simp only [apply_ite (State.Inv fz pq)]
  repeat' first
    | split
    | with_reducible refine inv_forEach (fun _ _ _ => ?_) _ ?_
    | with_reducible refine inv_foldl (fun _ _ _ => ?_) _ ?_ | dsimp only
  all_goals first | with_reducible assumption | simp +contextual (maxDischargeDepth := 60) only [State.setFld_inv,
    apply_ite (State.Inv fz pq), inv_foldl, ite_self, implies_true, *]

theorem State.clearFld_inv (s : State) (F : Fld) (i : Nat) (j : Nat) (hI : s.Inv fz pq) :
    (State.clearFld s F i j).Inv fz pq := by
  unfold State.clearFld
  simp +contextual (maxDischargeDepth := 60) only [inv_fold, inv_mk, State.setFld_inv, apply_ite (State.Inv fz pq),
    ite_self, implies_true, hI]

theorem State.clearRc_inv (s : State) (a : Nat) (hI : s.Inv fz pq) :
    (State.clearRc s a).Inv fz pq := by
  unfold State.clearRc
  simp +contextual (maxDischargeDepth := 60) only [State.clearFld_inv, apply_ite (State.Inv fz pq), inv_foldl,
    ite_self, implies_true, hI]

/-- A register read with its side effects. -/
theorem State.regRead_inv (s : State) (a : Accessor) (addr : Nat) {r : Word × State} (hI : s.Inv fz pq)
    (h : s.regRead a addr = .ok r) : r.2.Inv fz pq := by
  unfold State.regRead at h
  dsimp only at h
  have hc := State.clearRc_inv s addr hI
  repeat' split at h
  all_goals first | cases h; done | (injection h with h; subst h; simp +contextual (maxDischargeDepth := 60) only [State.semClaim_inv, State.setLatch_inv,
    State.unOvr_inv, apply_ite (State.Inv fz pq), ite_self, hc, hI])

theorem State.wrFld_inv (s : State) (v : Word) (p : Fld × Nat × Nat) (hI : s.Inv fz pq) :
    (State.wrFld s v p).Inv fz pq := by
  unfold State.wrFld
  dsimp only
  repeat' split
  all_goals simp +contextual (maxDischargeDepth := 60) only [State.setFld_inv, State.stage_inv, apply_ite (State.Inv
    fz pq), ite_self, implies_true, hI]

theorem State.wrPlain_inv (s : State) (addr : Nat) (v : Word) (hI : s.Inv fz pq) :
    (State.wrPlain s addr v).Inv fz pq := by
  unfold State.wrPlain
  simp +contextual (maxDischargeDepth := 60) only [State.wrFld_inv, inv_foldl, implies_true, hI]

theorem State.wrDbgCfg_inv (s : State) (v : Word) (hI : s.Inv fz pq) :
    (State.wrDbgCfg s v).1.Inv fz pq := by
  unfold State.wrDbgCfg
  simp +contextual (maxDischargeDepth := 60) only [State.setBit_inv, State.wrPlain_inv, hI]

theorem State.wrDev_inv (s : State) (a : Accessor) (addr : Nat) (v : Word) (hI : s.Inv fz pq) :
    (State.wrDev s a addr v).1.Inv fz pq := by
  unfold State.wrDev
  try simp +contextual (maxDischargeDepth := 60) only [apply_ite (State.Inv fz pq), ite_self, implies_true, hI]
  all_goals repeat' split
  all_goals simp +contextual (maxDischargeDepth := 60) only [State.wrModeReq_inv, State.supplyJudge_inv,
    State.wrRstCtrl_inv, State.wrFrzCtrl_inv, State.wrCommit_inv, State.wrBootCtrl_inv, State.wrPlain_inv,
    State.wrDbgCfg_inv, apply_ite (State.Inv fz pq), ite_self, implies_true, hI]

theorem State.keepRefLoss_inv (t s : State) (hI : t.Inv fz pq) : (t.keepRefLoss s).Inv fz pq := by
  unfold State.keepRefLoss
  exact inv_ite _ (State.setBit_inv _ _ _ 0 0 hI) hI

theorem State.wrTime_inv (s : State) (addr : Nat) (v : Word) (hI : s.Inv fz pq) :
    (State.wrTime s addr v).1.Inv fz pq := by
  unfold State.wrTime
  try simp only [outInv_next, apply_ite (State.Inv fz pq)]
  repeat' first
    | split
    | with_reducible refine inv_forEach (fun _ _ _ => ?_) _ ?_
    | with_reducible refine inv_foldl (fun _ _ _ => ?_) _ ?_ | dsimp only
  all_goals first | with_reducible assumption | simp +contextual (maxDischargeDepth := 60) only [State.wrPllCtrl_inv,
    State.wrSscCfg_inv, State.wrSscSeg_inv, State.wrFmuCfg_inv, State.wrPlain_inv, State.keepRefLoss_inv, *]

theorem State.wrFire_inv (s : State) (addr : Nat) (v : Word) (hI : s.Inv fz pq) :
    (State.wrFire s addr v).1.Inv fz pq := by
  unfold State.wrFire
  try simp only
  repeat' first
    | split
    | with_reducible refine inv_forEach (fun _ _ _ => ?_) _ ?_
    | with_reducible refine inv_foldl (fun _ _ _ => ?_) _ ?_ | dsimp only
  all_goals first | with_reducible assumption | simp +contextual (maxDischargeDepth := 60) only [inv_fold, inv_mk,
    State.wrFireCtrl_inv, State.wrPlain_inv, *]

theorem State.wrMon_inv (s : State) (addr : Nat) (v : Word) (hI : s.Inv fz pq) :
    (State.wrMon s addr v).1.Inv fz pq := by
  unfold State.wrMon
  try simp only
  repeat' first
    | split
    | with_reducible refine inv_forEach (fun _ _ _ => ?_) _ ?_
    | with_reducible refine inv_foldl (fun _ _ _ => ?_) _ ?_ | dsimp only
  all_goals first | with_reducible assumption | simp +contextual (maxDischargeDepth := 60) only [inv_fold, inv_mk,
    State.wrCapCtrl_inv, State.wrPlain_inv, *]

theorem State.wrMirr_inv (s : State) (addr : Nat) (v : Word) (hI : s.Inv fz pq) :
    (State.wrMirr s addr v).1.Inv fz pq := by
  unfold State.wrMirr
  simp +contextual (maxDischargeDepth := 60) only [inv_fold, inv_mk, State.wrPlain_inv, apply_ite (State.Inv fz pq),
    apply_ite Prod.fst, ite_self, hI]

theorem State.wrAfe_inv (s : State) (addr : Nat) (v : Word) (hI : s.Inv fz pq) :
    (State.wrAfe s addr v).1.Inv fz pq := by
  unfold State.wrAfe
  simp +contextual (maxDischargeDepth := 60) only [State.wrBrCtrl_inv, State.wrBrStat_inv, State.wrTdacCfg_inv,
    State.hkAsk_inv, State.wrHkCtrl_inv, State.wrRefCfg_inv, State.wrPlain_inv, apply_ite (State.Inv fz pq),
    apply_ite Prod.fst, ite_self, hI]

theorem State.wrSafe_inv (s : State) (addr : Nat) (v : Word) (hI : s.Inv fz pq) :
    (State.wrSafe s addr v).1.Inv fz pq := by
  unfold State.wrSafe
  simp +contextual (maxDischargeDepth := 60) only [State.contactJudge_inv, State.wrDegCtrl_inv, State.wrFlt_inv,
    State.wrSoutStat_inv, State.wrPlain_inv, apply_ite (State.Inv fz pq), apply_ite Prod.fst, ite_self, hI]

theorem State.wrLink_inv (s : State) (addr : Nat) (v : Word) (hI : s.Inv fz pq) :
    (State.wrLink s addr v).1.Inv fz pq := by
  unfold State.wrLink
  simp +contextual (maxDischargeDepth := 60) only [State.wrLinkCtrl_inv, State.wrLinkStat_inv, State.wrPlain_inv,
    apply_ite (State.Inv fz pq), apply_ite Prod.fst, ite_self, hI]

theorem State.wrMbx_inv (s : State) (addr : Nat) (v : Word) (hI : s.Inv fz pq) :
    (State.wrMbx s addr v).1.Inv fz pq := by
  unfold State.wrMbx
  simp +contextual (maxDischargeDepth := 60) only [State.wrMbxAck_inv, State.wrPlain_inv,
    apply_ite (State.Inv fz pq), apply_ite Prod.fst, ite_self, hI]

theorem State.wrBgnd_inv (s : State) (addr : Nat) (v : Word) (hI : s.Inv fz pq) :
    (State.wrBgnd s addr v).1.Inv fz pq := by
  unfold State.wrBgnd
  simp +contextual (maxDischargeDepth := 60) only [State.updBg_inv, State.wrPlain_inv, apply_ite (State.Inv fz pq),
    ite_self, hI]

theorem State.wrCoreReg_inv (s : State) (blk : Nat) (addr : Nat) (v : Word) (hI : s.Inv fz pq) :
    (State.wrCoreReg s blk addr v).1.Inv fz pq := by
  unfold State.wrCoreReg
  dsimp only
  repeat' split
  all_goals simp +contextual (maxDischargeDepth := 60) only [State.wrCoreCtrl_inv, State.wrEphLoad_inv,
    State.wrPlain_inv, hI]

theorem State.wrBank_inv (s : State) (addr : Nat) (v : Word) (hI : s.Inv fz pq) :
    (State.wrBank s addr v).1.Inv fz pq := by
  unfold State.wrBank
  simp +contextual (maxDischargeDepth := 60) only [State.wrRingCfg_inv, State.wrPlain_inv,
    apply_ite (State.Inv fz pq), apply_ite Prod.fst, ite_self, hI]

theorem State.wrStrip_inv (s : State) (addr : Nat) (v : Word) (hI : s.Inv fz pq) :
    (State.wrStrip s addr v).1.Inv fz pq := by
  unfold State.wrStrip
  simp +contextual (maxDischargeDepth := 60) only [State.wrRxStat_inv, State.wrPlain_inv,
    apply_ite (State.Inv fz pq), apply_ite Prod.fst, ite_self, hI]

/-- A choice of two answers keeps the invariant where each does. -/
theorem wres_inv_ite {c : Prop} [Decidable c] {x y : WRes} (hx : x.1.Inv fz pq) (hy : y.1.Inv fz pq) :
    (if c then x else y).1.Inv fz pq := by
  by_cases h : c
  · rwa [if_pos h]
  · rwa [if_neg h]

theorem State.effectWrite_inv (s : State) (a : Accessor) (blk : Nat) (addr : Nat) (v : Word) (hI : s.Inv fz pq) :
    (State.effectWrite s a blk addr v).1.Inv fz pq := by
  unfold State.effectWrite
  repeat' with_reducible refine wres_inv_ite ?_ ?_
  exacts [s.wrDev_inv _ _ _ hI, s.wrTime_inv _ _ hI, s.wrFire_inv _ _ hI, s.wrMon_inv _ _ hI, s.wrMirr_inv _ _ hI,
    s.wrAfe_inv _ _ hI, s.wrSafe_inv _ _ hI, s.wrLink_inv _ _ hI, s.wrMbx_inv _ _ hI, s.semWrite_inv _ _ _ hI,
    s.wrBgnd_inv _ _ hI, s.wrCoreReg_inv _ _ _ hI, s.wrCoreReg_inv _ _ _ hI, s.wrBank_inv _ _ hI,
    s.wrStrip_inv _ _ hI, s.wrPlain_inv _ _ hI]

theorem State.noteRwl_inv (s : State) (hI : s.Inv fz pq) :
    (State.noteRwl s).Inv fz pq := by
  unfold State.noteRwl
  simp +contextual (maxDischargeDepth := 60) only [inv_fold, inv_mk, apply_ite (State.Inv fz pq), ite_self,
    implies_true, hI]

theorem State.noted_inv (s : State) (addr : Nat) (v : Word) (hI : s.Inv fz pq) :
    (State.noted s addr v).Inv fz pq := by
  unfold State.noted
  simp +contextual (maxDischargeDepth := 60) only [State.noteRwl_inv, apply_ite (State.Inv fz pq), ite_self,
    implies_true, hI]

theorem State.regWrite_inv (s : State) (a : Accessor) (addr : Nat) (v : Word) (hI : s.Inv fz pq) :
    (State.regWrite s a addr v).1.Inv fz pq := by
  unfold State.regWrite
  try simp +contextual (maxDischargeDepth := 60) only [apply_ite (State.Inv fz pq), ite_self, implies_true, hI]
  all_goals repeat' split
  all_goals simp +contextual (maxDischargeDepth := 60) only [State.effectWrite_inv, State.noted_inv, apply_ite
    (State.Inv fz pq), ite_self, implies_true, hI]

theorem State.access_inv (s : State) (a : Accessor) (addr : Nat) (v : Word) (hI : s.Inv fz pq) :
    (State.access s a addr v).Inv fz pq := by
  unfold State.access
  simp +contextual (maxDischargeDepth := 60) only [State.answer_inv, State.regWrite_inv, hI]

theorem State.accessRead_inv (s : State) (a : Accessor) (addr : Nat) (hI : s.Inv fz pq) :
    (s.accessRead a addr).Inv fz pq := by
  unfold State.accessRead
  split
  · exact State.answer_inv s addr _ hI
  · rename_i h
    exact State.answerRead_inv _ _ _ (State.regRead_inv s a addr hI h)

end Sys2Proof.Machine
end

