-- ==== Sys2Proof/Laws/InvArith.lean ====
section
/-!
SUPPORT. Every operation of Machine/Arith.lean keeps the invariant of Laws/Inv.lean.
-/
namespace Sys2Proof.Machine

variable {fz : Fuses} {pq : List Instr}

theorem execNop_inv (c : Fin 12) (w : BitVec 40) (s : State) (hI : s.Inv fz pq) :
    OutInv fz pq (execNop c w s) := by
  unfold execNop
  simp +contextual (maxDischargeDepth := 60) only [outInv_next, State.issueCore_inv, hI]

theorem execHalt_inv (c : Fin 12) (w : BitVec 40) (s : State) (hI : s.Inv fz pq) :
    OutInv fz pq (execHalt c w s) := by
  unfold execHalt
  simp +contextual (maxDischargeDepth := 60) only [outInv_next, State.setCoreState_inv, State.noReticle_inv,
    State.issue_inv, apply_ite (State.Inv fz pq), exInv_ok, exInv_error, id_eq, apply_ite (ExInv fz pq), ite_self,
    implies_true, hI]

theorem execTrap_inv (c : Fin 12) (w : BitVec 40) (s : State) (hI : s.Inv fz pq) :
    OutInv fz pq (execTrap c w s) := by
  unfold execTrap
  simp +contextual (maxDischargeDepth := 60) only [outInv_next, State.issue_inv, exInv_error, id_eq, implies_true, hI]

theorem execLdi_inv (c : Fin 12) (w : BitVec 40) (s : State) (hI : s.Inv fz pq) :
    OutInv fz pq (execLdi c w s) := by
  unfold execLdi
  simp +contextual (maxDischargeDepth := 60) only [outInv_next, State.issueCore_inv, hI]

theorem execLdh_inv (c : Fin 12) (w : BitVec 40) (s : State) (hI : s.Inv fz pq) :
    OutInv fz pq (execLdh c w s) := by
  unfold execLdh
  simp +contextual (maxDischargeDepth := 60) only [outInv_next, State.issueCore_inv, hI]

theorem execMov_inv (c : Fin 12) (w : BitVec 40) (s : State) (hI : s.Inv fz pq) :
    OutInv fz pq (execMov c w s) := by
  unfold execMov
  simp +contextual (maxDischargeDepth := 60) only [outInv_next, State.issueCore_inv, hI]

theorem execAdd_inv (c : Fin 12) (w : BitVec 40) (s : State) (hI : s.Inv fz pq) :
    OutInv fz pq (execAdd c w s) := by
  unfold execAdd
  simp +contextual (maxDischargeDepth := 60) only [outInv_next, State.issueCore_inv, hI]

theorem execAddi_inv (c : Fin 12) (w : BitVec 40) (s : State) (hI : s.Inv fz pq) :
    OutInv fz pq (execAddi c w s) := by
  unfold execAddi
  simp +contextual (maxDischargeDepth := 60) only [outInv_next, State.issueCore_inv, hI]

theorem execSub_inv (c : Fin 12) (w : BitVec 40) (s : State) (hI : s.Inv fz pq) :
    OutInv fz pq (execSub c w s) := by
  unfold execSub
  simp +contextual (maxDischargeDepth := 60) only [outInv_next, State.issueCore_inv, hI]

theorem execSubi_inv (c : Fin 12) (w : BitVec 40) (s : State) (hI : s.Inv fz pq) :
    OutInv fz pq (execSubi c w s) := by
  unfold execSubi
  simp +contextual (maxDischargeDepth := 60) only [outInv_next, State.issueCore_inv, hI]

theorem execMul_inv (c : Fin 12) (w : BitVec 40) (s : State) (hI : s.Inv fz pq) :
    OutInv fz pq (execMul c w s) := by
  unfold execMul
  simp +contextual (maxDischargeDepth := 60) only [outInv_next, State.issueCore_inv, hI]

theorem execCmp_inv (c : Fin 12) (w : BitVec 40) (s : State) (hI : s.Inv fz pq) :
    OutInv fz pq (execCmp c w s) := by
  unfold execCmp
  simp +contextual (maxDischargeDepth := 60) only [outInv_next, State.issueCore_inv, hI]

theorem execCmpi_inv (c : Fin 12) (w : BitVec 40) (s : State) (hI : s.Inv fz pq) :
    OutInv fz pq (execCmpi c w s) := by
  unfold execCmpi
  simp +contextual (maxDischargeDepth := 60) only [outInv_next, State.issueCore_inv, hI]

theorem execIand_inv (c : Fin 12) (w : BitVec 40) (s : State) (hI : s.Inv fz pq) :
    OutInv fz pq (execIand c w s) := by
  unfold execIand
  simp +contextual (maxDischargeDepth := 60) only [outInv_next, State.issueCore_inv, hI]

theorem execIor_inv (c : Fin 12) (w : BitVec 40) (s : State) (hI : s.Inv fz pq) :
    OutInv fz pq (execIor c w s) := by
  unfold execIor
  simp +contextual (maxDischargeDepth := 60) only [outInv_next, State.issueCore_inv, hI]

theorem execIxor_inv (c : Fin 12) (w : BitVec 40) (s : State) (hI : s.Inv fz pq) :
    OutInv fz pq (execIxor c w s) := by
  unfold execIxor
  simp +contextual (maxDischargeDepth := 60) only [outInv_next, State.issueCore_inv, hI]

theorem execInot_inv (c : Fin 12) (w : BitVec 40) (s : State) (hI : s.Inv fz pq) :
    OutInv fz pq (execInot c w s) := by
  unfold execInot
  simp +contextual (maxDischargeDepth := 60) only [outInv_next, State.issueCore_inv, hI]

theorem execShl_inv (c : Fin 12) (w : BitVec 40) (s : State) (hI : s.Inv fz pq) :
    OutInv fz pq (execShl c w s) := by
  unfold execShl
  simp +contextual (maxDischargeDepth := 60) only [outInv_next, State.issueCore_inv, hI]

theorem execShr_inv (c : Fin 12) (w : BitVec 40) (s : State) (hI : s.Inv fz pq) :
    OutInv fz pq (execShr c w s) := by
  unfold execShr
  simp +contextual (maxDischargeDepth := 60) only [outInv_next, State.issueCore_inv, hI]

theorem execSar_inv (c : Fin 12) (w : BitVec 40) (s : State) (hI : s.Inv fz pq) :
    OutInv fz pq (execSar c w s) := by
  unfold execSar
  simp +contextual (maxDischargeDepth := 60) only [outInv_next, State.issueCore_inv, hI]

end Sys2Proof.Machine
end

