-- ==== Sys2Proof/Laws/InvBackground.lean ====
section
/-!
SUPPORT. Every operation of Machine/Background.lean keeps the invariant of Laws/Inv.lean.
-/
namespace Sys2Proof.Machine

variable {fz : Fuses} {pq : List Instr}

theorem State.scrubCtx_inv (s : State) (n : Nat) (hI : s.Inv fz pq) :
    (State.scrubCtx s n).Inv fz pq := by
  unfold State.scrubCtx
  simp +contextual (maxDischargeDepth := 60) only [State.cnt_inv, State.checkTile_inv, apply_ite (State.Inv fz pq),
    ite_self, hI]

theorem State.scrubRing_inv (s : State) (b : Nat) (m : Nat) (hI : s.Inv fz pq) :
    (State.scrubRing s b m).Inv fz pq := by
  unfold State.scrubRing
  simp +contextual (maxDischargeDepth := 60) only [inv_fold, inv_mk, State.setRing_inv, State.ringFree_inv,
    State.ringDiscarded_inv, apply_ite (State.Inv fz pq), inv_foldl, ite_self, implies_true, hI]

theorem State.scrubShared_inv (s : State) (m : Nat) (hI : s.Inv fz pq) :
    (State.scrubShared s m).Inv fz pq := by
  unfold State.scrubShared
  simp +contextual (maxDischargeDepth := 60) only [State.setFld_inv, State.setBit_inv, State.cnt_inv,
    State.updBg_inv, State.scrubRing_inv, apply_ite (State.Inv fz pq), inv_forEach, ite_self, implies_true, hI]

theorem State.scrubStrips_inv (s : State) (j : Nat) (hI : s.Inv fz pq) :
    (State.scrubStrips s j).Inv fz pq := by
  unfold State.scrubStrips
  simp +contextual (maxDischargeDepth := 60) only [State.updBg_inv, State.scrubCtx_inv, apply_ite (State.Inv fz pq),
    inv_forEach, ite_self, implies_true, hI]

theorem execScrubTileCheck_inv (s : State) (hI : s.Inv fz pq) :
    OutInv fz pq (execScrubTileCheck s) := by
  unfold execScrubTileCheck
  simp +contextual (maxDischargeDepth := 60) only [outInv_next, whenLive, onlyIf, State.cnt_inv, State.updBg_inv,
    State.scrubShared_inv, State.scrubStrips_inv, apply_ite (State.Inv fz pq), ite_self, hI]

theorem execScrubRetry_inv (s : State) (hI : s.Inv fz pq) :
    OutInv fz pq (execScrubRetry s) := by
  unfold execScrubRetry
  try simp +contextual (maxDischargeDepth := 60) only [outInv_next, whenLive, onlyIf, apply_ite (State.Inv fz pq), hI]
  all_goals repeat' split
  all_goals simp +contextual (maxDischargeDepth := 60) only [State.cnt_inv, State.updBg_inv, State.scrubCtx_inv, hI]

theorem State.toEven_inv (s : State) (a : Int) (n : Int) (hI : s.Inv fz pq) :
    (State.toEven s a n).2.Inv fz pq := by
  unfold State.toEven
  simp +contextual (maxDischargeDepth := 60) only [State.takeFree_inv, apply_ite (State.Inv fz pq),
    apply_ite Prod.snd, ite_self, hI]

theorem State.noteVbd_inv (s : State) (d : Nat) (vbd : Nat) (hI : s.Inv fz pq) :
    (State.noteVbd s d vbd).Inv fz pq := by
  unfold State.noteVbd
  simp +contextual (maxDischargeDepth := 60) only [State.setFld_inv, State.updBg_inv, State.toEven_inv, hI]

theorem State.trackVa_inv (s : State) (d : Nat) (vspad : Nat) (hI : s.Inv fz pq) :
    (State.trackVa s d vspad).Inv fz pq := by
  unfold State.trackVa
  simp +contextual (maxDischargeDepth := 60) only [State.setFld_inv, State.takeFree_inv, State.setStrip_inv,
    State.setBiasErr_inv, State.toEven_inv, apply_ite (State.Inv fz pq), ite_self, hI]

theorem execBreakdownMeasurement_inv (d : Fin 24) (vbd : BitVec 16) (vspad : BitVec 16) (s : State) (hI : s.Inv fz pq) :
    OutInv fz pq (execBreakdownMeasurement d vbd vspad s) := by
  unfold execBreakdownMeasurement
  simp +contextual (maxDischargeDepth := 60) only [outInv_next, whenLive, onlyIf, State.setStrip_inv,
    State.noteVbd_inv, State.trackVa_inv, apply_ite (State.Inv fz pq), ite_self, hI]

theorem State.hotFound_inv (s : State) (d : Nat) (n : Nat) (hI : s.Inv fz pq) :
    (State.hotFound s d n).Inv fz pq := by
  unfold State.hotFound
  simp +contextual (maxDischargeDepth := 60) only [State.cnt_inv, State.updBg_inv, apply_ite (State.Inv fz pq),
    ite_self, hI]

theorem State.hotJudge_inv (s : State) (d : Nat) (g : Nat) (sums : List Nat) (k : Nat) (hI : s.Inv fz pq) :
    (State.hotJudge s d g sums k).Inv fz pq := by
  unfold State.hotJudge
  simp +contextual (maxDischargeDepth := 60) only [State.updBg_inv, State.hotFound_inv, apply_ite (State.Inv fz pq),
    ite_self, hI]

theorem State.hotGroupEnd_inv (s : State) (d : Nat) (sums : List Nat) (hI : s.Inv fz pq) :
    (State.hotGroupEnd s d sums).Inv fz pq := by
  unfold State.hotGroupEnd
  simp +contextual (maxDischargeDepth := 60) only [State.cnt_inv, State.updBg_inv, State.hotJudge_inv,
    apply_ite (State.Inv fz pq), inv_forEach, ite_self, implies_true, hI]

theorem execHotSpadTestWindow_inv (d : Fin 24) (counts : List Nat) (s : State) (hI : s.Inv fz pq) :
    OutInv fz pq (execHotSpadTestWindow d counts s) := by
  unfold execHotSpadTestWindow
  simp +contextual (maxDischargeDepth := 60) only [outInv_next, whenLive, onlyIf, inv_fold, inv_mk, State.updBg_inv,
    State.hotGroupEnd_inv, apply_ite (State.Inv fz pq), ite_self, implies_true, hI]

theorem State.ageApply_inv (s : State) (w : Nat) (dir : Nat) (hI : s.Inv fz pq) :
    (State.ageApply s w dir).Inv fz pq := by
  unfold State.ageApply
  simp +contextual (maxDischargeDepth := 60) only [inv_fold, inv_mk, State.cnt_inv, State.updBg_inv,
    State.stage_inv, State.makeCommit_inv, State.semRelease_inv, State.semClaim_inv, apply_ite (State.Inv fz pq),
    ite_self, implies_true, hI]

theorem State.ageJudge_inv (s : State) (e : Nat) (hI : s.Inv fz pq) :
    (State.ageJudge s e).Inv fz pq := by
  unfold State.ageJudge
  simp +contextual (maxDischargeDepth := 60) only [State.ageApply_inv, apply_ite (State.Inv fz pq), ite_self, hI]

theorem State.ageMean_inv (s : State) (hI : s.Inv fz pq) :
    (State.ageMean s).2.Inv fz pq := by
  unfold State.ageMean
  simp +contextual (maxDischargeDepth := 60) only [State.takeFree_inv, apply_ite (State.Inv fz pq),
    apply_ite Prod.snd, ite_self, hI]

theorem execAgeingIntervalEnd_inv (s : State) (hI : s.Inv fz pq) :
    OutInv fz pq (execAgeingIntervalEnd s) := by
  unfold execAgeingIntervalEnd
  simp +contextual (maxDischargeDepth := 60) only [inv_fold, inv_mk, outInv_next, whenLive, onlyIf, State.setFld_inv,
    State.setBit_inv, State.updBg_inv, State.ageJudge_inv, State.ageMean_inv, apply_ite (State.Inv fz pq),
    apply_ite Prod.fst, apply_ite Prod.snd, ite_self, hI]

theorem execAlmanacRecord_inv (s : State) (hI : s.Inv fz pq) :
    OutInv fz pq (execAlmanacRecord s) := by
  unfold execAlmanacRecord
  try simp +contextual (maxDischargeDepth := 60) only [outInv_next, whenLive, onlyIf, apply_ite (State.Inv fz pq), hI]
  all_goals repeat' split
  all_goals simp +contextual (maxDischargeDepth := 60) only [State.cnt_inv, State.updBg_inv, State.sendEvent_inv, hI]

end Sys2Proof.Machine
end

