-- ==== Sys2Proof/Laws/InvControl.lean ====
section
/-!
SUPPORT. Every operation of Machine/Control.lean keeps the invariant of Laws/Inv.lean.
-/
namespace Sys2Proof.Machine

variable {fz : Fuses} {pq : List Instr}

theorem execLd_inv (c : Fin 12) (w : BitVec 40) (s : State) (hI : s.Inv fz pq) :
    OutInv fz pq (execLd c w s) := by
  unfold execLd
  simp +contextual (maxDischargeDepth := 60) only [outInv_next, State.updCore_inv, State.issue_inv,
    apply_ite (ExInv fz pq), exInv_ok, exInv_error, id_eq, ite_self, implies_true, hI]

theorem execSt_inv (c : Fin 12) (w : BitVec 40) (s : State) (hI : s.Inv fz pq) :
    OutInv fz pq (execSt c w s) := by
  unfold execSt
  simp +contextual (maxDischargeDepth := 60) only [outInv_next, State.updCore_inv, State.issue_inv,
    apply_ite (ExInv fz pq), exInv_ok, exInv_error, id_eq, ite_self, implies_true, hI]

theorem execLdt_inv (c : Fin 12) (w : BitVec 40) (s : State) (hI : s.Inv fz pq) :
    OutInv fz pq (execLdt c w s) := by
  unfold execLdt
  simp +contextual (maxDischargeDepth := 60) only [outInv_next, State.updCore_inv, State.issue_inv,
    apply_ite (ExInv fz pq), exInv_ok, exInv_error, id_eq, ite_self, implies_true, hI]

theorem execStt_inv (c : Fin 12) (w : BitVec 40) (s : State) (hI : s.Inv fz pq) :
    OutInv fz pq (execStt c w s) := by
  unfold execStt
  simp +contextual (maxDischargeDepth := 60) only [outInv_next, State.wrTile_inv, State.issue_inv,
    apply_ite (ExInv fz pq), exInv_ok, exInv_error, id_eq, ite_self, implies_true, hI]

theorem State.jump_inv (s : State) (c : Nat) (w : BitVec 40) (f : Core → Core) (hI : s.Inv fz pq) :
    ExInv fz pq (State.jump s c w f) := by
  unfold State.jump
  simp +contextual (maxDischargeDepth := 60) only [State.updCore_inv, apply_ite (ExInv fz pq), exInv_ok, exInv_error,
    ite_self, hI]

theorem execBr_inv (c : Fin 12) (w : BitVec 40) (s : State) (hI : s.Inv fz pq) :
    OutInv fz pq (execBr c w s) := by
  unfold execBr
  simp +contextual (maxDischargeDepth := 60) only [outInv_next, State.issue_inv, State.jump_inv,
    apply_ite (ExInv fz pq), exInv_ok, id_eq, ite_self, implies_true, hI]

theorem execCall_inv (c : Fin 12) (w : BitVec 40) (s : State) (hI : s.Inv fz pq) :
    OutInv fz pq (execCall c w s) := by
  unfold execCall
  simp +contextual (maxDischargeDepth := 60) only [outInv_next, State.issue_inv, State.jump_inv,
    apply_ite (ExInv fz pq), exInv_error, id_eq, ite_self, implies_true, hI]

theorem execRet_inv (c : Fin 12) (w : BitVec 40) (s : State) (hI : s.Inv fz pq) :
    OutInv fz pq (execRet c w s) := by
  unfold execRet
  try simp only [outInv_next]
  repeat' first
    | split
    | with_reducible refine State.issue_inv _ _ _ _ _ _ _ _ (fun _ _ => ?_) (fun _ _ => ?_) ?_
    | with_reducible refine inv_forEach (fun _ _ _ => ?_) _ ?_
    | with_reducible refine inv_foldl (fun _ _ _ => ?_) _ ?_ | dsimp only
  all_goals first | with_reducible assumption | simp +contextual (maxDischargeDepth := 60) only [State.setBit_inv,
    State.updCore_inv, exInv_ok, exInv_error, id_eq, *]

theorem execLoop_inv (c : Fin 12) (w : BitVec 40) (s : State) (hI : s.Inv fz pq) :
    OutInv fz pq (execLoop c w s) := by
  unfold execLoop
  simp +contextual (maxDischargeDepth := 60) only [outInv_next, State.updCore_inv, State.issue_inv, State.jump_inv,
    apply_ite (ExInv fz pq), exInv_ok, id_eq, ite_self, implies_true, hI]

end Sys2Proof.Machine
end

