-- ==== Sys2Proof/Laws/InvVector.lean ====
section
/-!
SUPPORT. Every operation of Machine/Vector.lean keeps the invariant of Laws/Inv.lean.
-/
namespace Sys2Proof.Machine

variable {fz : Fuses} {pq : List Instr}

theorem execVld_inv (c : Fin 12) (w : BitVec 40) (s : State) (hI : s.Inv fz pq) :
    OutInv fz pq (execVld c w s) := by
  unfold execVld
  simp +contextual (maxDischargeDepth := 60) only [outInv_next, State.updCore_inv, State.issue_inv,
    apply_ite (ExInv fz pq), exInv_ok, exInv_error, id_eq, ite_self, implies_true, hI]

theorem execVst_inv (c : Fin 12) (w : BitVec 40) (s : State) (hI : s.Inv fz pq) :
    OutInv fz pq (execVst c w s) := by
  unfold execVst
  simp +contextual (maxDischargeDepth := 60) only [outInv_next, State.updCore_inv, State.issue_inv,
    apply_ite (ExInv fz pq), exInv_ok, exInv_error, id_eq, ite_self, implies_true, hI]

theorem execVadd_inv (c : Fin 12) (w : BitVec 40) (s : State) (hI : s.Inv fz pq) :
    OutInv fz pq (execVadd c w s) := by
  unfold execVadd
  simp +contextual (maxDischargeDepth := 60) only [outInv_next, State.issueCore_inv, hI]

theorem execVsub_inv (c : Fin 12) (w : BitVec 40) (s : State) (hI : s.Inv fz pq) :
    OutInv fz pq (execVsub c w s) := by
  unfold execVsub
  simp +contextual (maxDischargeDepth := 60) only [outInv_next, State.issueCore_inv, hI]

theorem execVmax_inv (c : Fin 12) (w : BitVec 40) (s : State) (hI : s.Inv fz pq) :
    OutInv fz pq (execVmax c w s) := by
  unfold execVmax
  simp +contextual (maxDischargeDepth := 60) only [outInv_next, State.issueCore_inv, hI]

theorem execVmin_inv (c : Fin 12) (w : BitVec 40) (s : State) (hI : s.Inv fz pq) :
    OutInv fz pq (execVmin c w s) := by
  unfold execVmin
  simp +contextual (maxDischargeDepth := 60) only [outInv_next, State.issueCore_inv, hI]

theorem execVsum_inv (c : Fin 12) (w : BitVec 40) (s : State) (hI : s.Inv fz pq) :
    OutInv fz pq (execVsum c w s) := by
  unfold execVsum
  simp +contextual (maxDischargeDepth := 60) only [outInv_next, State.issueCore_inv, hI]

theorem execVshr_inv (c : Fin 12) (w : BitVec 40) (s : State) (hI : s.Inv fz pq) :
    OutInv fz pq (execVshr c w s) := by
  unfold execVshr
  simp +contextual (maxDischargeDepth := 60) only [outInv_next, State.issueCore_inv, hI]

end Sys2Proof.Machine
end

