-- ==== Sys2Proof/Laws/InvCellOps.lean ====
section
/-!
SUPPORT. Every operation of Machine/CellOps.lean keeps the invariant of Laws/Inv.lean.
-/
namespace Sys2Proof.Machine

variable {fz : Fuses} {pq : List Instr}

theorem State.takeBack_inv (s : State) (c : Nat) (hI : s.Inv fz pq) :
    (State.takeBack s c).Inv fz pq := by
  unfold State.takeBack
  simp +contextual (maxDischargeDepth := 60) only [State.updCore_inv, inv_forEach, implies_true, hI]

theorem State.popCell_inv (s : State) (c : Nat) (rd : Nat) (d : Nat) (e : CqE) (hI : s.Inv fz pq) :
    (State.popCell s c rd d e).Inv fz pq := by
  unfold State.popCell
  simp +contextual (maxDischargeDepth := 60) only [inv_fold, inv_mk, State.cnt_inv, State.setStrip_inv,
    State.checkTile_inv, State.updCore_inv, State.takeBack_inv, apply_ite (State.Inv fz pq), ite_self, implies_true,
    hI]

theorem State.cpopResume_inv (s : State) (c : Nat) (hI : s.Inv fz pq) :
    (State.cpopResume s c).Inv fz pq := by
  unfold State.cpopResume
  try simp +contextual (maxDischargeDepth := 60) only [apply_ite (State.Inv fz pq), ite_self, implies_true, hI]
  all_goals repeat' split
  all_goals simp +contextual (maxDischargeDepth := 60) only [State.coreResume_inv, State.popCell_inv, apply_ite
    (State.Inv fz pq), ite_self, implies_true, hI]

theorem State.cpopBefore_inv (s : State) (c : Nat) (hI : s.Inv fz pq) :
    (State.cpopBefore s c).Inv fz pq := by
  unfold State.cpopBefore
  simp +contextual (maxDischargeDepth := 60) only [State.cpopResume_inv, apply_ite (State.Inv fz pq), inv_forEach,
    ite_self, implies_true, hI]

theorem execCpop_inv (c : Fin 12) (w : BitVec 40) (s : State) (hI : s.Inv fz pq) :
    OutInv fz pq (execCpop c w s) := by
  unfold execCpop
  try simp only [outInv_next, apply_ite (State.Inv fz pq)]
  repeat' first
    | split
    | with_reducible refine State.issue_inv _ _ _ _ _ _ _ _ (fun _ _ => ?_) (fun _ _ => ?_) ?_
    | with_reducible refine inv_forEach (fun _ _ _ => ?_) _ ?_
    | with_reducible refine inv_foldl (fun _ _ _ => ?_) _ ?_ | dsimp only
  all_goals first | with_reducible assumption | simp +contextual (maxDischargeDepth := 60) only [inv_fold, inv_mk,
    State.updCore_inv, State.coreWait_inv, State.issue_inv, State.popCell_inv, State.cpopBefore_inv, apply_ite
    (State.Inv fz pq), exInv_ok, exInv_error, id_eq, apply_ite (ExInv fz pq), ite_self, implies_true, *]

theorem execCpopResume_inv (c : Fin 12) (s : State) (hI : s.Inv fz pq) :
    OutInv fz pq (execCpopResume c s) := by
  unfold execCpopResume
  simp +contextual (maxDischargeDepth := 60) only [outInv_next, whenLive, onlyIf, State.cpopResume_inv,
    State.cpopBefore_inv, apply_ite (State.Inv fz pq), ite_self, implies_true, hI]

theorem execBgnd_inv (c : Fin 12) (w : BitVec 40) (s : State) (hI : s.Inv fz pq) :
    OutInv fz pq (execBgnd c w s) := by
  unfold execBgnd
  simp +contextual (maxDischargeDepth := 60) only [outInv_next, State.issueCore_inv, hI]

theorem execPile_inv (c : Fin 12) (w : BitVec 40) (s : State) (hI : s.Inv fz pq) :
    OutInv fz pq (execPile c w s) := by
  unfold execPile
  simp +contextual (maxDischargeDepth := 60) only [outInv_next, State.issueCore_inv, hI]

theorem execPeak_inv (c : Fin 12) (w : BitVec 40) (s : State) (hI : s.Inv fz pq) :
    OutInv fz pq (execPeak c w s) := by
  unfold execPeak
  simp +contextual (maxDischargeDepth := 60) only [outInv_next, State.issueCore_inv, hI]

theorem execOcc_inv (c : Fin 12) (w : BitVec 40) (s : State) (hI : s.Inv fz pq) :
    OutInv fz pq (execOcc c w s) := by
  unfold execOcc
  simp +contextual (maxDischargeDepth := 60) only [outInv_next, State.issueCore_inv, hI]

theorem execEmit_inv (c : Fin 12) (w : BitVec 40) (s : State) (hI : s.Inv fz pq) :
    OutInv fz pq (execEmit c w s) := by
  unfold execEmit
  simp +contextual (maxDischargeDepth := 60) only [outInv_next, State.issueCore_inv, hI]

theorem State.releaseTile_inv (s : State) (c : Nat) (n : Nat) (hI : s.Inv fz pq) :
    (State.releaseTile s c n).Inv fz pq := by
  unfold State.releaseTile
  simp +contextual (maxDischargeDepth := 60) only [State.wrMem_inv, State.wrWords_inv, State.reCrc_inv,
    State.rereadTile_inv, apply_ite (State.Inv fz pq), ite_self, implies_true, hI]

theorem State.sendGroup_inv (s : State) (c : Nat) (g : OutGrp) (hI : s.Inv fz pq) :
    (State.sendGroup s c g).Inv fz pq := by
  unfold State.sendGroup
  simp +contextual (maxDischargeDepth := 60) only [State.cnt_inv, State.cupdDone_inv, State.updCore_inv,
    State.handOver_inv, apply_ite (State.Inv fz pq), ite_self, hI]

theorem execCupd_inv (c : Fin 12) (w : BitVec 40) (s : State) (hI : s.Inv fz pq) :
    OutInv fz pq (execCupd c w s) := by
  unfold execCupd
  try simp only [outInv_next, apply_ite (State.Inv fz pq)]
  repeat' first
    | split
    | with_reducible refine State.issue_inv _ _ _ _ _ _ _ _ (fun _ _ => ?_) (fun _ _ => ?_) ?_
    | with_reducible refine inv_forEach (fun _ _ _ => ?_) _ ?_
    | with_reducible refine inv_foldl (fun _ _ _ => ?_) _ ?_ | dsimp only
  all_goals first | with_reducible assumption | simp +contextual (maxDischargeDepth := 60) only [inv_fold, inv_mk,
    State.cupdDone_inv, State.sweepFirst_inv, State.updCore_inv, State.issue_inv, State.releaseTile_inv,
    State.sendGroup_inv, apply_ite (State.Inv fz pq), exInv_ok, exInv_error, id_eq, apply_ite (ExInv fz pq),
    ite_self, implies_true, *]

end Sys2Proof.Machine
end

