-- ==== Sys2Proof/Laws/InvCoreAcc.lean ====
section
/-!
SUPPORT. Every operation of Machine/CoreAcc.lean keeps the invariant of Laws/Inv.lean.
-/
namespace Sys2Proof.Machine

variable {fz : Fuses} {pq : List Instr}

theorem State.coreCommit_inv (s : State) (c : Nat) (g : Nat) (hI : s.Inv fz pq) :
    (State.coreCommit s c g).Inv fz pq := by
  unfold State.coreCommit
  simp +contextual (maxDischargeDepth := 60) only [inv_fold, inv_mk, State.makeCommit_inv, apply_ite (State.Inv fz
    pq), ite_self, implies_true, hI]

theorem State.opDone_inv (s : State) (c : Fin 12) (o : CoreOp) (hI : s.Inv fz pq) :
    (State.opDone s c o).Inv fz pq := by
  unfold State.opDone
  try simp +contextual (maxDischargeDepth := 60) only [apply_ite (State.Inv fz pq), ite_self, implies_true, hI]
  all_goals repeat' split
  all_goals simp +contextual (maxDischargeDepth := 60) only [State.effectWrite_inv, State.coreCommit_inv, apply_ite
    (State.Inv fz pq), ite_self, implies_true, hI]

theorem State.drain_inv (s : State) (c : Fin 12) (hI : s.Inv fz pq) :
    (State.drain s c).Inv fz pq := by
  unfold State.drain
  simp +contextual (maxDischargeDepth := 60) only [State.updCore_inv, State.opDone_inv, inv_foldl, implies_true, hI]

theorem execRds_inv (c : Fin 12) (w : BitVec 40) (s : State) (hI : s.Inv fz pq) : OutInv fz pq (execRds c w s) := by
  unfold execRds
  rw [outInv_next]
  refine State.issue_inv _ _ _ _ _ _ _ _ (fun t ht => ?_) (fun _ h => h) hI
  dsimp only
  split
  · rename_i h
    rw [exInv_ok]
    exact State.updCore_inv _ _ _ (State.regRead_inv _ _ _ (State.drain_inv t c ht) h)
  · rw [exInv_ok]
    exact State.updCore_inv _ _ _ (State.drain_inv t c ht)

theorem execWrs_inv (c : Fin 12) (w : BitVec 40) (s : State) (hI : s.Inv fz pq) :
    OutInv fz pq (execWrs c w s) := by
  unfold execWrs
  try simp only [outInv_next, apply_ite (State.Inv fz pq)]
  repeat' first
    | split
    | with_reducible refine State.issue_inv _ _ _ _ _ _ _ _ (fun _ _ => ?_) (fun _ _ => ?_) ?_
    | with_reducible refine inv_forEach (fun _ _ _ => ?_) _ ?_
    | with_reducible refine inv_foldl (fun _ _ _ => ?_) _ ?_ | dsimp only
  all_goals first | with_reducible assumption | simp +contextual (maxDischargeDepth := 60) only [inv_fold, inv_mk,
    State.updCore_inv, State.issue_inv, State.noted_inv, State.regWrite_inv, apply_ite (State.Inv fz pq), exInv_ok,
    exInv_error, id_eq, apply_ite (ExInv fz pq), ite_self, implies_true, *]

theorem execWrsArrival_inv (c : Fin 12) (s : State) (hI : s.Inv fz pq) :
    OutInv fz pq (execWrsArrival c s) := by
  unfold execWrsArrival
  try simp +contextual (maxDischargeDepth := 60) only [outInv_next, whenLive, apply_ite (State.Inv fz pq), hI]
  all_goals repeat' split
  all_goals simp +contextual (maxDischargeDepth := 60) only [State.updCore_inv, State.opDone_inv, hI]

theorem execCmt_inv (c : Fin 12) (w : BitVec 40) (s : State) (hI : s.Inv fz pq) :
    OutInv fz pq (execCmt c w s) := by
  unfold execCmt
  simp +contextual (maxDischargeDepth := 60) only [outInv_next, State.updCore_inv, State.issue_inv,
    State.coreCommit_inv, apply_ite (ExInv fz pq), exInv_ok, id_eq, ite_self, implies_true, hI]

theorem execCmtCommitMade_inv (c : Fin 12) (s : State) (hI : s.Inv fz pq) :
    OutInv fz pq (execCmtCommitMade c s) := by
  unfold execCmtCommitMade
  try simp +contextual (maxDischargeDepth := 60) only [outInv_next, whenLive, apply_ite (State.Inv fz pq), hI]
  all_goals repeat' split
  all_goals simp +contextual (maxDischargeDepth := 60) only [State.updCore_inv, State.coreCommit_inv, hI]

theorem State.setCtrl_inv (s : State) (a : Accessor) (c : Nat) (mask : Nat) (hI : s.Inv fz pq) :
    (State.setCtrl s a c mask).Inv fz pq := by
  unfold State.setCtrl
  simp +contextual (maxDischargeDepth := 60) only [State.access_inv, hI]

theorem execCoreStart_inv (a : Accessor) (c : Fin 12) (s : State) (hI : s.Inv fz pq) :
    OutInv fz pq (execCoreStart a c s) := by
  unfold execCoreStart
  simp +contextual (maxDischargeDepth := 60) only [outInv_next, whenLive, State.setCtrl_inv,
    apply_ite (State.Inv fz pq), ite_self, hI]

theorem execCoreStop_inv (a : Accessor) (c : Fin 12) (s : State) (hI : s.Inv fz pq) :
    OutInv fz pq (execCoreStop a c s) := by
  unfold execCoreStop
  simp +contextual (maxDischargeDepth := 60) only [outInv_next, whenLive, State.setCtrl_inv,
    apply_ite (State.Inv fz pq), ite_self, hI]

theorem execHostev_inv (a : Accessor) (c : Fin 12) (s : State) (hI : s.Inv fz pq) :
    OutInv fz pq (execHostev a c s) := by
  unfold execHostev
  simp +contextual (maxDischargeDepth := 60) only [outInv_next, whenLive, State.setCtrl_inv,
    apply_ite (State.Inv fz pq), ite_self, hI]

theorem execProgLock_inv (a : Accessor) (c : Fin 12) (s : State) (hI : s.Inv fz pq) :
    OutInv fz pq (execProgLock a c s) := by
  unfold execProgLock
  simp +contextual (maxDischargeDepth := 60) only [outInv_next, whenLive, State.setCtrl_inv,
    apply_ite (State.Inv fz pq), ite_self, hI]

theorem execEphLoadGo_inv (a : Accessor) (v : Word) (s : State) (hI : s.Inv fz pq) :
    OutInv fz pq (execEphLoadGo a v s) := by
  unfold execEphLoadGo
  simp +contextual (maxDischargeDepth := 60) only [outInv_next, whenLive, State.access_inv,
    apply_ite (State.Inv fz pq), ite_self, hI]

end Sys2Proof.Machine
end

