-- ==== Sys2Proof/Laws/InvRequests.lean ====
section
/-!
SUPPORT. Every operation of Machine/Requests.lean keeps the invariant of Laws/Inv.lean.
-/
namespace Sys2Proof.Machine

variable {fz : Fuses} {pq : List Instr}

theorem State.respond_inv (s : State) (p : Nat) (f : List Word) (cls : Nat) (body : List Word) (hI : s.Inv fz pq) :
    (State.respond s p f cls body).Inv fz pq := by
  unfold State.respond
  simp +contextual (maxDischargeDepth := 60) only [State.queueAnswer_inv, apply_ite (State.Inv fz pq), ite_self,
    implies_true, hI]

theorem State.respondErr_inv (s : State) (p : Nat) (f : List Word) (e : Err) (idx : Nat) (addr : Nat) (hI : s.Inv fz
    pq) :
    (State.respondErr s p f e idx addr).Inv fz pq := by
  unfold State.respondErr
  simp +contextual (maxDischargeDepth := 60) only [inv_fold, inv_mk, State.queueAnswer_inv, apply_ite (State.Inv fz
    pq), ite_self, implies_true, hI]

theorem State.respondErr0_inv (s : State) (p : Nat) (f : List Word) (e : Err) (hI : s.Inv fz pq) :
    (State.respondErr0 s p f e).Inv fz pq := by
  unfold State.respondErr0
  simp +contextual (maxDischargeDepth := 60) only [State.takeFree_inv, State.respondErr_inv, apply_ite (State.Inv fz
    pq), ite_self, implies_true, hI]

/-- A host's read of a word of memory: the state after, whatever the answer. -/
theorem State.memRead_inv (s : State) (a : Nat) (check : Bool) (hI : s.Inv fz pq) :
    match s.memRead a check with
    | .error r => r.2.Inv fz pq
    | .ok r => r.2.Inv fz pq := by
  have ht := State.checkTile_inv s (tagAt a) hI
  unfold State.memRead
  repeat' split
  all_goals rename_i h
  all_goals repeat' split at h
  all_goals cases h
  all_goals first | exact hI | exact ht

theorem State.memWrite_inv (s : State) (a : Nat) (v : Word) (hI : s.Inv fz pq) :
    (State.memWrite s a v).1.Inv fz pq := by
  unfold State.memWrite
  dsimp only
  repeat' split
  all_goals simp +contextual (maxDischargeDepth := 60) only [inv_fold, inv_mk, State.wrMem_inv, State.reCrc_inv,
    State.setStrip_inv, apply_ite (State.Inv fz pq), ite_self, implies_true, hI]

theorem State.regReads_inv (a : Accessor) (n i addr : Nat) (l : List Word) (s : State) (hI : s.Inv fz pq) :
    (State.regReads a n i addr l s).2.1.Inv fz pq := by
  induction n generalizing i addr l s with
  | zero => exact hI
  | succ n ih =>
    unfold State.regReads
    split
    · exact hI
    · rename_i h
      exact ih _ _ _ _ (State.regRead_inv s a addr hI h)

theorem State.regWrites_inv (a : Accessor) (i addr : Nat) (l : List Word) (s : State) (hI : s.Inv fz pq) :
    (State.regWrites a i addr l s).1.Inv fz pq := by
  induction l generalizing i addr s with
  | nil => exact hI
  | cons v l ih =>
    have hw := State.regWrite_inv s a addr v hI
    unfold State.regWrites
    split
    · exact hw
    · rename_i h
      rw [h] at hw
      split
      · exact ih _ _ _ hw
      · exact hw

theorem State.memReads_inv (n i addr : Nat) (l : List Word) (s : State) (hI : s.Inv fz pq) :
    (State.memReads n i addr l s).2.1.Inv fz pq := by
  induction n generalizing i addr l s with
  | zero => exact hI
  | succ n ih =>
    have hr := State.memRead_inv s addr (i == 0 || addr == tileBase (tagAt addr)) hI
    unfold State.memReads
    split
    · rename_i h
      rw [h] at hr
      exact hr
    · rename_i h
      rw [h] at hr
      exact ih _ _ _ _ hr

theorem State.memWrites_inv (i addr : Nat) (l : List Word) (s : State) (hI : s.Inv fz pq) :
    (State.memWrites i addr l s).1.Inv fz pq := by
  induction l generalizing i addr s with
  | nil => exact hI
  | cons v l ih =>
    have hw := State.memWrite_inv s addr v hI
    unfold State.memWrites
    split
    · exact hI
    · rename_i h
      rw [h] at hw
      exact ih _ _ _ hw

theorem State.answerReads_inv (p : Nat) (f : List Word) (cls : Nat) (r : List Word × State × Option (Err × Nat))
    (hI : r.2.1.Inv fz pq) : (State.answerReads p f cls r).Inv fz pq := by
  unfold State.answerReads
  split
  · exact State.respondErr_inv _ _ _ _ _ _ hI
  · exact State.respond_inv _ _ _ _ _ hI

theorem State.answerWrites_inv (p : Nat) (f : List Word) (r : State × Option (Err × Nat)) (hI : r.1.Inv fz pq) :
    (State.answerWrites p f r).Inv fz pq := by
  unfold State.answerWrites
  split
  · exact State.respondErr_inv _ _ _ _ _ _ hI
  · exact State.respond_inv _ _ _ _ _ hI

theorem State.execReq_inv (s : State) (p : Nat) (f : List Word) (hI : s.Inv fz pq) :
    (State.execReq s p f).Inv fz pq := by
  unfold State.execReq
  simp +contextual (maxDischargeDepth := 60) only [State.mbxPlace_inv, State.mbxTake_inv, State.mbxYield_inv,
    State.respond_inv, State.respondErr0_inv, State.regReads_inv, State.regWrites_inv, State.memReads_inv,
    State.memWrites_inv, State.answerReads_inv, State.answerWrites_inv, apply_ite (State.Inv fz pq), ite_self,
    implies_true, hI]

theorem State.forwardDown_inv (s : State) (f : List Word) (hI : s.Inv fz pq) :
    (State.forwardDown s f).Inv fz pq := by
  unfold State.forwardDown
  simp +contextual (maxDischargeDepth := 60) only [inv_fold, inv_mk, State.queueFrame_inv,
    apply_ite (State.Inv fz pq), ite_self, hI]

theorem State.runReq_inv (s : State) (p : Nat) (f : List Word) (hI : s.Inv fz pq) :
    (State.runReq s p f).Inv fz pq := by
  unfold State.runReq
  simp +contextual (maxDischargeDepth := 60) only [State.freed_inv, State.respondErr0_inv, State.execReq_inv,
    State.forwardDown_inv, apply_ite (State.Inv fz pq), ite_self, hI]

theorem State.request_inv (s : State) (p : Nat) (f : List Word) (hI : s.Inv fz pq) :
    (State.request s p f).Inv fz pq := by
  unfold State.request
  simp +contextual (maxDischargeDepth := 60) only [State.updPort_inv, State.rxAccept_inv, State.runReq_inv,
    apply_ite (State.Inv fz pq), ite_self, implies_true, hI]

theorem requestCmd_inv (t : Nat) (p : Fin 3) (f : List Word) (s : State) (hI : s.Inv fz pq) :
    OutInv fz pq (requestCmd t p f s) := by
  unfold requestCmd
  simp +contextual (maxDischargeDepth := 60) only [outInv_next, whenLive, onlyIf, State.request_inv,
    apply_ite (State.Inv fz pq), ite_self, hI]

theorem execRegRd_inv (p : Fin 3) (f : List Word) (s : State) (hI : s.Inv fz pq) :
    OutInv fz pq (execRegRd p f s) := by
  unfold execRegRd
  simp +contextual (maxDischargeDepth := 60) only [requestCmd_inv, hI]

theorem execRegWr_inv (p : Fin 3) (f : List Word) (s : State) (hI : s.Inv fz pq) :
    OutInv fz pq (execRegWr p f s) := by
  unfold execRegWr
  simp +contextual (maxDischargeDepth := 60) only [requestCmd_inv, hI]

theorem execMemRd_inv (p : Fin 3) (f : List Word) (s : State) (hI : s.Inv fz pq) :
    OutInv fz pq (execMemRd p f s) := by
  unfold execMemRd
  simp +contextual (maxDischargeDepth := 60) only [requestCmd_inv, hI]

theorem execMemWr_inv (p : Fin 3) (f : List Word) (s : State) (hI : s.Inv fz pq) :
    OutInv fz pq (execMemWr p f s) := by
  unfold execMemWr
  simp +contextual (maxDischargeDepth := 60) only [requestCmd_inv, hI]

theorem execMbxSend_inv (p : Fin 3) (f : List Word) (s : State) (hI : s.Inv fz pq) :
    OutInv fz pq (execMbxSend p f s) := by
  unfold execMbxSend
  simp +contextual (maxDischargeDepth := 60) only [outInv_next, requestCmd_inv, apply_ite (OutInv fz pq), ite_self,
    hI]

theorem execMbxRecv_inv (p : Fin 3) (f : List Word) (s : State) (hI : s.Inv fz pq) :
    OutInv fz pq (execMbxRecv p f s) := by
  unfold execMbxRecv
  simp +contextual (maxDischargeDepth := 60) only [outInv_next, requestCmd_inv, apply_ite (OutInv fz pq), ite_self,
    hI]

theorem execSemQuery_inv (p : Fin 3) (f : List Word) (s : State) (hI : s.Inv fz pq) :
    OutInv fz pq (execSemQuery p f s) := by
  unfold execSemQuery
  simp +contextual (maxDischargeDepth := 60) only [requestCmd_inv, hI]

theorem execDownstreamForward_inv (p : Fin 3) (f : List Word) (s : State) (hI : s.Inv fz pq) :
    OutInv fz pq (execDownstreamForward p f s) := by
  unfold execDownstreamForward
  simp +contextual (maxDischargeDepth := 60) only [outInv_next, whenLive, onlyIf, State.request_inv,
    apply_ite (State.Inv fz pq), ite_self, hI]

theorem execFrameDiscarded_inv (p : Fin 3) (why : BadFrame) (s : State) (hI : s.Inv fz pq) :
    OutInv fz pq (execFrameDiscarded p why s) := by
  unfold execFrameDiscarded
  cases why <;> simp +contextual (maxDischargeDepth := 60) only [outInv_next, whenLive, onlyIf, State.cnt_inv,
    State.rxAccept_inv, State.countBad_inv, State.nak_inv, State.malformed_inv, State.request_inv, apply_ite (State.Inv fz pq),
    id_eq, ite_self, implies_true, hI]

theorem State.runWaiting_inv (s : State) (p : Nat) (hI : s.Inv fz pq) :
    (State.runWaiting s p).Inv fz pq := by
  unfold State.runWaiting
  simp +contextual (maxDischargeDepth := 60) only [State.updPort_inv, State.runReq_inv, apply_ite (State.Inv fz pq),
    inv_foldl, ite_self, implies_true, hI]

theorem execSharedStoreCleared_inv (s : State) (hI : s.Inv fz pq) :
    OutInv fz pq (execSharedStoreCleared s) := by
  unfold execSharedStoreCleared
  simp +contextual (maxDischargeDepth := 60) only [inv_fold, inv_mk, outInv_next, whenLive, onlyIf, State.setBit_inv,
    State.runWaiting_inv, apply_ite (State.Inv fz pq), inv_forEach, ite_self, implies_true, hI]

end Sys2Proof.Machine
end

