-- ==== Sys2Proof/Laws/InvScan.lean ====
section
/-!
SUPPORT. Every operation of Machine/Scan.lean keeps the invariant of Laws/Inv.lean.
-/
namespace Sys2Proof.Machine

variable {fz : Fuses} {pq : List Instr}

theorem State.present1_inv (s : State) (c : Nat) (d : Nat) (e : ColEv) (rest : List ColEv) (hI : s.Inv fz pq) :
    (State.present1 s c d e rest).Inv fz pq := by
  unfold State.present1
  simp +contextual (maxDischargeDepth := 60) only [State.updCore_inv, hI]

theorem State.dropStale_inv (s : State) (c : Nat) (hI : s.Inv fz pq) :
    (State.dropStale s c).Inv fz pq := by
  unfold State.dropStale
  simp +contextual (maxDischargeDepth := 60) only [State.cnt_inv, State.updCore_inv, hI]

theorem execWaita_inv (c : Fin 12) (w : BitVec 40) (s : State) (hI : s.Inv fz pq) :
    OutInv fz pq (execWaita c w s) := by
  unfold execWaita
  try simp only [outInv_next]
  repeat' first
    | split
    | with_reducible refine State.issue_inv _ _ _ _ _ _ _ _ (fun _ _ => ?_) (fun _ _ => ?_) ?_
    | with_reducible refine inv_forEach (fun _ _ _ => ?_) _ ?_
    | with_reducible refine inv_foldl (fun _ _ _ => ?_) _ ?_ | dsimp only
  all_goals first | with_reducible assumption | simp +contextual (maxDischargeDepth := 60) only [State.updCore_inv,
    State.coreWait_inv, State.present1_inv, State.dropStale_inv, exInv_ok, id_eq, *]

theorem execWaitaResume_inv (c : Fin 12) (s : State) (hI : s.Inv fz pq) :
    OutInv fz pq (execWaitaResume c s) := by
  unfold execWaitaResume
  try simp +contextual (maxDischargeDepth := 60) only [outInv_next, whenLive, apply_ite (State.Inv fz pq), hI]
  all_goals repeat' split
  all_goals simp +contextual (maxDischargeDepth := 60) only [State.coreResume_inv, State.present1_inv, hI]

theorem execSkipq_inv (c : Fin 12) (w : BitVec 40) (s : State) (hI : s.Inv fz pq) :
    OutInv fz pq (execSkipq c w s) := by
  unfold execSkipq
  simp +contextual (maxDischargeDepth := 60) only [outInv_next, inv_fold, inv_mk, State.cnt_inv, State.updCore_inv,
    State.issue_inv, apply_ite (State.Inv fz pq), exInv_ok, exInv_error, id_eq, apply_ite (ExInv fz pq), ite_self,
    implies_true, hI]

theorem execWin_inv (c : Fin 12) (w : BitVec 40) (s : State) (hI : s.Inv fz pq) :
    OutInv fz pq (execWin c w s) := by
  unfold execWin
  try simp only [outInv_next]
  repeat' first
    | split
    | with_reducible refine State.issue_inv _ _ _ _ _ _ _ _ (fun _ _ => ?_) (fun _ _ => ?_) ?_
    | with_reducible refine inv_forEach (fun _ _ _ => ?_) _ ?_
    | with_reducible refine inv_foldl (fun _ _ _ => ?_) _ ?_ | dsimp only
  all_goals first | with_reducible assumption | simp +contextual (maxDischargeDepth := 60) only [State.updCore_inv,
    exInv_ok, exInv_error, id_eq, *]

theorem State.visitJoin_inv (s : State) (ds : List Nat) (col : Nat) (t : Inst) (hI : s.Inv fz pq) :
    (State.visitJoin s ds col t).Inv fz pq := by
  unfold State.visitJoin
  try simp only [apply_ite (State.Inv fz pq)]
  repeat' first
    | split
    | with_reducible refine inv_forEach (fun _ _ _ => ?_) _ ?_
    | with_reducible refine inv_foldl (fun _ _ _ => ?_) _ ?_ | dsimp only
  all_goals first | with_reducible assumption | simp +contextual (maxDischargeDepth := 60) only [inv_fold, inv_mk,
    State.setStrip_inv, apply_ite (State.Inv fz pq), inv_forEach, ite_self, implies_true, *]

theorem execVisit_inv (c : Fin 12) (w : BitVec 40) (s : State) (hI : s.Inv fz pq) :
    OutInv fz pq (execVisit c w s) := by
  unfold execVisit
  try simp only [outInv_next, apply_ite (State.Inv fz pq)]
  repeat' first
    | split
    | with_reducible refine State.issue_inv _ _ _ _ _ _ _ _ (fun _ _ => ?_) (fun _ _ => ?_) ?_
    | with_reducible refine inv_forEach (fun _ _ _ => ?_) _ ?_
    | with_reducible refine inv_foldl (fun _ _ _ => ?_) _ ?_ | dsimp only
  all_goals first | with_reducible assumption | simp +contextual (maxDischargeDepth := 60) only [inv_fold, inv_mk,
    State.cnt_inv, State.openVisit_inv, State.updCore_inv, State.issue_inv, State.visitJoin_inv, apply_ite
    (State.Inv fz pq), inv_forEach, exInv_ok, exInv_error, id_eq, apply_ite (ExInv fz pq), ite_self, implies_true,
    *]

theorem execFire_inv (c : Fin 12) (w : BitVec 40) (s : State) (hI : s.Inv fz pq) :
    OutInv fz pq (execFire c w s) := by
  unfold execFire
  try simp only [outInv_next]
  repeat' first
    | split
    | with_reducible refine State.issue_inv _ _ _ _ _ _ _ _ (fun _ _ => ?_) (fun _ _ => ?_) ?_
    | with_reducible refine inv_forEach (fun _ _ _ => ?_) _ ?_
    | with_reducible refine inv_foldl (fun _ _ _ => ?_) _ ?_ | dsimp only
  all_goals first | with_reducible assumption | simp +contextual (maxDischargeDepth := 60) only [State.updCore_inv,
    exInv_ok, exInv_error, id_eq, *]

theorem State.bookEnd_inv (s : State) (c : Nat) (cf : Bool) (vf : Bool) (booked : Bool) (hI : s.Inv fz pq) :
    (State.bookEnd s c cf vf booked).Inv fz pq := by
  unfold State.bookEnd
  simp +contextual (maxDischargeDepth := 60) only [State.updCore_inv, hI]

theorem State.bookRefuse_inv (s : State) (c : Nat) (flight : Bool) (hI : s.Inv fz pq) :
    (State.bookRefuse s c flight).Inv fz pq := by
  unfold State.bookRefuse
  simp +contextual (maxDischargeDepth := 60) only [State.cnt_inv, State.bookEnd_inv, hI]

theorem State.bookAccept_inv (s : State) (c : Nat) (e : ColEv) (o : Int) (m : Nat) (win : Nat) (hI : s.Inv fz pq) :
    (State.bookAccept s c e o m win).Inv fz pq := by
  unfold State.bookAccept
  simp +contextual (maxDischargeDepth := 60) only [inv_fold, inv_mk, State.cnt_inv, State.joinVisit_inv,
    State.bookEnd_inv, hI]

theorem State.judgeBooking_inv (s : State) (c : Nat) (e : ColEv) (o : Int) (m : Nat) (win : Nat) (hI : s.Inv fz pq) :
    (State.judgeBooking s c e o m win).Inv fz pq := by
  unfold State.judgeBooking
  simp +contextual (maxDischargeDepth := 60) only [State.bookRefuse_inv, State.bookAccept_inv,
    apply_ite (State.Inv fz pq), ite_self, hI]

theorem execBookingArrival_inv (c : Fin 12) (s : State) (hI : s.Inv fz pq) :
    OutInv fz pq (execBookingArrival c s) := by
  unfold execBookingArrival
  try simp +contextual (maxDischargeDepth := 60) only [outInv_next, whenLive, apply_ite (State.Inv fz pq), ite_self,
    implies_true, hI]
  all_goals repeat' split
  all_goals simp +contextual (maxDischargeDepth := 60) only [outInv_next, whenLive, State.sweepFirst_inv,
    State.stopDue_inv, State.judgeBooking_inv, apply_ite (State.Inv fz pq), ite_self, implies_true, hI]

theorem execClose_inv (c : Fin 12) (w : BitVec 40) (s : State) (hI : s.Inv fz pq) :
    OutInv fz pq (execClose c w s) := by
  unfold execClose
  simp +contextual (maxDischargeDepth := 60) only [outInv_next, inv_fold, inv_mk, State.updCore_inv,
    State.issue_inv, apply_ite (State.Inv fz pq), exInv_ok, exInv_error, id_eq, apply_ite (ExInv fz pq), ite_self,
    implies_true, hI]

theorem execVpos_inv (c : Fin 12) (w : BitVec 40) (s : State) (hI : s.Inv fz pq) :
    OutInv fz pq (execVpos c w s) := by
  unfold execVpos
  simp +contextual (maxDischargeDepth := 60) only [inv_fold, inv_mk, outInv_next, State.cnt_inv, State.updCore_inv,
    State.issue_inv, apply_ite (State.Inv fz pq), exInv_ok, id_eq, ite_self, implies_true, hI]

theorem execSynca_inv (c : Fin 12) (w : BitVec 40) (s : State) (hI : s.Inv fz pq) :
    OutInv fz pq (execSynca c w s) := by
  unfold execSynca
  simp +contextual (maxDischargeDepth := 60) only [outInv_next, State.coreWait_inv, State.issue_inv,
    apply_ite (ExInv fz pq), exInv_ok, exInv_error, id_eq, ite_self, implies_true, hI]

theorem State.syncFree_inv (s : State) (missing : Bool) (i : Nat) (hI : s.Inv fz pq) :
    (State.syncFree s missing i).Inv fz pq := by
  unfold State.syncFree
  simp +contextual (maxDischargeDepth := 60) only [State.cnt_inv, State.updCore_inv, State.coreResume_inv,
    apply_ite (State.Inv fz pq), ite_self, hI]

theorem execSyncaRelease_inv (c : Fin 12) (s : State) (hI : s.Inv fz pq) :
    OutInv fz pq (execSyncaRelease c s) := by
  unfold execSyncaRelease
  try simp +contextual (maxDischargeDepth := 60) only [outInv_next, whenLive, onlyIf, apply_ite (State.Inv fz pq), hI]
  all_goals repeat' split
  all_goals simp +contextual (maxDischargeDepth := 60) only [State.syncFree_inv, inv_forEach, implies_true, hI]

end Sys2Proof.Machine
end

