-- ==== Sys2Proof/Laws/InvTap.lean ====
section
/-!
SUPPORT. Every operation of Machine/Tap.lean keeps the invariant of Laws/Inv.lean.
-/
namespace Sys2Proof.Machine

variable {fz : Fuses} {pq : List Instr}

theorem State.captureCells_inv (s : State) (hI : s.Inv fz pq) :
    (State.captureCells s).2.Inv fz pq := by
  unfold State.captureCells
  simp +contextual (maxDischargeDepth := 60) only [State.takeFree_inv, hI]

theorem State.tapLoad_inv (s : State) (ir : Nat) (dr : Nat) (ext : Bool) (hI : s.Inv fz pq) :
    (State.tapLoad s ir dr ext).Inv fz pq := by
  unfold State.tapLoad
  simp +contextual (maxDischargeDepth := 60) only [inv_fold, inv_mk, apply_ite (State.Inv fz pq), ite_self,
    implies_true, hI]

theorem execExtest_inv (s : State) (hI : s.Inv fz pq) :
    OutInv fz pq (execExtest s) := by
  unfold execExtest
  simp +contextual (maxDischargeDepth := 60) only [outInv_next, State.captureCells_inv, State.tapLoad_inv,
    apply_ite (State.Inv fz pq), ite_self, hI]

theorem execSamplePreload_inv (v : BitVec 68) (s : State) (hI : s.Inv fz pq) :
    OutInv fz pq (execSamplePreload v s) := by
  unfold execSamplePreload
  simp +contextual (maxDischargeDepth := 60) only [inv_fold, inv_mk, outInv_next, State.captureCells_inv,
    State.tapLoad_inv, hI]

theorem execBypass_inv (s : State) (hI : s.Inv fz pq) :
    OutInv fz pq (execBypass s) := by
  unfold execBypass
  simp +contextual (maxDischargeDepth := 60) only [outInv_next, State.tapLoad_inv, hI]

theorem execIdcode_inv (s : State) (hI : s.Inv fz pq) :
    OutInv fz pq (execIdcode s) := by
  unfold execIdcode
  simp +contextual (maxDischargeDepth := 60) only [outInv_next, State.tapLoad_inv, hI]

theorem execFrzStat_inv (s : State) (hI : s.Inv fz pq) :
    OutInv fz pq (execFrzStat s) := by
  unfold execFrzStat
  simp +contextual (maxDischargeDepth := 60) only [outInv_next, State.tapLoad_inv, hI]

theorem State.tapRead_inv (s : State) (a : Nat) (hI : s.Inv fz pq) :
    (State.tapRead s a).2.Inv fz pq := by
  unfold State.tapRead
  try simp +contextual (maxDischargeDepth := 60) only [apply_ite (State.Inv fz pq), ite_self, implies_true, hI]
  all_goals repeat' split
  all_goals simp +contextual (maxDischargeDepth := 60) only [State.takeFree_inv, apply_ite (State.Inv fz pq),
    ite_self, implies_true, hI]

theorem execFrzMem_inv (addr : BitVec 26) (s : State) (hI : s.Inv fz pq) : OutInv fz pq (execFrzMem addr s) := by
  have ht := State.tapRead_inv s addr.toNat hI
  unfold execFrzMem
  rw [outInv_next]
  refine inv_ite _ ?_ (State.tapLoad_inv _ _ _ _ hI)
  split
  · rename_i h
    rw [h] at ht
    exact State.tapLoad_inv _ _ _ _ ht
  · rename_i h
    rw [h] at ht
    exact State.tapLoad_inv _ _ _ _ (State.takeFree_inv _ .unstated ht)

theorem execFrzChain_inv (s : State) (hI : s.Inv fz pq) :
    OutInv fz pq (execFrzChain s) := by
  unfold execFrzChain
  simp +contextual (maxDischargeDepth := 60) only [outInv_next, State.takeFree_inv, State.tapLoad_inv,
    apply_ite (State.Inv fz pq), ite_self, hI]

theorem execFrzResume_inv (s : State) (hI : s.Inv fz pq) :
    OutInv fz pq (execFrzResume s) := by
  unfold execFrzResume
  simp +contextual (maxDischargeDepth := 60) only [outInv_next, State.setBit_inv, State.portsBringUp_inv,
    State.enterMode_inv, State.thawSupplies_inv, State.showFreeze_inv, State.tapLoad_inv,
    apply_ite (State.Inv fz pq), ite_self, hI]

theorem execFrzReset_inv (s : State) (hI : s.Inv fz pq) :
    OutInv fz pq (execFrzReset s) := by
  unfold execFrzReset
  simp +contextual (maxDischargeDepth := 60) only [outInv_next, State.startReset_inv, State.tapLoad_inv, hI]

end Sys2Proof.Machine
end

