-- ==== Sys2Proof/Laws/InvWaits.lean ====
section
/-!
SUPPORT. Every operation of Machine/Waits.lean keeps the invariant of Laws/Inv.lean.
-/
namespace Sys2Proof.Machine

variable {fz : Fuses} {pq : List Instr}

theorem execWaitt_inv (c : Fin 12) (w : BitVec 40) (s : State) (hI : s.Inv fz pq) :
    OutInv fz pq (execWaitt c w s) := by
  unfold execWaitt
  simp +contextual (maxDischargeDepth := 60) only [outInv_next, State.coreWait_inv, State.issue_inv,
    apply_ite (ExInv fz pq), exInv_ok, exInv_error, id_eq, ite_self, implies_true, hI]

theorem execWaittResume_inv (c : Fin 12) (s : State) (hI : s.Inv fz pq) :
    OutInv fz pq (execWaittResume c s) := by
  unfold execWaittResume
  try simp +contextual (maxDischargeDepth := 60) only [outInv_next, whenLive, onlyIf, apply_ite (State.Inv fz pq), hI]
  all_goals repeat' split
  all_goals simp +contextual (maxDischargeDepth := 60) only [State.coreResume_inv, hI]

theorem State.takeEvents_inv (s : State) (c : Nat) (m : Nat) (d : Nat) (hI : s.Inv fz pq) :
    (State.takeEvents s c m d).Inv fz pq := by
  unfold State.takeEvents
  simp +contextual (maxDischargeDepth := 60) only [State.updCore_inv, hI]

theorem execWaite_inv (c : Fin 12) (w : BitVec 40) (s : State) (hI : s.Inv fz pq) :
    OutInv fz pq (execWaite c w s) := by
  unfold execWaite
  simp +contextual (maxDischargeDepth := 60) only [outInv_next, State.coreWait_inv, State.issue_inv,
    State.takeEvents_inv, apply_ite (ExInv fz pq), exInv_ok, id_eq, ite_self, implies_true, hI]

theorem execWaiteResume_inv (c : Fin 12) (s : State) (hI : s.Inv fz pq) :
    OutInv fz pq (execWaiteResume c s) := by
  unfold execWaiteResume
  try simp +contextual (maxDischargeDepth := 60) only [outInv_next, whenLive, onlyIf, apply_ite (State.Inv fz pq), hI]
  all_goals repeat' split
  all_goals simp +contextual (maxDischargeDepth := 60) only [State.coreResume_inv, State.takeEvents_inv, hI]

theorem execSend_inv (c : Fin 12) (w : BitVec 40) (s : State) (hI : s.Inv fz pq) :
    OutInv fz pq (execSend c w s) := by
  unfold execSend
  simp +contextual (maxDischargeDepth := 60) only [outInv_next, State.cnt_inv, State.mbxPlace_inv,
    State.mbxYield_inv, State.issue_inv, apply_ite (State.Inv fz pq), exInv_ok, exInv_error, id_eq, apply_ite (ExInv
    fz pq), ite_self, implies_true, hI]

theorem execRecv_inv (c : Fin 12) (w : BitVec 40) (s : State) (hI : s.Inv fz pq) :
    OutInv fz pq (execRecv c w s) := by
  unfold execRecv
  simp +contextual (maxDischargeDepth := 60) only [outInv_next, inv_fold, inv_mk, State.mbxTake_inv,
    State.updCore_inv, State.issue_inv, apply_ite (State.Inv fz pq), exInv_ok, exInv_error, id_eq, apply_ite (ExInv
    fz pq), ite_self, implies_true, hI]

theorem execSig_inv (c : Fin 12) (w : BitVec 40) (s : State) (hI : s.Inv fz pq) :
    OutInv fz pq (execSig c w s) := by
  unfold execSig
  simp +contextual (maxDischargeDepth := 60) only [outInv_next, State.coreEvent_inv, State.issue_inv, exInv_ok,
    id_eq, implies_true, hI]

end Sys2Proof.Machine
end

