-- ==== Sys2Proof/Laws/InvWrites.lean ====
section
/-!
SUPPORT. Every operation of Machine/Writes.lean keeps the invariant of Laws/Inv.lean.
-/
namespace Sys2Proof.Machine

variable {fz : Fuses} {pq : List Instr}

theorem writeCmd_inv (a : Accessor) (addr : Nat) (v : Word) (s : State) (hI : s.Inv fz pq) :
    OutInv fz pq (writeCmd a addr v s) := by
  unfold writeCmd
  simp +contextual (maxDischargeDepth := 60) only [outInv_next, whenLive, State.access_inv,
    apply_ite (State.Inv fz pq), ite_self, hI]

theorem readCmd_inv (a : Accessor) (addr : Nat) (s : State) (hI : s.Inv fz pq) :
    OutInv fz pq (readCmd a addr s) := by
  unfold readCmd
  simp +contextual (maxDischargeDepth := 60) only [outInv_next, whenLive, State.accessRead_inv,
    apply_ite (State.Inv fz pq), ite_self, hI]

theorem setCmd_inv (a : Accessor) (addr : Nat) (mask : Nat) (s : State) (hI : s.Inv fz pq) :
    OutInv fz pq (setCmd a addr mask s) := by
  unfold setCmd
  simp +contextual (maxDischargeDepth := 60) only [outInv_next, whenLive, State.access_inv,
    apply_ite (State.Inv fz pq), ite_self, hI]

theorem execRelockT_inv (a : Accessor) (s : State) (hI : s.Inv fz pq) :
    OutInv fz pq (execRelockT a s) := by
  unfold execRelockT
  simp +contextual (maxDischargeDepth := 60) only [setCmd_inv, hI]

theorem execRelockL_inv (a : Accessor) (s : State) (hI : s.Inv fz pq) :
    OutInv fz pq (execRelockL a s) := by
  unfold execRelockL
  simp +contextual (maxDischargeDepth := 60) only [setCmd_inv, hI]

theorem execSscEnable_inv (a : Accessor) (v : Word) (s : State) (hI : s.Inv fz pq) :
    OutInv fz pq (execSscEnable a v s) := by
  unfold execSscEnable
  simp +contextual (maxDischargeDepth := 60) only [writeCmd_inv, hI]

theorem execSscDisable_inv (a : Accessor) (v : Word) (s : State) (hI : s.Inv fz pq) :
    OutInv fz pq (execSscDisable a v s) := by
  unfold execSscDisable
  simp +contextual (maxDischargeDepth := 60) only [writeCmd_inv, hI]

theorem execFmuStart_inv (a : Accessor) (v : Word) (s : State) (hI : s.Inv fz pq) :
    OutInv fz pq (execFmuStart a v s) := by
  unfold execFmuStart
  simp +contextual (maxDischargeDepth := 60) only [writeCmd_inv, hI]

theorem execBankEnWrite_inv (a : Accessor) (v : Word) (s : State) (hI : s.Inv fz pq) :
    OutInv fz pq (execBankEnWrite a v s) := by
  unfold execBankEnWrite
  simp +contextual (maxDischargeDepth := 60) only [writeCmd_inv, hI]

theorem execEyeLock_inv (a : Accessor) (v : Word) (s : State) (hI : s.Inv fz pq) :
    OutInv fz pq (execEyeLock a v s) := by
  unfold execEyeLock
  simp +contextual (maxDischargeDepth := 60) only [writeCmd_inv, hI]

theorem execCapArm_inv (a : Accessor) (s : State) (hI : s.Inv fz pq) :
    OutInv fz pq (execCapArm a s) := by
  unfold execCapArm
  simp +contextual (maxDischargeDepth := 60) only [setCmd_inv, hI]

theorem execCapStop_inv (a : Accessor) (s : State) (hI : s.Inv fz pq) :
    OutInv fz pq (execCapStop a s) := by
  unfold execCapStop
  simp +contextual (maxDischargeDepth := 60) only [setCmd_inv, hI]

theorem execCapSwtrig_inv (a : Accessor) (s : State) (hI : s.Inv fz pq) :
    OutInv fz pq (execCapSwtrig a s) := by
  unfold execCapSwtrig
  simp +contextual (maxDischargeDepth := 60) only [setCmd_inv, hI]

theorem execCapUnfreeze_inv (a : Accessor) (s : State) (hI : s.Inv fz pq) :
    OutInv fz pq (execCapUnfreeze a s) := by
  unfold execCapUnfreeze
  simp +contextual (maxDischargeDepth := 60) only [setCmd_inv, hI]

theorem execSwapReq_inv (a : Accessor) (v : Word) (s : State) (hI : s.Inv fz pq) :
    OutInv fz pq (execSwapReq a v s) := by
  unfold execSwapReq
  simp +contextual (maxDischargeDepth := 60) only [writeCmd_inv, hI]

theorem execBrkClear_inv (a : Accessor) (v : Word) (s : State) (hI : s.Inv fz pq) :
    OutInv fz pq (execBrkClear a v s) := by
  unfold execBrkClear
  simp +contextual (maxDischargeDepth := 60) only [writeCmd_inv, hI]

theorem execBrOutRead_inv (a : Accessor) (n : Fin 4) (s : State) (hI : s.Inv fz pq) :
    OutInv fz pq (execBrOutRead a n s) := by
  unfold execBrOutRead
  simp +contextual (maxDischargeDepth := 60) only [readCmd_inv, hI]

theorem execHModel0Read_inv (a : Accessor) (s : State) (hI : s.Inv fz pq) :
    OutInv fz pq (execHModel0Read a s) := by
  unfold execHModel0Read
  simp +contextual (maxDischargeDepth := 60) only [readCmd_inv, hI]

theorem execHkSingle_inv (a : Accessor) (v : Word) (s : State) (hI : s.Inv fz pq) :
    OutInv fz pq (execHkSingle a v s) := by
  unfold execHkSingle
  simp +contextual (maxDischargeDepth := 60) only [writeCmd_inv, hI]

theorem execHkDataRead_inv (a : Accessor) (s : State) (hI : s.Inv fz pq) :
    OutInv fz pq (execHkDataRead a s) := by
  unfold execHkDataRead
  simp +contextual (maxDischargeDepth := 60) only [readCmd_inv, hI]

theorem execRefSrcWrite_inv (a : Accessor) (v : Word) (s : State) (hI : s.Inv fz pq) :
    OutInv fz pq (execRefSrcWrite a v s) := by
  unfold execRefSrcWrite
  simp +contextual (maxDischargeDepth := 60) only [writeCmd_inv, hI]

theorem execTdacCfgWrite_inv (a : Accessor) (v : Word) (s : State) (hI : s.Inv fz pq) :
    OutInv fz pq (execTdacCfgWrite a v s) := by
  unfold execTdacCfgWrite
  simp +contextual (maxDischargeDepth := 60) only [writeCmd_inv, hI]

theorem execStripFlagClear_inv (a : Accessor) (d : Fin 24) (v : Word) (s : State) (hI : s.Inv fz pq) :
    OutInv fz pq (execStripFlagClear a d v s) := by
  unfold execStripFlagClear
  simp +contextual (maxDischargeDepth := 60) only [writeCmd_inv, hI]

theorem execRingCfgWrite_inv (a : Accessor) (b : Fin 4) (v : Word) (s : State) (hI : s.Inv fz pq) :
    OutInv fz pq (execRingCfgWrite a b v s) := by
  unfold execRingCfgWrite
  simp +contextual (maxDischargeDepth := 60) only [writeCmd_inv, hI]

theorem execCommitGo_inv (a : Accessor) (v : Word) (s : State) (hI : s.Inv fz pq) :
    OutInv fz pq (execCommitGo a v s) := by
  unfold execCommitGo
  simp +contextual (maxDischargeDepth := 60) only [writeCmd_inv, hI]

theorem execRequestIdle_inv (a : Accessor) (s : State) (hI : s.Inv fz pq) :
    OutInv fz pq (execRequestIdle a s) := by
  unfold execRequestIdle
  simp +contextual (maxDischargeDepth := 60) only [writeCmd_inv, hI]

theorem execRequestArmed_inv (a : Accessor) (s : State) (hI : s.Inv fz pq) :
    OutInv fz pq (execRequestArmed a s) := by
  unfold execRequestArmed
  simp +contextual (maxDischargeDepth := 60) only [writeCmd_inv, hI]

theorem execRequestScan_inv (a : Accessor) (s : State) (hI : s.Inv fz pq) :
    OutInv fz pq (execRequestScan a s) := by
  unfold execRequestScan
  simp +contextual (maxDischargeDepth := 60) only [writeCmd_inv, hI]

theorem execRequestSafe_inv (a : Accessor) (s : State) (hI : s.Inv fz pq) :
    OutInv fz pq (execRequestSafe a s) := by
  unfold execRequestSafe
  simp +contextual (maxDischargeDepth := 60) only [writeCmd_inv, hI]

theorem execBootGo_inv (a : Accessor) (v : Word) (s : State) (hI : s.Inv fz pq) :
    OutInv fz pq (execBootGo a v s) := by
  unfold execBootGo
  simp +contextual (maxDischargeDepth := 60) only [writeCmd_inv, hI]

theorem execSoftReset_inv (a : Accessor) (v : Word) (s : State) (hI : s.Inv fz pq) :
    OutInv fz pq (execSoftReset a v s) := by
  unfold execSoftReset
  simp +contextual (maxDischargeDepth := 60) only [writeCmd_inv, hI]

theorem execFreeze_inv (a : Accessor) (s : State) (hI : s.Inv fz pq) :
    OutInv fz pq (execFreeze a s) := by
  unfold execFreeze
  simp +contextual (maxDischargeDepth := 60) only [writeCmd_inv, hI]

theorem execDbgLock_inv (a : Accessor) (v : Word) (s : State) (hI : s.Inv fz pq) :
    OutInv fz pq (execDbgLock a v s) := by
  unfold execDbgLock
  simp +contextual (maxDischargeDepth := 60) only [writeCmd_inv, hI]

theorem execDegAck_inv (a : Accessor) (s : State) (hI : s.Inv fz pq) :
    OutInv fz pq (execDegAck a s) := by
  unfold execDegAck
  simp +contextual (maxDischargeDepth := 60) only [writeCmd_inv, hI]

theorem execFltClear_inv (a : Accessor) (v : Word) (s : State) (hI : s.Inv fz pq) :
    OutInv fz pq (execFltClear a v s) := by
  unfold execFltClear
  simp +contextual (maxDischargeDepth := 60) only [writeCmd_inv, hI]

theorem execSf2Lock_inv (a : Accessor) (v : Word) (s : State) (hI : s.Inv fz pq) :
    OutInv fz pq (execSf2Lock a v s) := by
  unfold execSf2Lock
  simp +contextual (maxDischargeDepth := 60) only [writeCmd_inv, hI]

theorem execRetrain_inv (a : Accessor) (p : Fin 3) (s : State) (hI : s.Inv fz pq) :
    OutInv fz pq (execRetrain a p s) := by
  unfold execRetrain
  simp +contextual (maxDischargeDepth := 60) only [setCmd_inv, hI]

theorem execPortEnableWrite_inv (a : Accessor) (p : Fin 3) (v : Word) (s : State) (hI : s.Inv fz pq) :
    OutInv fz pq (execPortEnableWrite a p v s) := by
  unfold execPortEnableWrite
  simp +contextual (maxDischargeDepth := 60) only [writeCmd_inv, hI]

theorem execPortFaultClear_inv (a : Accessor) (p : Fin 3) (s : State) (hI : s.Inv fz pq) :
    OutInv fz pq (execPortFaultClear a p s) := by
  unfold execPortFaultClear
  simp +contextual (maxDischargeDepth := 60) only [writeCmd_inv, hI]

theorem execSemClaim_inv (a : Accessor) (n : Fin 32) (s : State) (hI : s.Inv fz pq) :
    OutInv fz pq (execSemClaim a n s) := by
  unfold execSemClaim
  simp +contextual (maxDischargeDepth := 60) only [readCmd_inv, hI]

theorem execSemSetg_inv (a : Accessor) (n : Fin 32) (v : Word) (s : State) (hI : s.Inv fz pq) :
    OutInv fz pq (execSemSetg a n v s) := by
  unfold execSemSetg
  simp +contextual (maxDischargeDepth := 60) only [writeCmd_inv, hI]

theorem execSemRel_inv (a : Accessor) (n : Fin 32) (s : State) (hI : s.Inv fz pq) :
    OutInv fz pq (execSemRel a n s) := by
  unfold execSemRel
  simp +contextual (maxDischargeDepth := 60) only [writeCmd_inv, hI]

theorem execMbxAck_inv (a : Accessor) (m : Fin 16) (s : State) (hI : s.Inv fz pq) :
    OutInv fz pq (execMbxAck a m s) := by
  unfold execMbxAck
  simp +contextual (maxDischargeDepth := 60) only [writeCmd_inv, hI]

theorem execMbxAckc_inv (a : Accessor) (m : Fin 16) (s : State) (hI : s.Inv fz pq) :
    OutInv fz pq (execMbxAckc a m s) := by
  unfold execMbxAckc
  simp +contextual (maxDischargeDepth := 60) only [writeCmd_inv, hI]

theorem execAgeCapture_inv (a : Accessor) (s : State) (hI : s.Inv fz pq) :
    OutInv fz pq (execAgeCapture a s) := by
  unfold execAgeCapture
  simp +contextual (maxDischargeDepth := 60) only [setCmd_inv, hI]

theorem execRegisterWrite_inv (a : Accessor) (addr : BitVec 25) (v : Word) (s : State) (hI : s.Inv fz pq) :
    OutInv fz pq (execRegisterWrite a addr v s) := by
  unfold execRegisterWrite
  simp +contextual (maxDischargeDepth := 60) only [writeCmd_inv, hI]

end Sys2Proof.Machine
end

