-- ==== Sys2Proof/Laws/InvMeet.lean ====
section
/-!
SUPPORT. Every operation of Machine/Meet.lean keeps the invariant of Laws/Inv.lean.
-/
namespace Sys2Proof.Machine

variable {fz : Fuses} {pq : List Instr}

theorem execPartJudgement_inv (s : State) (hI : s.Inv fz pq) :
    OutInv fz pq (execPartJudgement s) := by
  unfold execPartJudgement
  try simp +contextual (maxDischargeDepth := 60) only [outInv_next, whenLive, apply_ite (State.Inv fz pq), ite_self,
    implies_true, hI]
  all_goals repeat' split
  all_goals simp +contextual (maxDischargeDepth := 60) only [outInv_next, whenLive, State.judgePart_inv,
    State.judgeWaiting_inv, State.sweepFirst_inv, apply_ite (State.Inv fz pq), ite_self, implies_true, hI]

theorem execDeferredPartRetry_inv (s : State) (hI : s.Inv fz pq) :
    OutInv fz pq (execDeferredPartRetry s) := by
  unfold execDeferredPartRetry
  try simp +contextual (maxDischargeDepth := 60) only [outInv_next, whenLive, apply_ite (State.Inv fz pq), ite_self,
    implies_true, hI]
  all_goals repeat' split
  all_goals simp +contextual (maxDischargeDepth := 60) only [outInv_next, whenLive, State.judgePart_inv,
    State.sweepFirst_inv, apply_ite (State.Inv fz pq), ite_self, implies_true, hI]

theorem execDeferLimitSkip_inv (s : State) (hI : s.Inv fz pq) :
    OutInv fz pq (execDeferLimitSkip s) := by
  unfold execDeferLimitSkip
  try simp +contextual (maxDischargeDepth := 60) only [outInv_next, whenLive, apply_ite (State.Inv fz pq), ite_self,
    implies_true, hI]
  all_goals repeat' split
  all_goals simp +contextual (maxDischargeDepth := 60) only [outInv_next, whenLive, State.judgePart_inv,
    State.sweepFirst_inv, apply_ite (State.Inv fz pq), ite_self, implies_true, hI]

theorem State.tickEnd_inv (s : State) (hI : s.Inv fz pq) :
    (State.tickEnd s).Inv fz pq := by
  unfold State.tickEnd
  simp +contextual (maxDischargeDepth := 60) only [State.enterDets_inv, State.settleTick_inv,
    State.supplySettle_inv, apply_ite (State.Inv fz pq), inv_forEach, ite_self, implies_true, hI]

theorem execSecondRollover_inv (s : State) (hI : s.Inv fz pq) :
    OutInv fz pq (execSecondRollover s) := by
  unfold execSecondRollover
  simp +contextual (maxDischargeDepth := 60) only [outInv_next, whenLive, onlyIf, State.tickOnce_inv,
    State.tickEnd_inv, apply_ite (State.Inv fz pq), ite_self, implies_true, hI]

end Sys2Proof.Machine
end

