-- ==== Sys2Proof/Tests/Slice0.lean ====
section
/-!
SUPPORT. Tests: the well-formedness check refuses an ill-formed command of each kind, worked figures of the spec, and for each
statement a concrete state and operands that meet the hypotheses of each of its clauses.
-/
set_option Elab.async false

namespace Sys2Proof.Tests
open Sys2Proof Sys2Proof.Machine

/-! ## Well-formed commands -/

theorem test_wf_refuses_short_energy : (Instr.pulseEnergyDelivery (List.replicate 67 0)).wf = false := by decide
theorem test_wf_refuses_short_mask_window : (Instr.maskVerdict (List.replicate 63 0)).wf = false := by decide
theorem test_wf_refuses_short_half_period : (Instr.excitationHalfPeriodEnd ⟨[], false⟩ ⟨[], false⟩ ⟨[], false⟩
    ⟨[], false⟩).wf = false := by decide
theorem test_wf_refuses_odd_decimation : (Instr.bridgeOutput 0 [0]).wf = false := by decide
theorem test_wf_refuses_short_lock_run : (Instr.blockLock ⟨0, 0, []⟩).wf = false ∧ (Instr.blockLockLoss ⟨0, 0, [0]⟩).wf = false := by
  decide
theorem test_wf_refuses_empty_run : ([Instr.ackReceived 0 ⟨0, []⟩, .nakReceived 0 ⟨0, []⟩, .frameDiscarded 0 (.block ⟨0, []⟩),
    .frameDiscarded 0 (.crc ⟨0, List.replicate 66 0⟩)]).all (fun c => !c.wf) = true := by decide
theorem test_wf_refuses_long_record : (Instr.captureRecordWritten (List.replicate 4097 0)).wf = false := by decide +kernel
theorem test_wf_refuses_short_calibration : (Instr.calTestComplete 0 0 [] 0).wf = false := by decide
theorem test_wf_refuses_short_hot_window : (Instr.hotSpadTestWindow 0 []).wf = false := by decide
theorem test_wf_refuses_empty_frame : ([Instr.train 0 [], .flow 0 [], .regRd 0 [], .regWr 0 [], .memRd 0 [], .memWr 0 [],
    .mbxSend 0 [], .mbxRecv 0 [], .semQuery 0 [], .chain 2 [], .downstreamForward 0 [], .upstreamFrameForward [],
    .frameDiscarded 0 (.malformed [])]).all (fun c => !c.wf) = true := by decide
theorem test_wf_refuses_long_frame : (Instr.memRd 0 (List.replicate 65 0)).wf = false := by decide
theorem test_wf_accepts_a_frame : (Instr.memRd 0 [0, 0]).wf = true := by decide

/-! ## States of the tests -/

/-- A booted device in a mode, at a raw tick. -/
def at_ (m : Mode) (raw : Nat) : State :=
  { State.reset with raw := raw, dev := { State.reset.dev with mode := m, boot := .done } }

/-- Fields set in turn: field, instance, value. -/
def State.with (s : State) (l : List (Fld × Nat × Nat)) : State := l.foldl (fun s p => s.setFld p.1 p.2.2 p.2.1) s

/-- What most statements suppose of a state, as one truth value. -/
def sound (s : State) : Bool := Memory.wf s.mem && (Tab.sorted s.regs && (Tab.sorted s.force && s.live))

theorem sound_ok {s : State} (h : sound s = true) : s.wf ∧ s.live = true := by
  simp only [sound, Bool.and_eq_true] at h
  exact ⟨⟨h.1, h.2.1, h.2.2.1⟩, h.2.2.2⟩

theorem witness_reset_is_well_kept : State.reset.wf ∧ State.reset.live = true := sound_ok (by decide)

/-! ## The check of a tile, evaluated step by step

The kernel keeps a running CRC as a growing term; `force` has it evaluate each intermediate value. -/

/-- Hand a number on once it is a numeral. -/
def force {α : Type} (n : Nat) (f : Nat → α) : α :=
  match n with
  | 0 => f 0
  | k + 1 => f (k + 1)

theorem force_eq {α : Type} (n : Nat) (f : Nat → α) : force n f = f n := by cases n <;> rfl

def crcBitsF : Nat → Nat → Nat → Nat
  | 0, _, c => c
  | n + 1, v, c => force c (fun c => crcBitsF n v (crcBit c (v.testBit n)))

theorem crcBitsF_eq (n v c : Nat) : crcBitsF n v c = crcBits n v c := by
  induction n generalizing c with
  | zero => rfl
  | succ n ih => rw [crcBitsF, force_eq, ih, crcBits]

def crcWordsF : List Word → Nat → Nat
  | [], c => c
  | w :: t, c => force (crcBitsF 48 w.toNat c) (crcWordsF t)

theorem crcWordsF_eq (ws : List Word) (c : Nat) : crcWordsF ws c = ws.foldl (fun c w => crcBits 48 w.toNat c) c := by
  induction ws generalizing c with
  | nil => rfl
  | cons w t ih => rw [crcWordsF, force_eq, crcBitsF_eq, ih, List.foldl_cons]

def tileWord47F (ws : List Word) (tag : Nat) : Word :=
  BitVec.ofNat 48 (tag * 4294967296 + Nat.xor (crcBitsF 16 tag (crcWordsF ws 0xFFFFFFFF)) 0xFFFFFFFF)

theorem tileWord47F_eq (ws : List Word) (tag : Nat) : tileWord47F ws tag = tileWord47 ws tag := by
  rw [tileWord47F, tileWord47, tileCrc, crcBitsF_eq, crcWordsF_eq]

/-- What an unlisted word of memory reads as. -/
def memResetF (a : Nat) : Word :=
  if a - tileBase (tagAt a) = 47 then tileWord47F ((List.range 47).map (tileReset (tagAt a))) (tagAt a)
  else tileReset (tagAt a) (a - tileBase (tagAt a))

theorem memResetF_eq : memResetF = memReset := by
  funext a
  simp only [memResetF, memReset, tileWord47F_eq]

/-- The check of a tile of a memory. -/
def okF (m : Tab Word) (tag : Nat) : Bool :=
  let ws := (List.range 48).map (fun w => Tab.get memResetF m (tileBase tag + w))
  ws.getD 47 0 == tileWord47F (ws.take 47) tag

theorem okF_eq (s : State) (tag : Nat) : okF s.mem tag = tileOk (s.rdTile tag) tag := by
  simp only [okF, tileOk, State.rdTile, State.rdMem, tileWord47F_eq, memResetF_eq]

theorem tile_passes {s : State} {tag : Nat} (h : okF s.mem tag = true) : tileOk (s.rdTile tag) tag = true := okF_eq s tag ▸ h
theorem tile_fails {s : State} {tag : Nat} (h : okF s.mem tag = false) : tileOk (s.rdTile tag) tag = false := okF_eq s tag ▸ h

theorem test_reset_tiles_pass : okF [] 0 = true ∧ okF [] 65535 = true := by
  decide +kernel

/-! ## Time and clocks -/

def idle : State := at_ .idle 4000
def armed : State := at_ .armed 200000000
def scan : State := at_ .scan 200000000
def locked : State := State.with idle [(F.TIME.PLL_STAT.TPLL_LOCK, 0, 1), (F.TIME.PLL_STAT.SPLL_LOCK, 0, 1), (F.TIME.PLL_STAT.LPLL_LOCK, 0, 1)]

theorem witness_modes_are_well_kept : (idle.wf ∧ idle.live = true) ∧ (armed.wf ∧ armed.live = true) ∧
    (scan.wf ∧ scan.live = true) := ⟨sound_ok (by decide), sound_ok (by decide), sound_ok (by decide)⟩

theorem witness_ReferenceLossAndLossOfLockAreReported : locked.wf ∧ locked.dev.inReset = false ∧
    locked.flag (pllLock .tpll) = true ∧ locked.flag (pllLock .spll) = true ∧ locked.flag (pllLock .lpll) = true :=
  ⟨(sound_ok (by decide)).1, by decide⟩

theorem witness_LockStartsTheTimeWordOnce : idle.wf ∧ idle.dev.inReset = false ∧ idle.flag (pllLock .tpll) = false ∧
    idle.flag (pllLock .spll) = false ∧ idle.clk.timeRun = false := ⟨(sound_ok (by decide)).1, by decide⟩

/-- A booted device with port A up. -/
def portUpA : State := State.with idle [(F.LINK.STAT.STATE, 0, 3)]

theorem witness_RelockIsARegisterWriteOfIdleAndSafe : (portUpA.wf ∧ portUpA.live = true) ∧
    portUpA.judgeWrite .portA 0x1000101 (portUpA.holdWith 0x1000101 2) = none ∧ portUpA.dev.mode = .idle ∧
    2 ≤ portUpA.fld F.LINK.STAT.STATE 0 ∧
    idle.judgeWrite .portA 0x1000101 (idle.holdWith 0x1000101 1) = none ∧ idle.dev.mode = .idle ∧
    armed.judgeWrite .portA 0x1000101 (armed.holdWith 0x1000101 1) = none ∧ armed.dev.mode = .armed ∧
    armed.judgeWrite .portB 0x1000101 (armed.holdWith 0x1000101 2) = none := ⟨sound_ok (by decide), by decide +kernel⟩

def armSync : State := State.with idle [(F.TIME.SYNC_CFG.ARM, 0, 1)]
def divDue : State := { armSync with clk := { armSync.clk with divDue := some armSync.now } }
def divDueUp : State := State.with divDue [(F.LINK.STAT.STATE, 0, 3), (F.LINK.CTRL.EN, 0, 1), (F.LINK.STAT.STATE, 2, 3), (F.LINK.CTRL.EN, 2, 0)]

theorem witness_DividerResetFollowsSyncIn : (armSync.wf ∧ armSync.live = true) ∧ (divDue.wf ∧ divDue.live = true) ∧
    armSync.flag F.TIME.SYNC_CFG.ARM = true ∧ armSync.clk.divDue = none ∧ idle.flag F.TIME.SYNC_CFG.ARM = false ∧
    divDue.clk.divDue = some divDue.now ∧ divDue.now ≤ divDue.now ∧ divDueUp.clk.divDue = some divDueUp.now ∧ 2 ≤ divDueUp.fld F.LINK.STAT.STATE 0 ∧
    divDueUp.flag F.LINK.CTRL.EN 0 = true ∧ 2 ≤ divDueUp.fld F.LINK.STAT.STATE 2 ∧ divDueUp.flag F.LINK.CTRL.EN 2 = false ∧
    divDueUp.wf ∧ divDueUp.live = true :=
  ⟨sound_ok (by decide), sound_ok (by decide), by decide, by decide, by decide, by decide, by decide, by decide, by decide, by decide,
    by decide, by decide, sound_ok (by decide)⟩

/-- The shortest period of one segment. -/
def table1 : State := State.with idle [(F.TIME.SSC_SEG.LEN, 0, 1516), (F.TIME.SSC_SEG.END_PPM, 0, 0)]
def spreading : State := State.with table1 [(F.TIME.SSC_CFG.NSEG, 0, 1), (F.TIME.SSC_STAT.ACTIVE, 0, 1)]
def spreadEnd : State := { spreading with clk := { spreading.clk with sscEnding := true } }
def spread2 : State := State.with spreading [(F.TIME.SSC_CFG.NSEG, 0, 2)]

theorem witness_SpreadProfileRunsItsTable : (table1.wf ∧ table1.live = true) ∧ (spreading.wf ∧ spreading.live = true) ∧
    table1.judgeWrite .portA 0x1000104 0x11 = none ∧ table1.flag F.TIME.SSC_STAT.ACTIVE = false ∧
    table1.sscTableOk (bits 0x11 8 4) = true ∧ idle.sscTableOk (bits 0x11 8 4) = false ∧
    spreading.judgeWrite .portA 0x1000104 0x10 = none ∧ spreading.flag F.TIME.SSC_STAT.ACTIVE = true ∧
    bits 0x10 8 4 = spreading.fld F.TIME.SSC_CFG.NSEG ∧ spreading.clk.sscDue ≤ spreading.now ∧
    spreading.sscLast = true ∧ spread2.sscLast = false ∧ spreadEnd.clk.sscEnding = true ∧
    (idle.judgeWrite .portA 0x1000104 0x11 = none ∧ table1.judgeWrite .portA 0x1000104 0x10 = none) ∧
    (spreading.judgeWrite .portA 0x1000104 0x11 = none ∧ spreading.sscTableOk (bits 0x11 8 4) = true) ∧
    (spread2.judgeWrite .portA 0x1000104 0x11 = none ∧ spread2.sscTableOk (bits 0x11 8 4) = true ∧
      bits 0x11 8 4 ≠ spread2.fld F.TIME.SSC_CFG.NSEG ∧ spread2.flag F.TIME.SSC_STAT.ACTIVE = true) :=
  ⟨sound_ok (by decide +kernel), sound_ok (by decide +kernel), by decide +kernel⟩

/-- One tick before a second ends, with a Time commit pending that the tick before made. -/
def lastTick : State := { at_ .idle 1249999999 with clk := { ({} : Clk) with timeRun := true } }

theorem witness_TimeWordAdvancesAndIsReadWithItsEpoch : lastTick.live = true ∧ lastTick.lastTick = true ∧
    lastTick.tickEnd.lastTick = true ∧ lastTick.tickEnd.ripe .time = false ∧ idle.lastTick = false ∧ idle.calm ∧
    Tab.sorted lastTick.latch = true :=
  ⟨by decide, by decide, by decide +kernel, by decide +kernel, by decide, ⟨by decide, by decide, fun d _ => rfl⟩, by decide⟩

def pps (e : Inst) : State := { idle with clk := { idle.clk with ppsPend := some e, timeRun := true } }
/-- PPS present, its last edge 1.1 s ago, and an edge 20 µs too late pending. -/
def ppsOld : State :=
  let s := State.with (at_ .idle 1376000000) [(F.TIME.PPS_STAT.PRESENT, 0, 1)]
  { s with clk := { s.clk with ppsPend := some 21000000001, ppsLast := some 0, slewLeft := 1, slewNext := s.now } }

theorem witness_PpsEdgesAreQualifiedAndSlewed : ((pps 0).wf ∧ (pps 0).live = true) ∧ (ppsOld.wf ∧ ppsOld.live = true) ∧
    idle.clk.ppsPend = none ∧ (pps 62000).clk.ppsPend = some 62000 ∧ (62000 : Int) + 2000 ≤ (pps 62000).now ∧
    (pps 62000).ppsOk 62000 = true ∧ (pps 62000).ripe .time = false ∧ (pps 62000).act F.TIME.PPS_CFG.MODE = 0 ∧
    ppsOld.clk.ppsPend = some 21000000001 ∧ (21000000001 : Int) + 2000 ≤ ppsOld.now ∧ ppsOld.ppsOk 21000000001 = false ∧
    ppsOld.clk.slewLeft ≠ 0 ∧ ppsOld.clk.slewNext ≤ ppsOld.now ∧ ppsOld.lastTick = false ∧
    ppsOld.flag F.TIME.PPS_STAT.PRESENT = true ∧ ppsOld.clk.ppsLast = some 0 ∧ (0 : Int) + 22000000000 ≤ ppsOld.now :=
  ⟨sound_ok (by decide), sound_ok (by decide), by decide +kernel⟩

def gate : State :=
  let s := State.with (at_ .idle 1375000000) [(F.TIME.FMU_STAT.BUSY, 0, 1)]
  { s with clk := { s.clk with fmuGate := some 16, fmuLast := 0 } }

theorem witness_FrequencyGateMeasures : (gate.wf ∧ gate.live = true) ∧
    idle.judgeWrite .portA 0x1000130 0x11 = none ∧ idle.flag F.TIME.FMU_STAT.BUSY = false ∧
    fmuAllowed (bits 0x11 3 2) (bits 0x11 5 4) = true ∧ fmuAllowed (bits 0x01 3 2) (bits 0x01 5 4) = false ∧
    gate.judgeWrite .portA 0x1000130 0x11 = none ∧ gate.flag F.TIME.FMU_STAT.BUSY = true ∧ gate.clk.fmuGate = some 16 ∧
    { gate with clk := { gate.clk with fmuGate := none } }.clk.fmuGate = none ∧
    gate.clk.fmuLast + 22000000000 ≤ gate.now := ⟨sound_ok (by decide), by decide +kernel⟩

/-! ## Firing -/

def waking : State :=
  { armed with fire := { armed.fire with wake := [(1, 3200000000)], trim := [(2, 3118100000)], pulses := [(3, (0, 320))] } }
/-- Bank 0 enabled and awake. -/
def banked : State := State.with armed [(F.FIRE.CTRL.BANK_EN, 0, 1), (F.FIRE.STAT.AWAKE, 0, 1)]

theorem witness_BanksCalibrateWakeAndSleep : (waking.wf ∧ waking.live = true) ∧ waking.dev.mode = .armed ∧
    Tab.find? waking.fire.trim 2 = some 3118100000 ∧ (3118100000 : Inst) + 81900000 ≤ waking.now ∧
    Tab.find? waking.fire.wake 1 = some waking.now ∧ waking.now ≤ waking.now ∧
    waking.judgeWrite .portA 0x1000200 0xF = none ∧ (banked.judgeWrite .portA 0x1000200 2 = none ∧
      (banked.fld F.FIRE.CTRL.BANK_EN).testBit 0 = true ∧ bits 2 3 0 = 2 ∧ banked.awake 1 = false ∧
      banked.dev.mode = .armed ∧ banked.fire.cap = false ∧ Tab.find? banked.fire.wake 1 = none) := ⟨sound_ok (by decide), by decide +kernel⟩

/-- A booked part of bank 0, its frame not yet sent. -/
def part0 : Part := { pid := 7, bank := 0, col := 5, tfire := 3200000000, mask := 1, fmask := 1, lcnt := 100 }
def lane : State := { armed with fire := { armed.fire with parts := [part0] } }
def laneBusy : State := { waking with fire := { waking.fire with lane := some (7, 3200000000) } }

theorem witness_SegmaskLaneSendsFramesInTurn : (lane.live = true ∧ laneBusy.live = true) ∧
    lane.fire.parts.filter (fun q => q.fired.isNone && q.frameEnd.isNone) = [part0] ∧ lane.fire.lane = none ∧
    lane.dueOpt (latestStart [part0]) = true ∧ lane.edgeOut 0 7 = true ∧
    laneBusy.fire.lane = some (7, laneBusy.now) ∧ Tab.find? laneBusy.fire.pulses 3 = some (0, 320) ∧ (320 : Inst) ≤ laneBusy.now := by
  decide +kernel

/-- A part whose frame is old enough, in a bank that may fire. -/
def part1 : Part := { part0 with frameEnd := some 3199998400 }
def firing : State :=
  let s := State.with scan ((F.FIRE.CTRL.BANK_EN, 0, 1) :: (List.range 6).flatMap (fun d =>
    [(F.STRIP.RX_STAT.POWERED, d, 1), (F.STRIP.RX_STAT.BIAS_OK, d, 1), (F.STRIP.RX_STAT.CAL_VALID, d, 1)]))
  { s with fire := { s.fire with lsrEn := true, budget := 1000000000, budgetAt := s.now, parts := [part1] } }
def dark : State := { firing with fire := { firing.fire with lsrEn := false } }
/-- Its frame is too young, and no part may wait. -/
def early : State :=
  (State.with { firing with fire := { firing.fire with parts := [part0] } } [(F.FIRE.GOV_CFG.DEFER_MAX, 0, 0)]).copyGroup .firing
/-- A part may wait 10 ticks. -/
def deferring : State := (State.with early [(F.FIRE.GOV_CFG.DEFER_MAX, 0, 10)]).copyGroup .firing
/-- Bank 0 not enabled; the power cap in force without bank 0; four parts in flight; no charge left. -/
def notReady : State := State.with firing [(F.FIRE.CTRL.BANK_EN, 0, 0)]
def capped : State :=
  (State.with { firing with fire := { firing.fire with cap := true } } [(F.FIRE.GOV_HOLD.ACT_H, 0, 2)]).copyGroup .firing
def inFlight4 : State := { firing with fire := { firing.fire with parts := part1 :: List.replicate 4 { part1 with pid := 9, fired := some 3199990000 } } }
def drained : State := (State.with { firing with fire := { firing.fire with budget := 0 } } [(F.FIRE.GOV_CFG.COST, 0, 1)]).copyGroup .firing
def again : Part := { part1 with tfire := 3199959984, judged := true, jtick := 199999999, cost := some 1 }
def retry : State := { firing with fire := { firing.fire with parts := [again] } }

theorem witness_PartsAreSkippedDeferredOrFired : (firing.wf ∧ firing.live = true) ∧ part1.bank < 4 ∧
    part1.col < 1024 ∧ (firing.sweepDue = false ∧ firing.retryPart = none) ∧
    (dark.sweepFirst.judgeWaiting.newPart = some part1 ∧ dark.sweepFirst.judgeWaiting.judge part1 (dark.partCost part1) = 1) ∧
    (firing.sweepFirst.judgeWaiting.newPart = some part1 ∧
      firing.sweepFirst.judgeWaiting.judge part1 (firing.partCost part1) = 7 ∧
      firing.sweepFirst.judgeWaiting.overDefer part1 0 = false ∧ firing.sweepFirst.judgeWaiting.headWaits part1 = false) ∧
    (early.sweepFirst.judgeWaiting.newPart = some part0 ∧ early.sweepFirst.judgeWaiting.judge part0 (early.partCost part0) = 4 ∧
      early.sweepFirst.judgeWaiting.overDefer part0 1 = true) ∧
    (deferring.sweepFirst.judgeWaiting.newPart = some part0 ∧
      deferring.sweepFirst.judgeWaiting.judge part0 (deferring.partCost part0) = 4 ∧
      deferring.sweepFirst.judgeWaiting.overDefer part0 1 = false) ∧
    (notReady.sweepFirst.judgeWaiting.newPart = some part1 ∧
      notReady.sweepFirst.judgeWaiting.judge part1 (notReady.partCost part1) = 2) ∧
    (capped.sweepFirst.judgeWaiting.newPart = some part1 ∧ capped.sweepFirst.judgeWaiting.judge part1 (capped.partCost part1) = 3) ∧
    (inFlight4.sweepFirst.judgeWaiting.newPart = some part1 ∧
      inFlight4.sweepFirst.judgeWaiting.judge part1 (inFlight4.partCost part1) = 5) ∧
    (drained.sweepFirst.judgeWaiting.newPart = some part1 ∧ drained.sweepFirst.judgeWaiting.judge part1 (drained.partCost part1) = 6) ∧
    retry.sweepFirst.retryPart = some again ∧ retry.sweepFirst.limitPart = some again ∧ idle.sweepFirst.limitPart = none :=
  ⟨sound_ok (by decide +kernel), by decide +kernel⟩

def eyeLocked1 : State := State.with idle [(F.FIRE.EYE_CFG.LOCK, 0, 1)]
/-- A bucket over the 5 µs limit and over the 100 ms one. -/
def eyeHot : State := { armed with fire := { armed.fire with bucket := [(0, 2 ^ 60)] } }

theorem witness_EyeSafetyBucketsAndLock : (eyeHot.fire.bucketEnd ≤ eyeHot.now ∧
      ∃ t, exec .eyeBucketAdvance eyeHot = .next t ∧ (t.viol5 0 || t.viol100 0) = true) ∧ (eyeLocked1.wf ∧ eyeLocked1.live = true) ∧
    armed.fire.bucketEnd ≤ armed.now ∧ idle.judgeWrite .portA 0x1000220 (0 ||| 0x10000) = none ∧
    eyeLocked1.flag F.FIRE.EYE_CFG.LOCK = true ∧ eyeLocked 0x100025F = true ∧
    eyeLocked1.rwlWrite 0x100025F 0xFFFFFFFFFFFF = true :=
  ⟨⟨by decide, _, rfl, by decide +kernel⟩, sound_ok (by decide), by decide +kernel⟩

/-! ## Pulse monitor -/

def group0 : Group := { tf := 3200000000, pids := [7], banks := [0], tmin := 0, tout := 0, nom := 0 }
def groups : State := { firing with mon := { firing.mon with groups := [group0] } }
def holdOff : State := { scan with mon := { scan.mon with armed := false, edge := 3200000000 } }
def heldOff : State := { scan with mon := { scan.mon with armed := false } }

theorem witness_StartsAreServedForcedOrStray : (groups.wf ∧ groups.live = true) ∧ groups.mon.armed = true ∧
    groups.mon.groups.find? (fun g => decide (g.tf + g.tmin ≤ groups.now + 0 ∧ groups.now + 0 ≤ g.tf + g.tout)) = some group0 ∧
    scan.mon.groups.find? (fun g => decide (g.tf + g.tmin ≤ scan.now + 15 ∧ scan.now + 15 ≤ g.tf + g.tout)) = none ∧
    (holdOff.mon.armed = false ∧ holdOff.hoEnded holdOff.now = false) ∧ (heldOff.mon.armed = false ∧ heldOff.hoEnded heldOff.now = true) ∧
    groups.mon.groups.find? (fun g => decide (tickOf (g.tf + g.tout) ≤ groups.raw)) = some group0 ∧
    (∀ b ∈ group0.banks, b < 4) ∧ group0.banks.Nodup := ⟨sound_ok (by decide +kernel), by decide +kernel⟩

def pulse0 : Pulse := { te := 3199990000, banks := [0], segs := [0, 1], due := 3200000000 }
def pulses : State := { scan with mon := { scan.mon with energy := [pulse0], masks := [pulse0], load := some 0 } }
/-- A violation in the tick of an UNFREEZE, with the unit frozen, and with it armed while condition 1 is off. -/
def unfrozenNow : State := { pulses with mon := { pulses.mon with unfrzAt := some pulses.raw } }
def frozenCap : State := State.with pulses [(F.MON.CAP_STAT.FROZEN, 0, 1)]
def armedOff : State := State.with pulses [(F.MON.CAP_STAT.ARMED, 0, 1)]
def badTable : State := { pulses with mem := [(ssBase, 1)] }
/-- A window whose first sample must read 4 or 5. -/
def pulse1 : Pulse := { pulse0 with table := [(4, 5)] }
def violating : State := { pulses with mon := { pulses.mon with masks := [pulse1] } }

theorem witness_PulsesAreMeasuredAndMasked : (pulses.wf ∧ pulses.live = true) ∧ (badTable.wf ∧ badTable.live = true) ∧
    tileOk (pulses.rdTile (ctxTiles + pulses.act F.MON.MASK_CFG.BASE)) (ctxTiles + pulses.act F.MON.MASK_CFG.BASE) = true ∧
    tileOk (badTable.rdTile (ctxTiles + badTable.act F.MON.MASK_CFG.BASE))
      (ctxTiles + badTable.act F.MON.MASK_CFG.BASE) = false ∧
    pulses.mon.energy.find? (fun p => pulses.due p.due) = some pulse0 ∧ pulse0.segs.Nodup ∧ pulses.mon.load.isSome = true ∧
    pulses.mon.masks.find? (fun p => pulses.due p.due) = some pulse0 ∧
    firstViolation [] (pulses.adcs (tickOf pulse0.te - 4) (List.replicate 64 1023)) = none ∧
    (violating.mon.masks.find? (fun p => violating.due p.due) = some pulse1 ∧
      firstViolation pulse1.table (violating.adcs (tickOf pulse1.te - 4) (List.replicate 64 800)) = some (0, true) ∧
      firstViolation pulse1.table (violating.adcs (tickOf pulse1.te - 4) (List.replicate 64 3)) = some (0, false)) ∧
    unfrozenNow.mon.unfrzAt = some unfrozenNow.raw ∧ frozenCap.flag F.MON.CAP_STAT.FROZEN = true ∧
    armedOff.flag F.MON.CAP_STAT.ARMED = true ∧ armedOff.condOn 1 = false :=
  ⟨sound_ok (by decide), sound_ok (by decide +kernel), tile_passes (by decide +kernel), tile_fails (by decide +kernel),
    by decide +kernel⟩

def capturing : State :=
  let s := State.with idle [(F.MON.CAP_STAT.BUSY, 0, 1), (F.MON.MU_CFG.ROLE, 0, 1), (F.MON.CAP_CFG.NREC, 0, 7)]
  { s with mon := { s.mon with trig := some {}, anyEnd := some s.now } }
def triggerable : State := State.with idle
  [(F.MON.CAP_STAT.ARMED, 0, 1), (F.MON.CAP_CFG.TRIG_EN, 0, 12), (F.MON.MU_CFG.ROLE, 0, 1)]
def follower : State := State.with idle [(F.MON.MU_CFG.ROLE, 0, 2)]
/-- A record begun n ticks from now by condition o, remote or local. -/
def begun (n : Int) (o : Nat) (remote : Bool) : State :=
  let s := State.with triggerable [(F.MON.CAP_STAT.ARMED, 0, 0), (F.MON.CAP_STAT.BUSY, 0, 1)]
  { s with mon := { s.mon with trig := some { sample := s.raw + n, cond := 1 <<< o, owner := o, remote := remote, local_ := !remote } } }
def freezing : State := State.with capturing [(F.MON.CAP_CFG.FRZ_REQ, 0, 1), (F.DEV.DBG_CFG.FREEZE_EN, 0, 1)]

theorem witness_CaptureArmsTriggersAndRecords :
    ((begun 0 3 true).flag F.MON.CAP_STAT.BUSY = true ∧ (begun 0 3 true).condOn 3 = true ∧
      (begun 10 2 true).mon.armTick ≤ ((begun 10 2 true).raw : Int) ∧ ((begun 10 2 true).raw : Int) < (begun 10 2 true).raw + 10 ∧
      ((begun (-20) 2 false).raw : Int) + (-20) < (begun (-20) 2 false).raw - 4) ∧
    (freezing.mon.trig = some {} ∧ 16 * (freezing.mon.lastPost + 1) ≤ freezing.now ∧ freezing.flag F.MON.CAP_CFG.FRZ_REQ = true ∧
      freezing.flag F.DEV.DBG_CFG.FREEZE_EN = true) ∧
    ((State.with triggerable [(F.MON.CAP_STAT.ARMED, 0, 0)]).mon.trig = none ∧
      (State.with triggerable [(F.MON.CAP_STAT.ARMED, 0, 0)]).condOn 3 = true ∧
      (State.with triggerable [(F.MON.CAP_STAT.ARMED, 0, 0)]).flag F.MON.CAP_STAT.ARMED = false) ∧ (capturing.wf ∧ capturing.live = true) ∧
    (triggerable.wf ∧ triggerable.live = true) ∧ (follower.wf ∧ follower.live = true) ∧
    (idle.judgeWrite .portA 0x1000421 (idle.holdWith 0x1000421 1) = none ∧ idle.flag F.MON.CAP_STAT.BUSY = false ∧
      idle.flag F.MON.CAP_STAT.FROZEN = false ∧ (idle.fld F.MON.MU_CFG.ROLE != 2) = true ∧ idle.capFits = true) ∧
    capturing.judgeWrite .portA 0x1000421 (capturing.holdWith 0x1000421 1) = none ∧
    idle.judgeWrite .portA 0x1000421 (idle.holdWith 0x1000421 4) = none ∧
    idle.judgeWrite .portA 0x1000421 (idle.holdWith 0x1000421 8) = none ∧
    triggerable.judgeWrite .portA 0x1000421 (triggerable.holdWith 0x1000421 2) = none ∧ triggerable.hearsAny = true ∧
    triggerable.condOn 3 = true ∧ triggerable.condOn 2 = true ∧ triggerable.flag F.MON.CAP_STAT.ARMED = true ∧
    triggerable.mon.trig = none ∧ capturing.mon.anyEnd = some capturing.now ∧
    (follower.fld F.MON.MU_CFG.ROLE = 2 ∧ follower.flag F.MON.CAP_STAT.ARMED = false ∧
      follower.flag F.MON.CAP_STAT.BUSY = false ∧ follower.flag F.MON.CAP_STAT.FROZEN = false ∧ follower.capFits = true) ∧
    capturing.mon.trig = some {} ∧ 16 * (capturing.mon.lastPost + 1) ≤ capturing.now ∧
    capturing.flag F.MON.CAP_CFG.FRZ_REQ = false :=
  ⟨by decide +kernel, by decide +kernel, by decide +kernel, sound_ok (by decide), sound_ok (by decide), sound_ok (by decide),
    by decide +kernel⟩

def averaging (n : Nat) (w : Bool) : State :=
  { armed with mon := { armed.mon with avg := { ({} : Avg) with running := true, end_ := armed.now, n := n, k := 3, written := w } } }
/-- An interval of n pulses, over since armed.now, that waits to be written beside the one that runs. -/
def averaged (n : Nat) : State :=
  { armed with mon := { armed.mon with avg := (averaging 0 false).mon.avg, avgPrev := some { (averaging n false).mon.avg with begin_ := 5 } } }

theorem witness_AveragerWritesOneTileAnInterval :
    ((averaged 1).mon.avgPrev = some { (averaging 1 false).mon.avg with begin_ := 5 } ∧
      (averaged 1).avgDone { (averaging 1 false).mon.avg with begin_ := 5 } = true ∧ (averaged 0).mon.avgPrev.isSome = true ∧
      (averaging 1 false).avgDone (averaging 1 false).mon.avg = true ∧ (averaging 0 false).avgDone (averaging 0 false).mon.avg = true ∧
      (averaging 0 false).mon.avgPrev = none ∧ (averaging 0 true).mon.avg.running = true) ∧ ((averaging 0 true).wf ∧ (averaging 0 true).live = true) ∧
    idle.mon.avg.running = false ∧ (State.with idle [(F.MON.AVG_CFG.EN, 0, 1)]).flag F.MON.AVG_CFG.EN = true ∧
    (averaging 0 true).mon.avg.written = true ∧ (averaging 0 true).mon.avg.end_ ≤ (averaging 0 true).now ∧
    (averaging 0 false).mon.avg.n = 0 ∧ (averaging 0 false).mon.avg.written = false ∧
    0 < (averaging 8 false).mon.avg.n ∧ (averaging 8 false).mon.avg.n = 2 ^ (averaging 8 false).mon.avg.k ∧
    0 < (averaging 1 false).mon.avg.n ∧ (averaging 1 false).mon.avg.end_ ≤ (averaging 1 false).now :=
  ⟨by decide, sound_ok (by decide), by decide⟩

/-! ## Mirror and front end -/

def mirr (x : Mirr) (s : State := scan) : State := { s with mirr := x }
def period : State := mirr { running := true, tn := 3199800000, res := some {} }

theorem witness_ControlPeriodsParkOrApplyResults : (idle.wf ∧ idle.live = true) ∧ (period.wf ∧ period.live = true) ∧
    ((at_ .idle 12500).mirr.tn + 200000 ≤ (at_ .idle 12500).now ∧ (at_ .idle 12500).dev.mode ≠ .armed ∧
      (at_ .idle 12500).scanning = false) ∧
    period.mirr.tn + 200000 ≤ period.now ∧ period.scanning = true ∧ period.mirr.running = true ∧
    period.mirr.restart = false ∧ period.mirr.searching = false ∧ period.mirr.res = some {} ∧
    (at_ .idle 12500).outputsIn ((at_ .idle 12500).mirr.tn + 200000) = true ∧ period.outputsIn (period.mirr.tn + 200000) = true :=
  ⟨sound_ok (by decide), sound_ok (by decide), by decide⟩

def loops : State := mirr { running := true, lockDone := true, overDoneH := true, overDoneV := true, captured := true }
def faulted : State := State.with (mirr { feH := true, feV := true, inDoneH := true, inDoneV := true })
  [(F.MIRR.FE_CFG.ACT_H, 0, 1), (F.MIRR.FE_CFG.ACT_V, 0, 1)]
def lateLock : State := mirr { captured := true, capPeriods := 10000000 } armed

theorem witness_MirrorLocksAndItsFaults : (loops.wf ∧ loops.live = true) ∧ (faulted.wf ∧ faulted.live = true) ∧
    (loops.mirr.running = true ∧ loops.mirr.lockDone = true ∧ loops.flag F.MIRR.STAT.H_LOCKED = false ∧
      loops.mirr.overDoneH = true ∧ loops.mirr.feH = false ∧ loops.mirr.overDoneV = true ∧ loops.mirr.feV = false) ∧
    (lateLock.dev.mode = .armed ∧ lateLock.mirr.captured = true ∧ lateLock.flag F.MIRR.STAT.H_LOCKED = false ∧
      lateLock.mirr.lockDone = false ∧ lateLock.lockLate = true) ∧
    faulted.mirr.feH = true ∧ faulted.mirr.inDoneH = true ∧ faulted.flag F.MIRR.FE_CFG.ACT_H = true ∧
    faulted.mirr.feV = true ∧ faulted.mirr.inDoneV = true ∧ faulted.flag F.MIRR.FE_CFG.ACT_V = true :=
  ⟨sound_ok (by decide), sound_ok (by decide), by decide +kernel⟩

/-- Phase one quarter turn on: the sweep of half-turn 0 has ended. -/
def sweeping : State := State.with (mirr { model := { th := 1073741824 }, half := 0 }) [(F.MIRR.STAT.H_LOCKED, 0, 1)]
def closing : State := { sweeping with dev := { sweeping.dev with close := true } }

theorem witness_SweepBoundariesCountAndCloseFrames : (sweeping.wf ∧ sweeping.live = true) ∧ sweeping.sweepDue = true ∧
    sweeping.dev.close = false ∧ closing.sweepDue = true ∧ closing.dev.close = true ∧ closing.scanning = true ∧ idle.sweepDue = false ∧
    closing.ripe .rejection = false := ⟨sound_ok (by decide), by decide +kernel⟩

/-- Commits of every group pending, made in an earlier tick. -/
def pending : State :=
  let s := State.with idle [(F.DEV.CMT_STAT.PEND, 0, 0x7F)]
  { s with dev := { s.dev with cmtAt := (List.range 7).map (fun n => (n, s.raw - 1)) } }
def closingRipe : State :=
  let s := State.with closing [(F.DEV.CMT_STAT.PEND, 0, 0x7F)]
  { s with dev := { s.dev with cmtAt := (List.range 7).map (fun n => (n, s.raw - 1)) } }

theorem witness_ImmediateCommitsCopyTheirGroup : (pending.wf ∧ pending.live = true) ∧
    (pending.ripe (grpOf 0) = true ∧ pending.flag F.MIRR.STAT.H_LOCKED = false) ∧
    (pending.ripe (grpOf 3) = true ∧ pending.scanning = false) ∧ idle.ripe (grpOf 0) = false ∧
    (closingRipe.ripe .rejection = true ∧ closingRipe.sweepDue = true ∧ closingRipe.dev.close = true ∧ closingRipe.scanning = true) :=
  ⟨sound_ok (by decide), by decide +kernel⟩

/-- The pickoff's model of a mirror that started at instant 0, and one sweep whose columns are to be posted. -/
def posting : State := State.with (mirr { model := { a := 1000000, f := 1 }, sweeps := [{}], tn := 3199999900 })
  [(F.MIRR.STAT.H_LOCKED, 0, 1), (F.ALD.EPH_STAT.INFORCE, 0, 1)]

/-- Its first crossing lies within a tick of instant 0, whatever its free rounding. -/
theorem posting_crossing : (posting.crossing {}).1 ≤ (1 : Int) := by
  have hm : posting.mirr.model = { a := 1000000, f := 1 } := by decide
  have ha : asin48 (posting.colAngle 0 * one48 / 1000000) = 0 := by decide +kernel
  have ht : posting.actS F.MIRR.TRANSIT_CFG.TDLY = 0 := by decide +kernel
  have hc : TSweep.col {} = 0 := by decide
  simp [State.crossing, State.near, State.takeFree, hm, ha, ht, hc]
  exact Int.le_of_lt_add_one (by exact_mod_cast Nat.mod_lt _ (by decide))

theorem witness_ColumnEventsReachEveryAlidade : (posting.wf ∧ posting.live = true) ∧
    (posting.now < posting.mirr.tn + 200000 ∧ posting.sweepFirst = posting) ∧
    posting.flag F.MIRR.STAT.H_LOCKED = true ∧ posting.flag F.ALD.EPH_STAT.INFORCE = true ∧ posting.mirr.sweeps = [{}] ∧
    (posting.nextReach 1024 {} 0).1 = {} ∧ (idle.mirr.tn + 200000 ≤ (at_ .idle 12500).now) ∧
    max (posting.crossing {}).1 (posting.mirr.lastT + 1) -
      16 * (clampN 250 5000 (posting.act F.MIRR.TRANSIT_CFG.LEAD) : Int) ≤ posting.now := by
  refine ⟨sound_ok (by decide), ⟨by decide, by decide +kernel⟩, by decide +kernel, by decide, by decide, by decide +kernel, by decide, ?_⟩
  have hl : posting.mirr.lastT = 0 := by decide
  have hn : posting.now = (3200000000 : Int) := by decide
  have hx := posting_crossing
  rw [hl, hn]
  have hm : max (posting.crossing {}).1 ((0 : Int) + 1) ≤ 1 := Int.max_le.mpr ⟨hx, by decide⟩
  have : (0 : Int) ≤ (clampN 250 5000 (posting.act F.MIRR.TRANSIT_CFG.LEAD) : Nat) := Int.natCast_nonneg _
  exact le_trans (sub_le_self _ (by positivity)) (le_trans hm (by decide))

def bridges : State :=
  let s := State.with idle [(F.AFE.BR_STAT.SUSPECT, 0, 1)]
  { s with afe := { s.afe with running := true, bridges := [(0, { swapNext := some s.now })] } }

theorem witness_BridgesDeliverSwapAndSwitch : (bridges.wf ∧ bridges.live = true) ∧ bridges.afe.running = true ∧
    (List.replicate 10 (0 : BitVec 16)).length = bridges.nextLen 0 ∧
    bridges.sampleAt ((bridges.bridge 0).k + 10) ≤ bridges.now ∧ (bridges.bridge 0).swapDue = false ∧
    bridges.ripe .frontEnd = false ∧ bridges.dueOpt (bridges.bridge 0).swapNext = true ∧
    bridges.judgeWrite .portA 0x1000601 0xF = none ∧ bridges.sampleAt (64 * (bridges.afe.halves + 1)) ≤ bridges.now ∧
    (bridges.bit F.AFE.BR_STAT.SUSPECT 0 = true ∧ bridges.bit F.AFE.BR_STAT.BRK 0 = false ∧
      bridges.bit F.AFE.BR_STAT.SUSPECT 1 = false ∧ bridges.flagged 0 ⟨[], true⟩ = true ∧
      bridges.flagged 0 ⟨[], false⟩ = false) ∧ bridges.judgeWrite .portA 0x1000602 0xF0000 = none :=
  ⟨sound_ok (by decide), by decide +kernel⟩

/-- A result overran in this tick. -/
def overrun : State := { idle with afe := { idle.afe with ovrAt := some (idle.raw, false) } }

theorem witness_PairedReadsLatchTheirPartner : (idle.wf ∧ idle.live = true) ∧ Tab.sorted idle.latch = true ∧
    latchKey .portB 2 ≠ latchKey .portA 2 ∧ idle.hot = [] ∧ idle.afe.ovrAt = none ∧ overrun.afe.ovrAt = some (overrun.raw, false) ∧
    (overrun.wf ∧ overrun.live = true) := ⟨sound_ok (by decide), by decide, by decide, by decide, by decide, by decide, sound_ok (by decide)⟩

def settled : State := State.with idle [(F.AFE.REF_STAT.SETTLED, 0, 1), (F.AFE.HK_CTRL.RUN, 0, 1), (F.AFE.HK_EN.EN, 0, 8)]
def conv0 : HkConv := { input := 3, settle := 0, curve := 0, rser := 0, start := 0, single := false }
def converting : State := { settled with afe := { settled.afe with conv := some conv0 } }
def unsettled : State := at_ .idle 1250000

theorem witness_HousekeepingAndTestDac : (settled.wf ∧ settled.live = true) ∧
    (settled.judgeWrite .portA 0x1000670 0x1702 = none ∧ bits 0x1702 12 8 < 24) ∧
    (settled.hkReady = true ∧ settled.afe.single = none ∧ settled.flag F.AFE.HK_CTRL.RUN = true ∧
      settled.hkNext = some 3) ∧
    (converting.afe.conv = some conv0 ∧ conv0.start + 10000 * ((conv0.settle : Int) + 1) + 20000 ≤ converting.now) ∧
    (conv0.curve = 0 ∧ converting.flag F.AFE.TDAC_CFG.EN = false ∧ conv0.input ≠ 22 ∧ converting.afe.temps = []) ∧
    idle.judgeWrite .portA 0x1000674 1 = none ∧
    (unsettled.flag F.AFE.REF_STAT.SETTLED = false ∧ unsettled.afe.refHeld = false ∧
      unsettled.afe.refStart + 320000 ≤ unsettled.now ∧ unsettled.afe.refStart + 20000000 ≤ unsettled.now) ∧
    idle.judgeWrite .portA 0x10006A0 0x40000 = none ∧ (4 ≤ bits 0x40000 20 16 ∧ bits 0x40000 20 16 ≤ 7) ∧
    idle.judgeWrite .portA 0x10006A0 0x3 = none ∧ bits 0x3 20 16 < 4 ∧ (0x3 : Word).getLsbD 24 = false :=
  ⟨sound_ok (by decide), by decide +kernel⟩

/-! ## Strips -/

/-- Strip 0 powered for 1.001 s, its bias not yet in tolerance. -/
def powered : State :=
  let s := State.with (at_ .armed 1251250000) [(F.STRIP.RX_STAT.POWERED, 0, 1)]
  s.setStrip 0 { s.strip 0 with powAt := some 0, testAt := [(0, 0)] }
/-- Its excess voltage in range and BIAS_OK set; the free times of two samplers' tests past; two channels retired. -/
def biased : State := State.with powered [(F.STRIP.RX_STAT.BIAS_OK, 0, 1), (F.STRIP.RX_STAT.RET_CH, 0, 2)]
def tested : State := powered.setStrip 0 { powered.strip 0 with
  freeSum := [(0, 20480000), (4, 20480000)], calPend := [(32, { trims := (List.range 16).map (fun k => (k : Int) - 8), offs := 3 })] }
def unheard : State := biased.setStrip 0 { powered.strip 0 with freeSum := [(0, 200000000)] }

theorem witness_ReceiverBiasFaultsAndFlags :
    ((powered.strip 0).biasAt + 200000 ≤ powered.now ∧
      (clampN 1000 5000 (powered.fld F.STRIP.BIAS_CFG.VEX 0) = 1000 ∨ clampN 1000 5000 (powered.fld F.STRIP.BIAS_CFG.VEX 0) = 3000) ∧
      biased.flag F.STRIP.RX_STAT.BIAS_OK 0 = true ∧ biased.flag F.STRIP.RX_STAT.POWERED 0 = true ∧ powered.fire.parts = []) ∧
    (tested.testComplete 0 0 (List.replicate 16 4096) = true ∧ tested.testComplete 0 32 (List.replicate 16 4096) = true ∧
      tested.testComplete 0 0 (1023 :: 4313 :: List.replicate 14 4300) = true ∧ tested.chRetired 0 0 = false ∧
      Tab.find? (tested.strip 0).calPend 32 = some { trims := (List.range 16).map (fun k => (k : Int) - 8), offs := 3 } ∧
      (tested.strip 0).slots = []) ∧
    (unheard.flag F.STRIP.RX_STAT.POWERED 0 = true ∧ 200000000 ≤ unheard.calFree 0 0 ∧ unheard.chRetired 0 0 = false ∧
      2 ≤ unheard.fld F.STRIP.RX_STAT.RET_CH 0 ∧ unheard.flag F.STRIP.RX_STAT.FAULT 0 = false) ∧ (powered.wf ∧ powered.live = true) ∧
    powered.flag F.STRIP.RX_STAT.POWERED 0 = true ∧ powered.flag F.STRIP.RX_STAT.BIAS_OK 0 = false ∧
    powered.flag F.STRIP.RX_STAT.BIAS_ERR 0 = false ∧ powered.biasLate 0 = true ∧
    (1000 < powered.calAge 0 ∧ powered.flag F.STRIP.RX_STAT.STALE 0 = false) ∧
    powered.judgeWrite .portA 0x1002000 0xE0 = none ∧ powered.slot 0 0 = none ∧ powered.chRetired 0 0 = false ∧
    (∀ h ∈ [1024, 7168], 1024 ≤ h ∧ h ≤ 7168) ∧ (powered.strip 0).slots = [] ∧
    (∀ p < 16, -32 ≤ powered.startTrim 0 p ∧ powered.startTrim 0 p ≤ 31) ∧ (∃ h ∈ [1023], h < 1024 ∨ 7168 < h) :=
  ⟨by decide +kernel, by decide +kernel, by decide +kernel, sound_ok (by decide), by decide +kernel⟩

/-- A part in flight that has started and whose window is open, in slot 0 of strip 0 with thresholds of two SPADs. -/
def flown : Part :=
  { pid := 7, bank := 0, tfire := 3199990000, fired := some 3199990000, tstart := some 3199990000, lcnt := 625 }
def slot0 : Slot := { pid := 7, uv := List.replicate 8 (0, 0), n := List.replicate 8 16, m := List.replicate 8 2, w := 40 }
def conv1 : Conv := { pid := 7, j := 0, stop := 3199999000, blind := 0 }
def listening (c : Chan) : State :=
  { scan with
    fire := { scan.fire with parts := [flown] }
    strips := [(0, { slots := [(0, slot0)], chans := [(0, c)], convs := [conv1] })] }
def armedCh : State := listening { armed := true }
def blindCh : State := listening { stop := 3199999000, from_ := 0 }
def t1 : Nat := 159999900000
/-- Two SPADs of the macro-pixel at (0, 0) fire, n ps apart. -/
def pair (n : Nat) : List SpadEv := [⟨t1, 0, 0⟩, ⟨t1 + n, 1, 0⟩]
def heardBy (s : State) (n : Nat) : List Nat := ((pair n).foldl State.addEvent s).chanEvents slot0 0

/-- Conversions that join in this tick, and a full queue. -/
def arriving (n : Nat) : State :=
  let det : Det := { pid := 1, rho := 0, band := 3, cls := 0, tau := 4, forced := false, lost := 0, col := 5, lit := true, lcnt := 0 }
  armedCh.setStrip 0 { armedCh.strip 0 with dets := List.replicate n det, arr := [{ tfire := 5, j := 3, det := det }, { tfire := 2, j := 3, det := det }] }

theorem witness_StopsAreTakenTimedAndDelivered : (armedCh.wf ∧ armedCh.live = true) ∧
    (((arriving 62).strip 0).dets.length + ((arriving 62).strip 0).arr.length ≤ 64 ∧ 64 ≤ ((arriving 64).strip 0).dets.length ∧
      ((arriving 64).strip 0).arr ≠ []) ∧ armedCh.slot 0 (0 / 8) = some slot0 ∧
    armedCh.part slot0.pid = some flown ∧ (armedCh.chan 0 0).armed = true ∧
    coincidence (heardBy armedCh 2000) (armedCh.chan 0 0).from_ (slot0.m.getD 0 0) (50 * slot0.w) =
      some (evKey t1 0, evKey (t1 + 2000) 1) ∧
    coincidence (heardBy armedCh 2001) (armedCh.chan 0 0).from_ (slot0.m.getD 0 0) (50 * slot0.w) = none ∧
    (blindCh.chan 0 0).armed = false ∧ blindCh.chRetired 0 0 = false ∧ slot0.lost.testBit 0 = false ∧
    rearmAt slot0 (blindCh.chan 0 0) (blindCh.chanEvents slot0 0) ≤ blindCh.now ∧
    coincidence ((heardBy blindCh 1).filter (fun k => decide (evInst (k / 32768) <
      rearmAt slot0 (blindCh.chan 0 0) (heardBy blindCh 1)))) 0 2 2000 = some (evKey t1 0, evKey (t1 + 1) 1) ∧
    ((blindCh.strip 0).convs.find? (fun c => c.j == 0) = some conv1 ∧ conv1.pid = slot0.pid ∧
      flown.tstart = some 3199990000 ∧ max 3199990000 conv1.stop + 256 ≤ blindCh.now) ∧
    blindCh.fire.parts.find? (fun p => p.bank == 0 && !p.closed && blindCh.dueOpt p.gateAt) = some flown :=
  ⟨sound_ok (by decide), by decide +kernel⟩

def visit0 : Visit := { col := 5, tcol := 3199918080, opened := 3199900000 }
def det0 : Det :=
  { pid := 7, rho := 0, band := 0, cls := 3, tau := 5000, forced := false, lost := 0, col := 5, lit := true, lcnt := 100 }
def visiting (x : Visit) (l : List Det) : State := scan.setStrip 0 { scan.strip 0 with visits := [(0, x)], dets := l }
def fresh0 : State := visiting visit0 [det0]
def readV : State := visiting { visit0 with read := true } [det0]
/-- The tag in word 47 of tile 10 is gone. -/
def badTag : State := { fresh0 with mem := [(48 * 10 + 47, 0)] }

theorem badTag_ok : badTag.wf ∧ badTag.live = true :=
  ⟨⟨by
    have : Memory.wf badTag.mem = Tab.wf memResetF badTag.mem := by rw [Memory.wf, memResetF_eq]
    rw [this]; decide +kernel, by decide, by decide⟩, by decide⟩
/-- A visit that an instruction of this tick has joined. -/
def joined : State := visiting { visit0 with join := some (scan.raw, 3200000000) } []

theorem witness_VisitsReadBinAndEmpty :
    (List.find? (fun p : Nat × Visit => !p.2.booked && joined.due (p.2.tcol + 81920)) (joined.openVisits 0)).isSome = true ∧
    (fresh0.strip 0).binAt ≠ fresh0.raw ∧ (fresh0.wf ∧ fresh0.live = true) ∧ (badTag.wf ∧ badTag.live = true) ∧
    tileOk (fresh0.rdTile 10) 10 = true ∧ tileOk (fresh0.rdTile 11) 11 = true ∧
    tileOk (badTag.rdTile 11) 11 = true ∧ tagOk (badTag.rdTile 10) 10 = false ∧
    ((0, visit0) ∈ fresh0.openVisits 0 ∧ visit0.read = false ∧ visit0.col < 1024 ∧ (fresh0.strip 0).ending = [] ∧
      ∀ q ∈ fresh0.openVisits 0, q = (0, visit0)) ∧ cellTile 0 5 0 = 10 ∧ cellTile 0 5 1 = 11 ∧
    ((fresh0.strip 0).dets = [det0] ∧ fresh0.detReady 0 det0 = false) ∧
    (∀ e ∈ ((visiting visit0 []).strip 0).dets.take 4, fresh0.detReady 0 e = true ∧ ¬(e.cls = 3 ∧ e.lit = true)) ∧
    (readV.visitOf 0 5 = some 0 ∧ (readV.visit 0 0).read = true ∧ det0.cls = 3 ∧ det0.lit = true ∧
      readV.gateOk 0 0 5000 = false ∧ readV.gateOk 0 2 5000 = true) ∧
    List.find? (fun p : Nat × Visit => !p.2.booked && fresh0.due (p.2.tcol + 81920)) (fresh0.openVisits 0) = some (0, visit0) ∧
    Tab.find? (fresh0.strip 0).pend 10 = none ∧ Tab.find? (fresh0.strip 0).pend 11 = none :=
  ⟨by decide, by decide, sound_ok (by decide), badTag_ok, tile_passes (by decide +kernel), tile_passes (by decide +kernel),
    tile_passes (by decide +kernel), by decide +kernel⟩

def acc0 : CellAcc := { words := List.replicate 48 0 }
def ended : Visit := { visit0 with read := true, c0 := acc0, c1 := acc0 }
def gone : Part := { flown with tstart := some 3199980000, closed := true }
def ending : State :=
  { scan.setStrip 0 { scan.strip 0 with ending := [ended], ovf := [20] } with fire := { scan.fire with parts := [gone] } }
/-- The same in the tick of a frame boundary, whose K the cells do not reach. -/
def atBoundary : State := ending.setStrip 0 { ending.strip 0 with bndAt := some ending.raw, bndK := 5 }

theorem witness_VisitsWriteBackAndCellsClose : (shotsOf ((ended.acc 0).words.getD 32 0) < (atBoundary.strip 0).bndK ∧
      (atBoundary.strip 0).bndAt = some atBoundary.raw ∧ (ending.strip 0).bndAt = none) ∧ (ending.wf ∧ ending.live = true) ∧
    ((ending.strip 0).ending = [ended] ∧ ended.read = true ∧ ended.col < 1024 ∧
      ∀ rho : Fin 2, (ended.acc rho).words.length = 48 ∧ (ended.acc rho).held = false ∧ (ended.acc rho).afresh = false ∧
        Tab.find? (ending.strip 0).pend (cellTile 0 ended.col rho) = none) ∧
    ((ending.strip 0).ovf = [20] ∧ (ending.strip 0).cq.length < 64) ∧
    ending.fire.parts.find? (fun p => p.bank == 0 && p.closed && ending.dueOpt (p.gateAt.map (· + 256))) = some gone :=
  ⟨by decide, sound_ok (by decide), by decide +kernel⟩

/-! ## Rings -/

def rec0 : Word × Word := (0, 0)
def ring (x : Ring) : State :=
  let s := State.with scan [(F.BANK.RING_CFG.NTILE, 1, 4), (F.BANK.RING_CFG.STALL, 1, 1), (F.BANK.RING_CFG.ROUTE, 1, 1),
    (F.LINK.STAT.STATE, 0, 3)]
  { s with out := { s.out with rings := [(1, x)] }, wc := { s.wc with begin_ := [(1, s.now)] } }
def heads : State := ring { causes := [0], hNext := some 3199990000 }
def grps : State := ring { base := some 3199990000, groups := [{ recs := [rec0], tpt := 3199990000, core := some 4 }] }
def stalled : State := ring { waitAt := some 3180000000, lastFree := 0, acked := [(0, 0)] }
/-- A ring of eight slots after its RING_CFG changed; a header of KIND 3 that stays for a group. -/
def movedRing : State := State.with (ring { causes := [0], hNext := some 3199990000, moved := true }) [(F.BANK.RING_CFG.NTILE, 1, 8)]
def alone : State := ring { causes := [3], hNext := some 3199990000 }

theorem witness_RingsTakeHeadersAndGroups :
    (heads.now < Tab.get (fun _ => 0) heads.wc.begin_ 1 + (max 1 (heads.act F.BANK.WC_CFG.WC_IVL 1) : Nat) * ms ∧ heads.sweepFirst = heads) ∧
    (8 ≤ movedRing.ringRoom 1 ∧ (movedRing.ring 1).moved = true ∧ (movedRing.ring 1).causes = [0]) ∧
    ((alone.ring 1).causes = [3] ∧ (alone.ring 1).groups = []) ∧ idle.judgeWrite .portA 0x1001040 0x20000 = none ∧ (heads.wf ∧ heads.live = true) ∧
    ((∀ c : Fin 12, (heads.core c).stopReq = false) ∧ (heads.ring 1).causes = [0] ∧
      (heads.ring 1).hNext = some 3199990000 ∧ (heads.ring 1).groups = [] ∧ heads.flag F.BANK.RING_STAT.DISC 1 = false ∧
      4 ≤ heads.ringRoom 1 ∧ 4 ≤ heads.fld F.BANK.RING_CFG.NTILE 1 ∧
      heads.fld F.BANK.RING_CFG.BASE 1 + heads.fld F.BANK.RING_CFG.NTILE 1 ≤ 16384) ∧
    ((grps.ring 1).causes = [] ∧ (grps.ring 1).rebase = false ∧ (grps.ring 1).base = some 3199990000 ∧
      offBase 3199990000 3199990000 = false ∧ 1 ≤ grps.ringRoom 1) ∧
    ((stalled.ring 1).waitAt = some 3180000000 ∧
      max 3180000000 (stalled.ring 1).lastFree + (max 1 (stalled.fld F.BANK.RING_CFG.STALL 1) : Nat) * ms ≤ stalled.now ∧
      0 ∈ stalled.routed 1 ∧ stalled.linkUp (stalled.portOf 0) = true ∧
      Tab.find? (stalled.ring 1).acked 0 = some (stalled.ring 1).tail ∧ (stalled.ring 1).slots = [] ∧
      (stalled.ring 1).tail ≤ (stalled.ring 1).head) ∧
    idle.judgeWrite .portA 0x1001040 0x40000 = none ∧
    Tab.get (fun _ => 0) scan.wc.begin_ 1 + (max 1 (scan.act F.BANK.WC_CFG.WC_IVL 1) : Nat) * ms ≤ scan.now :=
  ⟨by decide +kernel, by decide +kernel, by decide, by decide +kernel, sound_ok (by decide), by decide +kernel⟩

/-! ## Cores -/

/-- A core whose cache holds a code tile of one instruction repeated. -/
def on (s : State) (c op : Nat) (w : BitVec 40) (x : Core := {}) : State :=
  (s.setCore c { x with ntile := 1, cache := [(x.base + 1, List.replicate 47 (wordOf op w))] }).setFld F.CORE.STAT.STATE 2 c

/-- The tests' instruction at the PC of a core of a scanning device. -/
def run (c op : Nat) (w : BitVec 40) (x : Core := {}) : State := on scan c op w x

theorem test_run_is_well_kept : (run 0 0x10 0).wf ∧ (run 0 0x10 0).live = true := sound_ok (by decide)

theorem witness_IntegerInstructionsWriteAndFlag :
    (∀ p ∈ [(0x00, (0 : BitVec 40)), (0x08, 0x1000FFFFFF), (0x09, 0x10008000FF), (0x0A, 0x1200000000), (0x10, 0x1230000000),
      (0x11, 0x1200FFFFFF), (0x12, 0x1230000000), (0x13, 0x1200800000), (0x14, 0xF230000000), (0x15, 0x0230000000),
      (0x16, 0x0200000001), (0x18, 0x0230000000), (0x19, 0x1230000000), (0x1A, 0x1230000000), (0x1B, 0x1200000000),
      (0x1C, 0x120800003F), (0x1D, 0x1208000030), (0x1E, 0x1230000000)], (run 0 p.1 p.2).stands 0 (wordOf p.1 p.2)) ∧
    immLegal 0x1000FFFFFF = true ∧ fieldA 0x1000FFFFFF = 0 ∧ immLegal 0x10008000FF = true ∧ fieldA 0x10008000FF = 0 ∧
    regLegalDA 0x1200000000 = true ∧ regLegal 0x1230000000 = true ∧ immLegal 0x1200FFFFFF = true ∧
    immLegal 0x1200800000 = true ∧ regLegal 0xF230000000 = true ∧ regLegalAB 0x0230000000 = true ∧
    immLegal 0x0200000001 = true ∧ fieldD 0x0200000001 = 0 ∧ shiftLegal 0x120800003F = true ∧
    shiftLegal 0x1208000030 = true ∧ shiftLegal 0x1230000000 = true := by
  simp only [State.stands]
  decide +kernel

/-- G1 as given. -/
def g1 (v : Word) : Core := { g := [(1, v)] }

theorem witness_BufferStoreAndVectorInstructions :
    (∀ p ∈ [(0x20, (0x210000002F : BitVec 40)), (0x21, 0x2100000030), (0x51, 0x7100000040), (0x52, 0x710000006F),
      (0x22, 0x1100003FFF), (0x23, 0x0100004000), (0x53, 0x7120000000), (0x54, 0x7120000000), (0x55, 0x7120000000),
      (0x56, 0x7120000000), (0x57, 0xF700000000), (0x58, 0x770000000F)], (run 4 p.1 p.2).stands 4 (wordOf p.1 p.2)) ∧
    (scan.wf ∧ (run 4 0x23 0).wf) ∧ tileOk ((run 4 0x22 0).rdTile (ctxTiles + 0x3FFF)) (ctxTiles + 0x3FFF) = true ∧
    tileOk ((run 4 0x22 0).rdTile ctxTiles) ctxTiles = true ∧ tileOk (badTable.rdTile ctxTiles) ctxTiles = false ∧
    (State.with (run 4 0x23 0) [(F.CORE.STT_WIN.BASE, 4, 3), (F.CORE.STT_WIN.COUNT, 4, 1)]).inStt 4 3 = true ∧
    (run 4 0x23 0).inStt 4 3 = false ∧
    immLegal 0x210000002F = true ∧ immLegal 0x7100000040 = true ∧ fieldD 0x7100000040 < 8 ∧ immLegal 0x1100003FFF = true ∧
    fieldD 0x1100003FFF ≤ 1 ∧ immLegal 0x0100004000 = true ∧ fieldD 0x0100004000 ≤ 1 ∧ vLegal 0x7120000000 = true ∧
    regLegalDA 0xF700000000 = true ∧ fieldA 0xF700000000 < 8 ∧ fieldB 0x770000000F = 0 ∧ low28 0x770000000F < 16 := by
  simp only [State.stands]
  exact ⟨by decide +kernel, ⟨(sound_ok (by decide)).1, (sound_ok (by decide)).1⟩, tile_passes (by decide +kernel),
    tile_passes (by decide +kernel), tile_fails (by decide +kernel), by decide +kernel⟩

/-- A core inside a trap, and one whose stack is full. -/
def trapping : State := State.with (run 0 0x02 0) [(F.CORE.STAT.TRAP_ACTIVE, 0, 1)]
def full : Core := { stack := List.replicate 16 (0, false) }
def unchecked : State := (badTable.setCore 0 { base := 16383, ntile := 1 }).setFld F.CORE.STAT.STATE 2 0

theorem witness_ControlTransferAndTraps : (trapping.wf ∧ (run 0 0x28 0).wf) ∧
    (∀ p ∈ [(0x28, (0x900FFFFF : BitVec 40)), (0x28, 0x000000002E), (0x29, 0x2F), (0x2A, 0), (0x2B, 0x100000001),
      (0x01, 0), (0x02, 0), (0x50, 0), (0x10, 1), (0x03, 0)], (run 0 p.1 p.2).stands 0 (wordOf p.1 p.2)) ∧
    trapping.stands 0 (wordOf 0x02 0) ∧ (run 4 0x40 0).stands 4 (wordOf 0x40 0) ∧
    (run 0 0x29 0 full).stands 0 (wordOf 0x29 0) ∧ (run 0 0x2A 0 { stack := [(3, true)] }).stands 0 (wordOf 0x2A 0) ∧
    branchLegal 0x2E = true ∧ fieldD 0x2E ≤ 9 ∧ branchLegal 0x100000001 = true ∧ fieldA 0x100000001 ≠ 0 ∧
    regLegal 1 = false ∧ bits (wordOf 0x03 0) 47 40 ∉ opcodes ∧
    ((run 0 0 0 { pc := 47 }).canIssue 0 = true ∧ 47 * ((run 0 0 0 { pc := 47 }).core 0).ntile ≤ 47) := by
  simp only [State.stands]
  exact ⟨⟨(sound_ok (by decide)).1, (sound_ok (by decide)).1⟩, by decide +kernel⟩

/-- The code tile of core 0 fails its check. -/
theorem witness_fetch_fails : unchecked.canIssue 0 = true ∧ (unchecked.core 0).pc < 47 * (unchecked.core 0).ntile := by
  decide +kernel

def msg : State := { run 0 0x33 0x1000000000 with net := { scan.net with mbx := [(0, { msg := [1] })] } }
/-- A message that core n placed in mailbox 0 in this tick. -/
def placed (n : Nat) (s : State) : State :=
  { s with net := { s.net with mbx := [(0, { msg := [BitVec.ofNat 48 (coreCode n * 2 ^ 40)], at_ := s.now })] } }

theorem witness_WaitsSignalsAndMail :
    ((placed 5 (run 0 0x32 0x7)).mbx 0).at_ = (run 0 0x32 0x7).now ∧ mailBox 0x7 = 0 ∧
    (allCores.find? fun j => coreCode j == bits (((placed 5 scan).mbx 0).msg.getD 0 0) 47 40) = some 5 ∧
    (allCores.find? fun j => coreCode j == bits (((placed 0 scan).mbx 0).msg.getD 0 0) 47 40) = some 0 ∧ (msg.wf ∧ msg.live = true) ∧
    (∀ p ∈ [(0x30, (0x100000000 : BitVec 40)), (0x31, 0xF0000000FF), (0x34, 0xB), (0x32, 0x7), (0x33, 0x1000000000)],
      (run 0 p.1 p.2).stands 0 (wordOf p.1 p.2)) ∧ regLegalA 0x100000000 = true ∧
    1250000000 ≤ (1250000000 : Word).toNat % 2 ^ 31 ∧ (1249999999 : Word).toNat % 2 ^ 31 < 1250000000 ∧
    immLegal 0xF0000000FF = true ∧ fieldA 0xF0000000FF = 0 ∧ imm24 0xF0000000FF < 256 ∧
    ((run 0 0x31 0xFF { ev := 2 }).pendingEv 0 &&& 0xFF = 2 ∧ (run 0 0x31 0xFF).pendingEv 0 &&& 0xFF = 0) ∧
    immLegal 0xB = true ∧ imm24 0xB ≤ 11 ∧ mailLegal 0x7 = true ∧ fieldD 0x7 = 0 ∧ mailLegal 0x1000000000 = true ∧
    msg.stands 0 (wordOf 0x33 0x1000000000) ∧ (msg.mbx 0).msg ≠ [] ∧
    ((scan.setCore 3 { wait := .event 2 1, ev := 2 }).core 3).wait = .event 2 1 ∧
    (scan.setCore 3 { wait := .event 2 1, ev := 2 }).pendingEv 3 &&& 2 ≠ 0 ∧ lastTick.clk.timeRun = true ∧
    ((lastTick.setCore 3 { wait := .time 0 }).core 3).wait = .time 0 ∧ (0 : Inst) ≤ lastTick.now := by
  simp only [State.stands]
  exact ⟨by decide, by decide, by decide +kernel, by decide +kernel, sound_ok (by decide), by decide +kernel⟩

def wrote : Core := { ops := [.wrs 0x1002005 0x123] }

theorem witness_CoreRegisterAccessesAndCommits : (scan.wf ∧ scan.live = true) ∧
    (∀ p ∈ [(0x36, (0x1000000001 : BitVec 40)), (0x37, 0x1000000001), (0x35, 6)],
      (run 0 p.1 p.2).stands 0 (wordOf p.1 p.2)) ∧ (run 0 0x35 6 wrote).stands 0 (wordOf 0x35 6) ∧
    immLegal 0x1000000001 = true ∧ immLegal 6 = true ∧ imm24 6 ≤ 6 ∧
    (blockOf 0x1000001 = some 0 ∧ latchRead 0x1000001 = none ∧ latchSet 0x1000001 = none ∧
      (∀ p ∈ fldsAt 0x1000001, p.1.acc ≠ .rc)) ∧ blockOf 0x1000080 = none ∧
    (pending.ripe (grpOf 6) = true ∧ pending.pend (grpOf 6) = true ∧ idle.pend (grpOf 6) = false) ∧
    (run 0 0x37 0).judgeWrite (.core 0) 0x1000001 0 ≠ none ∧ (run 0 0x37 0).judgeWrite (.core 0) 0x1002005 0x123 = none ∧
    blockOf 0x1002005 = some 14 ∧ ((scan.setCore 0 wrote).core 0).ops = .wrs 0x1002005 0x123 :: [] ∧
    ((scan.setCore 0 { ops := [.cmt 6] }).core 0).ops = .cmt 6 :: [] := by
  simp only [State.stands]
  exact ⟨sound_ok (by decide), by decide +kernel⟩

def ev0 : ColEv := { col := 5, dir := false, sweep := 0, tcol := 3200004464, d := 128, word1 := 0x100 }
def queued : Core := { queue := [ev0] }
def current : Core := { cur := some ev0 }
/-- The event of bank 0's core is presented and its strips hold its visit. -/
def visited : State := (List.range 6).foldl (fun s d => s.setStrip d { visits := [(0, { visit0 with col := 5 })] })
  (run 0 0x41 0 current)
def booking (e : ColEv) : State := scan.setCore 0 { cur := some e, book := some (0, 1) }
def syncing : State := (scan.setCore 0 { wait := .sync 1 }).setFld F.CORE.STAT.STATE 3 0
def flight (n : Nat) : State :=
  { booking ev0 with fire := { scan.fire with parts := (List.range n).map (fun k => { part0 with pid := k, tfire := 3200004464 }) } }
/-- A CLOSE request that a core has made in this tick. -/
def closeAsked : State := { run 0 0x44 0 with dev := { scan.dev with close := true, closeAt := scan.raw } }

theorem witness_AlidadeInstructionsAndBookings :
    (closeAsked.dev.close = true ∧ closeAsked.dev.closeAt = closeAsked.raw ∧ (booking ev0).sweepDue = false ∧
      ({ ev0 with at_ := scan.raw } : ColEv).at_ = scan.raw ∧ ev0.at_ ≠ scan.raw) ∧ (visited.wf ∧ visited.live = true) ∧
    (∀ p ∈ [(0x40, (0x1000000000 : BitVec 40)), (0x47, 0x1200000000), (0x42, 0x1000), (0x42, 0x100000000), (0x43, 0x100000000),
      (0x44, 0), (0x45, 0x100000000), (0x46, 0x100000000), (0x41, 0x0120000000)],
      (run 0 p.1 p.2).stands 0 (wordOf p.1 p.2)) ∧
    (run 0 0x40 0x1000000000 queued).stands 0 (wordOf 0x40 0x1000000000) ∧
    queued.queue.filter (fun e => decide ((run 0 0x40 0x1000000000 queued).now ≤ e.tcol)) = [ev0] ∧
    (scan.setCore 0 { queued with wait := .column 14 }).live = true ∧
    (run 0 0x43 0x100000000 { current with g := [(1, 5)] }).stands 0 (wordOf 0x43 0x100000000) ∧
    (∀ q ∈ bankStrips 0, visited.visitOf q 5 ≠ none) ∧
    (∀ q ∈ bankStrips 0, scan.visitOf q 5 = none ∧ scan.freeVisit q ≠ none) ∧
    (visited.stands 0 (wordOf 0x41 0) ∧ current.booked = false ∧ current.cur = some ev0) ∧
    (run 0 0x46 0x100000000 (g1 1)).stands 0 (wordOf 0x46 0x100000000) ∧
    (∀ i : Fin 4, (1 : Nat).testBit i = true → syncing.coreRuns i = true → (syncing.core i).wait = .sync 1) ∧
    syncing.coreRuns 0 = true ∧
    ((booking ev0).now + 16 ≤ ev0.deadline 0 ∧ { ev0 with tcol := 3200004463 }.deadline 0 < (booking ev0).now + 16) ∧
    ((flight 4).fire.parts.filter (fun p => p.bank == 0 && (flight 4).spans p (ev0.fireAt 0))).length = 4 ∧
    ((flight 3).fire.parts.filter (fun p => p.bank == 0 && (flight 3).spans p (ev0.fireAt 0))).length = 3 := by
  simp only [State.stands]
  exact ⟨by decide, sound_ok (by decide +kernel), by decide +kernel⟩

/-- Strip 0 has closed cell 10, and core 4 serves it. -/
def closedCell (x : Core) (op : Nat) : State :=
  let s := run 4 op 0x1000000000 x
  s.setStrip 0 { s.strip 0 with cq := [{ entry := 10, at_ := 0, frame := 0 }], clAt := [(10, 0)] }
def cell10 : Core := { cell := some { entry := 10 } }
/-- Core 4 waits in CPOP as core 5 issues one over the same strip, and a cell held and read in this tick. -/
def waiting4 : State :=
  let s := ((run 5 0x50 0x1000000000).setCore 4 { wait := .cell 1, svc := some 7 }).setFld F.RTL.SVC.SET 7 1
  s.setStrip 0 { s.strip 0 with cq := [{ entry := 10, at_ := 0, frame := 0 }], clAt := [(10, 0)] }
def heldRead : State :=
  ((run 4 0x5E 0 cell10).wrMem (48 * 10 + 36) 0x4000).setStrip 0 { visits := [(0, { visit0 with read := true, readAt := scan.raw })] }

theorem witness_ReticleCellInstructions :
    (waiting4.stands 5 (wordOf 0x50 0x1000000000) ∧ (waiting4.core 4).wait = .cell 1 ∧
      (waiting4.oldest (waiting4.svcEff 4)).map Prod.fst = some 0 ∧ (waiting4.oldest (waiting4.fld F.RTL.SVC.SET 1)).map Prod.fst = some 0 ∧
      (∀ j, 4 ≤ j → j < 4 → (waiting4.core j).wait.isCell = false)) ∧
    ((heldRead.rdMem (48 * 10 + 36)).getLsbD w36Held = true ∧ heldRead.visitOf 0 5 = some 0 ∧ (heldRead.visit 0 0).read = true ∧
      (heldRead.visit 0 0).readAt = heldRead.raw ∧ heldRead.sweepDue = false) ∧ ((closedCell {} 0x50).wf ∧ (closedCell {} 0x50).live = true) ∧
    tileOk ((closedCell {} 0x50).rdTile 10) 10 = true ∧
    (∀ p ∈ [(0x50, (0x1000000000 : BitVec 40)), (0x5A, 0xE100000000), (0x5B, 0x0120000000), (0x59, 0xF000000000),
      (0x5C, 0x12D0000000), (0x5D, 0x0120000000), (0x5E, 0)], (run 4 p.1 p.2).stands 4 (wordOf p.1 p.2)) ∧
    (run 4 0x5E 0 cell10).stands 4 (wordOf 0x5E 0) ∧ (run 4 0x5D 0 cell10).stands 4 (wordOf 0x5D 0) ∧
    ((closedCell {} 0x50).stands 4 (wordOf 0x50 0x1000000000) ∧ regLegalD 0x1000000000 = true ∧
      (closedCell {} 0x50).oldest ((closedCell {} 0x50).fld F.RTL.SVC.SET 0) = some (0, { entry := 10, at_ := 0, frame := 0 }) ∧
      (10 : Word).getLsbD 47 = false ∧ Tab.find? ((closedCell {} 0x50).strip 0).clAt 10 = some 0) ∧
    scan.oldest (scan.fld F.RTL.SVC.SET 0) = none ∧
    (((closedCell { wait := .cell 1, svc := some 7 } 0).core 4).wait = .cell 1 ∧ scan.fld F.RTL.SVC.SET 0 = 7) ∧
    regLegalDA 0xE100000000 = true ∧ (0xF000000000 : BitVec 40).toNat % 2 ^ 27 = 0 ∧ fieldB 0x12D0000000 = 13 ∧
    ((run 4 0x5E 0 cell10).rdMem (48 * 10 + 36)).getLsbD w36Held = false := by
  simp only [State.stands]
  exact ⟨⟨by decide +kernel, by decide +kernel, by decide +kernel, by decide +kernel, by omega⟩, by decide +kernel, sound_ok (by decide),
    tile_passes (by decide +kernel), by decide +kernel⟩

/-! ## Core control, loads and commits -/

/-- An image of one code tile at tile 0, for an Alidade core, its header tile with the check word that R175 gives it. -/
def image : State := { State.with idle [(F.CORE.STAT.STATE, 0, 1)] with mem := [(ssBase, 0x1B7A00010000), (ssBase + 47, 0xc0004fcac8bd)] }

theorem image_ok : image.wf ∧ image.live = true :=
  ⟨⟨by
    have : Memory.wf image.mem = Tab.wf memResetF image.mem := by rw [Memory.wf, memResetF_eq]
    rw [this]; decide +kernel, by decide, by decide⟩, by decide⟩

def loading : State := (image.setCore 0 { base := 1 }).setFld F.CORE.STAT.STATE 1 0
def running : State := (idle.setCore 0 {}).setFld F.CORE.STAT.STATE 2 0
def watched : State := State.with scan [(F.ALD.CTRL.WD, 0, 16000)]

theorem witness_CoresStartLoadStopAndExpire : (image.wf ∧ image.live = true) ∧ (running.wf ∧ running.live = true) ∧
    (idle.holdWith (coreBase 0) 1).getLsbD 0 = true ∧
    (idle.judgeWrite .portA (coreBase 0) (idle.holdWith (coreBase 0) 1) = none ∧ idle.startRefused 0 = false ∧
      (idle.core 0).cell = none ∧ running.startRefused 0 = true ∧
      running.judgeWrite .portA (coreBase 0) (running.holdWith (coreBase 0) 1) = none) ∧
    loading.fld F.CORE.STAT.STATE 0 = 1 ∧
    ((running.holdWith (coreBase 0) 2).getLsbD 1 = true ∧ running.scanning = false ∧ running.coreRuns 0 = true ∧
      (running.core 0).book = none ∧ (running.core 0).wait ≠ .ring ∧
      running.judgeWrite .portA (coreBase 0) (running.holdWith (coreBase 0) 2) = none) ∧
    ((idle.holdWith (coreBase 11) 16).getLsbD 4 = true ∧
      idle.judgeWrite .portA (coreBase 11) (idle.holdWith (coreBase 11) 16) = none) ∧
    ((idle.holdWith (coreBase 11) 64).getLsbD 6 = true ∧
      idle.judgeWrite .portA (coreBase 11) (idle.holdWith (coreBase 11) 64) = none) ∧
    (watched.fld F.ALD.CTRL.WD 0 ≠ 0 ∧ (watched.core 0).wdExp = false ∧
      (watched.core 0).wd + 200000 * (watched.fld F.ALD.CTRL.WD 0 : Int) ≤ watched.now) :=
  ⟨image_ok, sound_ok (by decide), by decide +kernel⟩

/-- The image at tile 0 passes, and one at tile 1, whose header is blank, does not. -/
theorem witness_image_checks : image.fld F.CORE.STAT.STATE 0 = 1 ∧ image.imageErr 0 0 = 0 ∧ loading.imageErr 0 1 ≠ 0 := by
  simp only [State.imageErr, ← okF_eq]
  decide +kernel

def swapping : State := State.with idle [(F.ALD.EPH_STAT.BUSY, 0, 1)]

theorem witness_EphemerisLoadAndCommits : (swapping.wf ∧ swapping.live = true) ∧ Tab.sorted swapping.ephStd = true ∧
    (swapping.judgeWrite .portA 0x1000C20 0x10000 = none ∧ swapping.flag F.ALD.EPH_STAT.BUSY = true ∧
      swapping.flag F.ALD.EPH_STAT.READY = false) ∧
    (idle.judgeWrite .portA 0x1000C20 0x10000 = none ∧ idle.flag F.ALD.EPH_STAT.BUSY = false ∧
      idle.bit F.DEV.CMT_STAT.PEND 0 = false) ∧
    idle.judgeWrite .portA 0x1000010 0x7F = none ∧ idle.judgeWrite .dome 0x1000010 0x7F = none ∧
    (pending.ripe .mirror = true ∨ pending.ripe .firing = true) := ⟨sound_ok (by decide), by decide +kernel⟩

/-! ## Modes, reset, boot, supplies, freeze -/

/-- Armed and ready to scan: locked, in position, EYE_CFG locked, an Ephemeris in force. -/
def ready : State := State.with armed [(F.MIRR.STAT.H_LOCKED, 0, 1), (F.MIRR.STAT.V_INPOS, 0, 1), (F.FIRE.EYE_CFG.LOCK, 0, 1),
  (F.ALD.EPH_STAT.INFORCE, 0, 1), (F.TIME.PLL_STAT.TPLL_LOCK, 0, 1), (F.FIRE.CTRL.BANK_EN, 0, 0)]
def entering : State := State.with ready [(F.DEV.MODE_STAT.BUSY, 0, 1), (F.SAFE.STAT.LOCKSTEP_OK, 0, 1)]
def degrading : State := State.with entering [(F.SAFE.FLT.BRIDGE, 0, 1)]
def safe : State := at_ .safe 4000
/-- An RWL write has been accepted in this tick; two units are latched. -/
def rwlNow : State := { entering with dev := { entering.dev with rwlAt := some entering.raw } }
def latched2 : State := State.with degrading [(F.SAFE.FLT.BRIDGE, 0, 0), (F.SAFE.FLT.SUP_BK, 0, 1), (F.SAFE.FLT.PORT, 0, 1),
  (F.LINK.STAT.FAULT, 0, 1)]
def goodEnv : EntryEnv := { selfTest := true, readback := 0, lsrFollows := true }

theorem witness_ModeRequestsAndEntry : (ready.wf ∧ ready.live = true) ∧ (degrading.wf ∧ degrading.live = true) ∧
    idle.judgeWrite .portA 0x1000002 1 = none ∧
    idle.judgeWrite .portB 0x1000002 2 = none ∧ armed.judgeWrite (.core 0) 0x1000002 3 ≠ none ∧
    armed.judgeWrite .portA 0x1000002 3 = none ∧ scan.judgeWrite .portA 0x1000002 5 = none ∧
    (safe.dev.mode = .safe ∧ safe.fltWord = 0 ∧ (State.with safe [(F.SAFE.FLT.EYE, 0, 1)]).fltWord ≠ 0) ∧
    (locked.flag F.DEV.MODE_STAT.BUSY = false ∧ locked.dev.mode = .idle ∧ locked.axisBroken = false ∧
      (!locked.flag F.TIME.PLL_STAT.TPLL_LOCK || locked.flag F.TIME.PLL_STAT.REF_LOSS) = false) ∧
    (State.with locked [(F.AFE.BR_STAT.BRK, 0, 0xF)]).axisBroken = true ∧
    (armed.armedOk = false ∧ ready.armedOk = true ∧ ready.flag F.FIRE.EYE_CFG.LOCK = true ∧
      ready.flag F.ALD.EPH_STAT.INFORCE = true) ∧
    (entering.dev.mode = .armed ∧ entering.flag F.DEV.MODE_STAT.BUSY = true ∧ entering.onlyLatched = true ∧
      entering.flag F.SAFE.STAT.LOCKSTEP_OK = true ∧ zoneNums.all entering.zoneSound = true ∧ entering.contactsOk = true ∧
      (List.range 24).any (fun d => entering.zoneStrip d && entering.actFlag F.STRIP.CELL_CFG.ZSKIP d) = false ∧
      entering.latchedFault = false) ∧
    degrading.latchedFault = true ∧ degrading.latchedUnits.length ≤ 1 ∧
    entering.dev.rwlAt ≠ some entering.raw ∧ (rwlNow.dev.rwlAt = some rwlNow.raw ∧ rwlNow.dev.mode = .armed) ∧
    (latched2.latchedFault = true ∧ latched2.onlyLatched = true ∧ 1 < latched2.latchedUnits.length ∧
      latched2.entryCheck goodEnv = 0) := ⟨sound_ok (by decide), sound_ok (by decide), by decide +kernel⟩

def inReset : State :=
  { State.reset with aon := 2 * aonMs, dev := { State.reset.dev with inReset := true, por := true } }
def held : State := { State.reset with aon := 8001 * aonMs, dev := { State.reset.dev with pin := some 0 } }

theorem witness_ResetsHoldAndEnd : inReset.wf ∧ (idle.wf ∧ idle.live = true) ∧
    idle.judgeWrite .portA 0x1000005 0x4B5200000001 = none ∧ (0x4B5200000001 : Word).toNat / 2 ^ 32 = 0x4B52 ∧
    (0x4B5200000000 : Word).getLsbD 0 = false ∧ idle.judgeWrite .portA 0x1000005 0x4B5200000000 = none ∧
    held.dev.pin = some 0 ∧ 8000 * aonMs < held.aon - 0 ∧ idle.dev.pin = none ∧
    (inReset.dev.inReset = true ∧ inReset.dev.pin = none ∧ ∀ j < 4, (inReset.rail j).mOk = true ∧
      (inReset.rail j).mSince + aonMs ≤ inReset.aon ∧ (inReset.rail j).bOk = true ∧ (inReset.rail j).onBk = false) ∧
    idle.dev.inReset = false ∧
    (State.reset.live = true ∧ State.reset.dev.boot = .clearing ∧ ∀ p < 3, (State.reset.port p).rxq = []) ∧
    inReset.dev.mode = .boot ∧ inReset.fire.cap = false := by
  refine ⟨⟨?_, ?_, ?_⟩, sound_ok (by decide), by decide +kernel⟩ <;> decide

def booting (b : Boot) : State :=
  { State.reset with dev := { State.reset.dev with boot := b, bootPort := 1 }, regs := [] }
/-- A manifest with a first section of TYPE 0 and a second of TYPE 1, both without tiles. -/
def flash0 : List Word := [0x4B4200010002, 0, 0x100000000000]

theorem witness_BootLoads : ((booting .qspi).wf ∧ (booting .qspi).live = true) ∧
    ((booting .hostWait).judgeWrite .portA 0x1000020 0x10000 = none ∧ (booting .hostWait).fld F.DEV.BOOT_STAT.SEL ≠ 2 ∧
      (booting .hostWait).dev.mode = .boot ∧
      (State.with (booting .hostWait) [(F.DEV.BOOT_STAT.BUSY, 0, 0)]).flag F.DEV.BOOT_STAT.BUSY = false) ∧
    (booting .qspi).dev.boot = .qspi ∧ (booting .hostCheck).dev.boot = .hostCheck ∧ (booting .hostCheck).dev.bootPort < 3 ∧
    (booting .qspi).bootErr (flashImage []) none = some 1 ∧ (booting .qspi).bootErr (flashImage [0x4B4200000000]) none = some 2 ∧
    idle.dev.mode ≠ .boot :=
  ⟨sound_ok (by decide), by decide +kernel⟩

/-- The same manifest with the P-256 public key of d = 0x1234567890ABCDEF1234567890ABCDEF and its ECDSA signature over SHA-256,
made outside the model by integer arithmetic on the curve. -/
def signed0 : List Word := flash0 ++ List.replicate 14 0 ++ [
  0xF9EBE464147C, 0xC102D92324D0, 0x99D927C1A50E, 0x42D57A08A116, 0xFFEC0A29819D, 0x8C6570BAF7D1,
  0x2888902A6A0C, 0x1D67ADD10312, 0x3C859AB69BF8, 0xE9431C938493, 0xD4B7EEE0000,
  0x41D12F76FA7F, 0xA20BB348D362, 0x2AB0A8140DD0, 0x5607E6D17203, 0xD00675D573FB, 0xC1179987F02C,
  0x215AA9991B63, 0x4CA213566F37, 0x105C81A3BF3D, 0xA55436284390, 0xEF016FD50000] ++ List.replicate 9 0

/-- The signed manifest passes the checks; with one bit of its signature changed it fails check 5. -/
theorem witness_boot_image_passes : (booting .qspi).bootErr (flashImage signed0) none = none := by decide +kernel
theorem witness_boot_signature_fails :
    (booting .qspi).bootErr (fun k => if k = 28 then flashImage signed0 28 ^^^ 1 else flashImage signed0 k) none = some 5 := by
  decide +kernel

def frozen : State := { idle with dev := { idle.dev with mode := .frozen, frzDone := true } }
/-- Rail 1 on its backup, its main input back for a second. -/
def backed : State :=
  let s := State.with { scan with aon := 1000 * aonMs } [(F.DEV.SUP_CFG.BK_USE, 0, 0xF), (F.DEV.SUP_CFG.RET, 0, 0)]
  s.setRail 1 { onBk := true, mSince := 999 * aonMs }
def unbacked (m b : Bool) : State := (State.with scan [(F.DEV.SUP_CFG.BK_USE, 0, 0xF)]).setRail 1 { mOk := m, bOk := b }

theorem witness_SuppliesSwitchAndReport : (backed.wf ∧ backed.live = true) ∧ (unbacked true true).dev.por = false ∧
    ((unbacked true true).rail 1).onBk = false ∧ ((unbacked true true).rail 1).bOk = true ∧
    (unbacked true true).bit F.DEV.SUP_CFG.BK_USE 1 = true ∧ (unbacked true true).bit F.DEV.SUP_STAT.BK_FLT 1 = false ∧
    (unbacked true true).bit F.DEV.SUP_STAT.DUAL 1 = false ∧ ((unbacked true false).rail 1).bOk = false ∧
    ((unbacked false true).rail 1).mOk = false ∧ ((backed.rail 1).onBk = true ∧ (backed.rail 1).mOk = true) ∧
    (∀ j < 4, j ≠ 1 → (backed.rail j).onBk = false) ∧
    (backed.rail 1).mSince + max 1 (backed.fld F.DEV.SUP_CFG.RET) * aonMs ≤ backed.aon ∧
    ¬ ((unbacked true true).rail 1).onBk = true ∧ (backed.dev.mode = .scan ∧ backed.onBackup = true) ∧
    (at_ .holdover 5).onBackup = false ∧ (idle.fire.cap = false ∧ idle.onBackup = false) ∧ frozen.live = false ∧
    ((unbacked true false).rail 1).onBk = false ∧ ((unbacked false true).rail 1).onBk = false ∧
    (({ mOk := false, bOk := false, onBk := true, was := some (0, false) } : Rail).was = some (0, false)) :=
  ⟨sound_ok (by decide), by decide +kernel⟩

def freezable : State := State.with idle [(F.DEV.DBG_CFG.FREEZE_EN, 0, 1), (F.DEV.DBG_CFG.PIN_EN, 0, 1)]

theorem witness_FreezeAndTestPort : freezable.wf ∧ frozen.wf ∧ freezable.live = true ∧
    (freezable.flag F.DEV.DBG_CFG.PIN_EN = true ∧ freezable.flag F.DEV.DBG_CFG.FREEZE_EN = true) ∧
    (State.with idle [(F.DEV.DBG_CFG.PIN_EN, 0, 0)]).flag F.DEV.DBG_CFG.PIN_EN = false ∧ freezable.judgeWrite .portA 0x100001A 1 = none ∧
    freezable.judgeWrite .meridian 0x100001A 1 = none ∧ freezable.judgeWrite .portA 0x1000019 (0 ||| 0x100) = none ∧
    frozen.dev.mode = .frozen ∧ frozen.dev.frzDone = true ∧ inMem 0x8BFFFF = true ∧ inMem 0x8C0000 = false ∧
    inMem 0x1000120 = false ∧ blockOf 0x1000121 = some 1 ∧ blockOf 0x1000126 = some 1 ∧ openToTap 0x1000100 = false ∧
    blockOf 0x1000100 = some 1 ∧ inMem 0x1000100 = false ∧ blockOf 0x1000080 = none := by
  refine ⟨(sound_ok (by decide)).1, ⟨?_, ?_, ?_⟩, by decide +kernel⟩ <;> decide

/-! ## Dome -/

def reported : State := { scan with dome := { scan.dome with reports := [(.strip 0, 199999999), (.bridge 0, 199999999)] } }
def acked : State :=
  let s := State.with (at_ .degraded 2500000000) [(F.SAFE.DEG_STAT.ACKED, 0, 1)]
  { s with dome := { s.dome with degAt := 0 } }
def ackEarly : State := { acked with dome := { acked.dome with degAt := acked.now - 100000 } }

theorem witness_FaultsReact : (reported.wf ∧ reported.live = true) ∧ (acked.wf ∧ acked.live = true) ∧
    reported.dome.reports = [(.strip 0, 199999999), (.bridge 0, 199999999)] ∧ reported.safeClass (.strip 0) = false ∧
    reported.safeClass .eye = true ∧ reported.unitOf (.strip 0) = some 0 ∧ reported.scanning = true ∧
    idle.judgeWrite .portA 0x1000802 1 = none ∧ idle.fltWord = 0 ∧
    (acked.dev.mode = .degraded ∧ acked.flag F.SAFE.DEG_STAT.ACKED = true ∧ acked.fltWord = 0) ∧
    idle.judgeWrite .portA 0x1000801 0xFFFFFFFF = none ∧ idle.judgeWrite .portA 0x1000808 (0 ||| 1) = none ∧
    acked.dome.degAt + (clampN 1 100 (acked.fld F.SAFE.DEG_CFG.TMAX) : Nat) * (100 * ms) ≤ acked.now ∧
    (ackEarly.dev.mode = .degraded ∧ ackEarly.flag F.SAFE.DEG_STAT.ACKED = true ∧ ackEarly.tmaxDue = false ∧
      ackEarly.dome.reports = [] ∧ ∀ F ∈ confinedFlts, ackEarly.flag F = false) ∧
    (ackEarly.judgeWrite .portA 0x1000802 1 = none ∧ acked.judgeWrite .portA 0x1000802 1 = none) ∧
    (State.with ackEarly [(F.SAFE.FLT.SOUT, 0, 1)]).fltWord ≠ 0 ∧ confinedFlts.any (State.with ackEarly [(F.SAFE.FLT.SOUT, 0, 1)]).active = false :=
  ⟨sound_ok (by decide), sound_ok (by decide), by decide +kernel⟩

/-- A verdict due, zone 0 enabled with a close outstanding, and channel 0 in a slot that has ended. -/
def judged : State :=
  let s := State.with scan [(F.SAFE.ZONE_A.EN, 0, 1)]
  { s with dome := { s.dome with verdicts := [(3, s.now)], closes := [(10, 3)], hits := [(0, 3)], gap := some 0, gapOn := true } }
def lateFrame : State := at_ .scan 1000000000
/-- Both outputs on; the slot of channel 0 or 1 begins; half-periods due and not yet. -/
def outputs (raw slotN halfN : Nat) : State :=
  let s := State.with (at_ .scan raw) [(F.SAFE.SOUT_STAT.ON, 0, 3), (F.SAFE.STAT.LOCKSTEP_OK, 0, 1), (F.SAFE.SF2_CFG.EN, 0, 1)]
  { s with dome := { s.dome with levels := 5, slotN := slotN, halfN := halfN } }

theorem witness_ZonesAndOutputs : (judged.wf ∧ judged.live = true) ∧ judged.dome.verdicts = [(3, judged.now)] ∧
    scan.dome.verdicts = [] ∧ judged.flag F.SAFE.ZONE_A.EN 0 = true ∧ judged.flag F.SAFE.ZONE_A.EN 1 = false ∧
    (lateFrame.scanning = true ∧
      lateFrame.dome.lastB + (max 1 (lateFrame.fld F.SAFE.SF2_CFG.FRAME_MAX) : Nat) * 2000000 ≤ lateFrame.now) ∧
    judged.dome.gap = some 0 ∧ judged.dome.gapEnd ≤ judged.now ∧ judged.dome.gapOn = true ∧
    ((outputs 1250 0 2).dome.slotN ≤ (outputs 1250 0 2).slotNow ∧ (outputs 1250 0 2).slotNow % 4 = 0 ∧
      (outputs 1250 0 2).now < 300 * us ∧ (outputs 1250 0 2).soutOn 0 = true) ∧ (outputs 31250010 0 0).slotNow % 4 = 1 ∧
    ¬ (outputs 1250 1 0).dome.slotN ≤ (outputs 1250 1 0).slotNow ∧ (outputs 1250 0 2).now < (outputs 1250 0 2).dome.halfN * (10 * us) ∧
    (((outputs 1250 0 0).dome.halfN : Int) * (10 * us) ≤ (outputs 1250 0 0).now) ∧ idle.soutOn 0 = false :=
  ⟨sound_ok (by decide), by decide +kernel⟩

def contacts : State :=
  let s := State.with scan [(F.SAFE.SIN_CFG.FUNC, 0, 1)]
  { s with dome := { s.dome with sin := [(0, { open_ := false, fails := 1 })], disc := [(0, 0)] } }

theorem witness_ContactsAndPulses : (contacts.wf ∧ contacts.live = true) ∧ Tab.sorted contacts.dome.disc = true ∧
    (contacts.fld F.SAFE.SIN_CFG.FUNC 0 0 != 0) = true ∧ (contacts.contact 0).open_ = false ∧ (contacts.contact 0).fails ≠ 0 ∧
    ((0 : Int) + (max 1 (contacts.fld F.SAFE.SIN_CFG.DISC_T) : Nat) * (10 * ms) < contacts.now) ∧
    (let s := { contacts with raw := 6250000 + 187500 }
     s.dome.tpN ≤ s.tpGap ∧ s.tpGap % 2 = 1 ∧ (s.tpGap * (5 * ms) + 150 * us : Int) ≤ s.now) ∧
    (let s := { contacts with raw := 12500000 + 187499 }
     s.tpGap % 2 = 0 ∧ ¬ (s.tpGap * (5 * ms) + 150 * us : Int) ≤ s.now) :=
  ⟨sound_ok (by decide), by decide +kernel⟩

/-! ## Gloelink -/

def train1 : List Word := [0x0E0002000000, 0x000000000002, 0x000000000000]
def flow1 : List Word := [0x0D0001004040, 0]
def training : State :=
  let s := State.with idle [(F.LINK.STAT.STATE, 0, 1), (F.LINK.STAT.STATE, 1, 2), (F.LINK.FLT_CFG.REQ, 0, 1)]
  { s with net := { s.net with ports := [(0, { lock := true, good := 7, downAt := -40000000000 })] } }

/-- Runs of blocks: headers alone; one frame scrambled from a lane that has sent zeros; the same with one bit of a body block flipped. -/
def headers (n h : Nat) : LineRun := ⟨0, List.replicate n (BitVec.ofNat 66 (h * 2 ^ 64))⟩
def onLine (av : Bool) (ack : Nat) (nak : Bool) (f : List Word) : LineRun := ⟨0, lineBlocks 0 (frameBlocks (tagMake av ack nak) f)⟩
def onPlain (rx : LineRun) : List (Bool × Payload) := runReceived rx false
def flipped : LineRun := ⟨0, ((onLine false 0 false train1).blocks).set 2 (((onLine false 0 false train1).blocks.getD 2 0) ^^^ 1)⟩

theorem witness_runs : runLock (headers 64 1) = some false ∧ runLock (headers 64 2) = some true ∧ runLock (headers 63 1) = none ∧
    runBad (headers 16 0) false = 16 ∧ runBad (headers 15 0) false = 15 ∧
    (heard (onPlain (onLine true 126 true train1))).any blkNak = true ∧
    (heard (onPlain (onLine true 126 false train1))).map blkAck = [126, 126, 126] ∧
    (heard (onPlain (onLine true 126 false train1))).all blkAv = true ∧ badBlocks (onPlain (onLine true 126 false train1)) = 0 ∧
    badBlocks (onPlain (headers 1 3)) = 1 ∧
    frameShape (onPlain (onLine false 0 false train1)) = true ∧ frameCrcOk (onPlain (onLine false 0 false train1)) = true ∧
    frameShape (onPlain flipped) = true ∧ frameCrcOk (onPlain flipped) = false := by decide +kernel

theorem witness_PortsTrainAndFall : (training.wf ∧ training.live = true) ∧ (training.port 0).lock = true ∧
    (training.port 1).lock = false ∧ frType train1 = 0x0E ∧ frameOk train1 = true ∧ frameOk [0x0E0002000001, 2, 0] = false ∧
    training.fld F.LINK.STAT.STATE 0 = 1 ∧ training.fld F.LINK.STAT.STATE 1 = 2 ∧
    (min 8 ((training.port 0).good + 1) = 8 ∧ (train1.getD 1 0).getLsbD 1 = true) ∧ frType flow1 = 0x0D ∧ frameOk flow1 = true ∧
    training.judgeWrite .portA 0x1000900 (training.holdWith 0x1000900 2) = none ∧ training.judgeWrite .portB 0x1000900 1 = none ∧
    training.flag F.LINK.FLT_CFG.REQ 0 = true ∧ training.flag F.LINK.STAT.FAULT 0 = false ∧
    (training.port 0).downAt + (max 1 (training.fld F.LINK.FLT_CFG.DOWN_T 0) : Nat) * ms ≤ training.now ∧
    training.judgeWrite .portA 0x1000902 0x100 = none := ⟨sound_ok (by decide), by decide +kernel⟩

/-- Port A up, two frames unacknowledged, a header of bank 1 to be sent. -/
def linked : State :=
  let s := State.with scan [(F.LINK.STAT.STATE, 0, 3), (F.LINK.CREDIT.P_BUF0, 0, 64), (F.LINK.CREDIT.P_BUF1, 0, 64),
    (F.BANK.RING_CFG.NTILE, 1, 4), (F.BANK.RING_CFG.ROUTE, 1, 1)]
  { s with
    net := { s.net with ports := [(0, { unacked := [{ seq := 126 }, { seq := 127 }], tmo := 7 })] }
    out := { s.out with rings := [(1, { head := 4, slots := [⟨0, true, 0⟩], sent := [(0, 0)], acked := [(0, 0)] })] } }

theorem witness_RetryReleasesAndReplays : (linked.wf ∧ linked.live = true) ∧ linked.linkUp 0 = true ∧
    (linked.port 0).unacked ≠ [] ∧ ((127 : Nat) + 1 + 128 - 126) % 128 = 2 ∧ (linked.port 0).oldAt + 20 * us ≤ linked.now ∧
    8 ≤ (linked.port 0).tmo + 1 ∧ linked.fld F.LINK.STAT.STATE 1 = 0 ∧ linked.fld F.LINK.STAT.STATE 0 ≠ 0 ∧
    (wellFormedOn 0 train1 = true ∧ wellFormedOn 0 [0] = false ∧ reqType (frType [0]) = false) ∧
    (linked.streamReady 1 0 = true ∧ linked.canSend 0 1 = true) ∧ linked.streamReady 0 0 = false :=
  ⟨sound_ok (by decide), by decide +kernel⟩

/-- Port A up in a device whose store is cleared, and a read of one register in sequence. -/
def hostUp : State := State.with idle [(F.LINK.STAT.STATE, 0, 3), (F.LINK.CREDIT.P_BUF0, 0, 64)]
def regRd1 : List Word := [0x010001010000, 0x1000001]
def clearing : State := State.with State.reset [(F.LINK.STAT.STATE, 0, 3)]

theorem witness_RequestsExecuteOnceAndAnswer : (hostUp.wf ∧ hostUp.live = true) ∧ (clearing.wf ∧ clearing.live = true) ∧
    hostUp.chainPos < 4 ∧ hostUp.linkUp 0 = true ∧ frType regRd1 = 1 ∧ frameOk regRd1 = true ∧ frHop regRd1 = hostUp.chainPos ∧
    ((hostUp.port 0).rxSeq + 128 - frSeq regRd1) % 128 = 0 ∧ hostUp.dev.boot ≠ .clearing ∧ clearing.dev.boot = .clearing ∧
    ((hostUp.port 0).rxSeq + 128 - frSeq [0x018001010000]) % 128 = 64 ∧
    64 < ((hostUp.port 0).rxSeq + 128 - frSeq [0x017E01010000]) % 128 ∧
    (wellFormedOn 0 [0x010001010000] = false ∧ reqType (frType [0x010001010000]) = true) ∧
    hostUp.chainPos < frHop [0x010041010000, 0] := ⟨sound_ok (by decide), sound_ok (by decide), by decide +kernel⟩

def owned : State :=
  { State.with idle [(F.LINK.STAT.STATE, 2, 3)] with net := { idle.net with sems := [(31, { owner := 1, wait := [1] })] } }

theorem witness_ChainAndSemaphores : (owned.wf ∧ owned.live = true) ∧
    (idle.sem 31).owner = 0 ∧ (owned.sem 31).owner = accCode .portA ∧ (owned.sem 31).owner ≠ accCode .portB ∧
    owned.judgeWrite .portA 0x1000A9F (0 ||| 2) = none ∧ owned.judgeWrite .portB 0x1000A9F 1 = none ∧
    (owned.linkUp 0 = false ∧ (owned.port 0).downAt + (max 1 (owned.fld F.LINK.FLT_CFG.SEM_HOLD 0) : Nat) * ms ≤
      (owned.port 0).downAt + 65535 * ms) ∧
    owned.judgeWrite .portA 0x1000A7B 1 = none ∧ owned.judgeWrite (.core 3) 0x1000A03 2 = none ∧
    (frType [0x0F0001000000, 1] = 0x0F ∧ frameOk [0x0F0001000000, 1] = true ∧ owned.linkUp 2 = true ∧
      frSeq [0x0F0001000000, 1] = (owned.port 2).rxSeq) ∧
    (upType (frType [0x050000000000]) = true ∧ lenOk [0x050000000000] = true) := ⟨sound_ok (by decide), by decide +kernel⟩

/-! ## Background and the whole machine -/

def scrubbing (k : Nat) (at_ : Inst) : State :=
  { scan with bg := { scan.bg with almAt := some 0, scrubK := k, retry := [(10, at_, 3)] } }

theorem witness_ScrubbingChecksEveryTile : ((scrubbing 0 0).wf ∧ (scrubbing 0 0).live = true) ∧
    ((scrubbing 0 0).bg.almAt.isSome = true ∧
      (scrubbing 0 0).bg.scrubAt + (0 : Nat) * (scrubbing 0 0).passLen / 16384 ≤ (scrubbing 0 0).now) ∧
    (scrubbing 1 0).bg.almAt.isSome = true ∧ scan.bg.retry = [] ∧ (scrubbing 0 0).bg.retry = [(10, 0, 3)] ∧ 10 < 49152 ∧
    (0 : Inst) ≤ (scrubbing 0 0).now ∧ (scrubbing 0 0).tileHeld 0 10 = false ∧ fresh0.tileHeld 0 10 = true :=
  ⟨sound_ok (by decide), by decide +kernel⟩

def ageing : State :=
  let s := State.with { (at_ .scan 2500000000) with bg := { scan.bg with almAt := some 0 } }
    [(F.BGND.AGE_CFG.AUTO, 0, 1), (F.MON.AVG_CFG.EN, 0, 1), (F.BGND.AGE_CFG.IVL, 0, 1), (F.MIRR.STAT.H_LOCKED, 0, 1),
      (F.BGND.HOT_CFG.EN, 0, 1), (F.STRIP.RX_STAT.POWERED, 0, 1), (F.STRIP.BIAS_CFG.TRACK, 0, 1)]
  { s with mon := { s.mon with ageN := 1, ageSum := 1000 } }

/-- A hot-SPAD window of strip 0 that many units after bank 0's last part left flight, n windows counted. -/
def hotWin (t : Int) (n : Nat) : State :=
  { ageing with bg := { ageing.bg with flightEnd := [(0, (ageing.now - t, 0))], hotWin := [(0, n)] } }

theorem witness_BackgroundMeasuresAndRecords : (ageing.wf ∧ ageing.live = true) ∧ ageing.chainPos < 4 ∧
    (ageing.flag F.STRIP.RX_STAT.POWERED 0 = true ∧ (ageing.strip 0).vaFirst = false ∧
      ageing.flag F.STRIP.BIAS_CFG.TRACK 0 = true) ∧
    (ageing.flag F.BGND.HOT_CFG.EN = true ∧ ageing.flag F.MIRR.STAT.H_LOCKED = true ∧
      Tab.find? ageing.bg.hotSweep 0 = none ∧ ageing.inFlight 0 = 0) ∧
    ((hotWin 2000000 0).hotWindow 0 = some 0 ∧ (hotWin 500000 0).hotWindow 0 = some 0 ∧ (hotWin 499999 0).hotWindow 0 = none ∧
      Tab.get (fun _ => 0) (hotWin 2000000 63).bg.hotWin 0 + 1 = 64) ∧
    (ageing.bg.almAt = some 0 ∧ ageing.bg.ageAt + (max 1 (ageing.fld F.BGND.AGE_CFG.IVL) : Nat) * 1000 * ms ≤ ageing.now ∧
      ageing.flag F.BGND.AGE_CFG.AUTO = true ∧ ageing.flag F.MON.AVG_CFG.EN = true ∧ ageing.mon.ageN ≠ 0 ∧
      ageing.mon.ageSum < 65535 * ageing.mon.ageN) ∧ ageing.bg.capNow = false ∧
    idle.judgeWrite .portA 0x1000B07 (idle.holdWith 0x1000B07 2) = none ∧ idle.bg.almAt = none ∧
    (0 : Int) + (max 1 (ageing.fld F.BGND.ALM_CFG.IVL) : Nat) * 10 * ms ≤ ageing.now :=
  ⟨sound_ok (by decide), by decide +kernel⟩

theorem witness_StepRunsTheFrontCommand : idle.pending = [] ∧ idle.live = true ∧ idle.lastTick = false ∧
    frozen.live = false := by decide

theorem witness_EveryStepKeepsTheState : idle.wf ∧ ∃ t, step idle = .next t :=
  ⟨(sound_ok (by decide)).1, _, rfl⟩

theorem witness_LsrEnRisesOnlyByTheDome : ∃ t, exec .idcode firing = .next t ∧ t.fire.lsrEn = true := ⟨_, rfl, by decide⟩

theorem witness_StoppedClocksTakeNoCommand : frozen.live = false ∧ alwaysOn .lsrEnRaise = false := by decide

theorem witness_RwlWritesAreJudgedByTheirValue : scan.live = true ∧ scan.scanning = true ∧
    blockOf 0x1000220 = some 2 ∧ scan.guarded .portA 2 0x1000220 1 = false ∧
    (∃ p ∈ fldsAt 0x1000220, p.1.acc = .rwl ∧ (1 : Word).toNat / 2 ^ p.1.low p.2.2 % p.1.span ≠ scan.fld p.1 p.2.1 p.2.2) ∧
    wrsAllowed 0 8 0x1000A00 = true := by decide +kernel

theorem witness_RegisterWritesFollowTheAccessCodes : (idle.wf ∧ idle.live = true) ∧
    blockOf 0x100021B = some 2 ∧ writeActs 0x100021B = false ∧ idle.judgeWrite .portA 0x100021B 0xFFFF = none :=
  ⟨sound_ok (by decide), by decide +kernel⟩


/-! ## Worked examples of the spec

Expected values are those the named section prints. -/

/-- What a host on port A reads at an address. -/
def rd (s : State) (a : Nat) : Option Nat :=
  match s.regRead .portA a with
  | .ok p => some p.1.toNat
  | .error _ => none

def nxt (o : Out) : State := match o with | .next t => t | _ => State.reset

/-! spec/01 "One shot, timed", spec/03 "SEGMASK", spec/02 R53 and the spread example -/

theorem test_cell_of_the_signal_chain : cellTile 15 512 0 = 31744 ∧ tileBase 31744 = 1523712 := by decide
theorem test_segmask_frame : segFrame 2 0xFFF 0 = 0xEFFF37 := by decide +kernel

def slewing : State :=
  let s := State.with (at_ .idle 1300000000) [(F.TIME.PPS_CFG.RATE, 0, 200), (F.TIME.PPS_CFG.MODE, 0, 2)]
  ({ s with clk := { s.clk with timeRun := true } }.copyGroup .time).ppsAccept 20000064000

theorem test_slew_correction : slewing.fld F.TIME.PPS_ERR.ERR = 0xFA00 ∧ slewing.clk.slewLeft = 4000 ∧
    slewing.clk.slewIvl = 312421 ∧ slewing.clk.slewDrop = true := by decide +kernel

def spread794 : State := State.with idle [(F.TIME.SSC_SEG.LEN, 0, 794), (F.TIME.SSC_SEG.END_PPM, 0, 5000),
  (F.TIME.SSC_SEG.LEN, 1, 794)]
theorem test_spread_table : spread794.sscTableOk 2 = true ∧ rd spread794 0x1000110 = some 0x31A1388 ∧
    rd spread794 0x1000111 = some 0x31A0000 := by decide +kernel

/-! spec/03 "governor sizing" -/

def governor : State :=
  let s := (State.with (at_ .scan 200000038) [(F.FIRE.GOV_LIM.CEIL, 0, 6000), (F.FIRE.GOV_CFG.REFILL, 0, 8000),
    (F.FIRE.GOV_CFG.COST, 0, 120)]).copyGroup .firing
  { s with fire := { s.fire with budget := 1200 * 20000, budgetAt := 3200000000 } }
theorem test_governor_sizing : governor.budgetNow = 28864000 ∧
    governor.partCost { bank := 3, mask := 4095, fmask := 4095 } = 1440 := by decide +kernel

/-! spec/04 "a pulse that fails its mask" -/

def monitor1 : State := State.with scan [(F.MON.ENERGY_CFG.GAIN, 0, 12000), (F.MON.ENERGY_CFG.INT_LEN, 0, 32)]
theorem test_pulse_energy : monitor1.energyOf ([40, 41, 40, 41] ++ [4380] ++ List.replicate 31 0) = 567 := by decide +kernel
theorem test_mask_sample : firstViolation (List.replicate 64 (0, 800)) ((List.replicate 64 100).set 11 812) =
    some (11, true) := by decide
def record7 : State :=
  State.with { idle with mon := { idle.mon with pre := 1024, armTick := -5000 } } [(F.MON.CAP_STAT.RECS, 0, 7)]
theorem test_capture_header :
    let h := record7.capHeader { sample := 14, cond := 6, owner := 1, banks := 4, frozen := true, vsamp := 11, above := true }
    h.getD 0 0 = 0x000700009640 ∧ h.getD 2 0 = 0x100004000400 ∧ h.getD 4 0 = 0x4B := by decide +kernel

/-! spec/06 "vertical bridge with a temperature term": 722,222.3 LSB -/

def bridge2 : State := (State.with idle [(F.AFE.POLY.C, 39, 0x58E38E800000), (F.AFE.POLY.C, 40, 0x0E904538EF35)]).copyGroup .frontEnd
theorem test_bridge_polynomial : bridge2.polyAt 2 1000000 4000 / 2 ^ 167 = 722222 := by decide +kernel

/-! spec/07 "a very-near return" -/

def near715 : State :=
  let s := State.with idle [(F.STRIP.PLACE.KV, 22, 65536 - 6008), (F.MIRR.V_POS.P_MEAS, 0, 16777216 - 186414),
    (F.STRIP.PLACE.V_R0, 22, 1344), (F.STRIP.PLACE.V_R1, 22, 1365), (F.CHAN.CAL.OFFS, 715, 35)]
  (((s.setFld F.CHAN.PH1.PH 61 715 1).setFld F.STRIP.START_TRIM1.PH 2 22 2).setFld F.STRIP.BAND_CAL.BOFFS 480 22 3).setFld
    F.STRIP.BAND_CAL.DU 9 22 3
theorem test_placement : near715.placeMp 22 28 0 3 = (37, 86) := by decide +kernel
theorem test_corrected_time : near715.tau 22 11 201 122 = 744 ∧ near715.gateOk 22 3 744 = true := by decide +kernel
theorem test_receiver_registers : rd near715 0x1002587 = some 0xE88805550540 ∧ rd near715 0x100258B = some 0x9000001E0 ∧
    rd near715 0x1002585 = some 0x0A0040010141 ∧ rd near715 0x1002586 = some 0x100 ∧ rd near715 0x1002584 = some 0x2000 ∧
    rd near715 0x1010B2D = some 0xF40 := by decide +kernel
theorem test_coincidence :
    coincidence ([4900, 5200, 10044, 10610, 11900, 12300].map (evKey · 0)) 0 2 800 = some (evKey 4900 0, evKey 5200 0) ∧
    coincidence ([10044, 10610, 11900, 12300].map (evKey · 0)) (evKey 8100 0) 2 800 = some (evKey 10044 0, evKey 10610 0) ∧
    evInst 10044 = 201 := by decide

/-! spec/08 "a starved near-field cell"; the coarse bin of τ 5,112 is 1 by R181, where the example says 2 (log entry 12) -/

def starvedTile : List Word := (List.replicate 41 (0 : Word)) ++ [0x800000000070] ++ List.replicate 6 0
def starvedBins : List Word :=
  [5112, 5130, 5130, 5130, 5130, 5130, 5130, 5160].foldl (fun w t => (binInto w 320 t).1) starvedTile
theorem test_starved_cell_bins : starvedBins.getD 11 0 = 0x001000000000 ∧ starvedBins.getD 12 0 = 0x1006 ∧
    bits (starvedBins.getD 24 0) 35 24 = 7 ∧ bits (starvedBins.getD 24 0) 23 12 = 1 := by decide +kernel
theorem test_starved_cell_entry : cellTile 22 300 1 = 0xB259 ∧
    closeEntry 0xB259 0x070800000013 0x270003000 0x01230000D000 false = 0x40700123B259 := by decide +kernel
theorem test_band_gate : [1503, 1504, 6608, 6609].map (idle.gateOk 22 2) = [false, true, true, false] ∧
    [25407, 25408, 5200].map (idle.gateOk 22 0) = [false, true, false] := by decide +kernel

/-! spec/09 "the cell of the signal chain" and spec/11 "cell (512, 30) on RTL5" -/

def rtl5Tile : List Word := (List.range 48).map fun i =>
  if i = 13 then 0x002008004000 else if 24 ≤ i ∧ i < 32 then 0x00C00C00C00C else if i = 32 then 0x300000000000
  else if i = 37 then 0x00F000000000 else if i = 38 then 0x04DC60002801 else if i = 41 then 0x814002800500 else 0
def rtl5 : Core := ({ g := [(6, 0xA00), (7, 32), (8, 0x4CD), (9, 0x30030840012C), (10, 0x0A00000004CD), (12, 0x80000000000F),
  (13, 0x30030840012C), (14, 0x177002040800), (15, 0x40030A050000)] } : Core).putB 0 rtl5Tile
def afterBgnd : State := nxt (execBgnd 9 0x2600000000 (run 9 0x5A 0x2600000000 rtl5))
def afterPile : State := nxt (execPile 9 0x0780000000 (run 9 0x5B 0x0780000000 rtl5))
def afterPeak : State := nxt (execPeak 9 0xBA90000000 (run 9 0x59 0xBA90000000 { afterPile.core 9 with pc := 0 }))
def afterCoarse : State := nxt (execPeak 9 0xBA98000000 (run 9 0x59 0xBA98000000
  { (afterPeak.core 9).wr 10 0x0A00000C0000 with pc := 0 }))
def afterOcc : State := nxt (execOcc 9 0xBCD0000000 (run 9 0x5C 0xBCD0000000 { afterCoarse.core 9 with pc := 0 }))

theorem test_rtl5_floor : (afterBgnd.core 9).rd 2 = 0x60 ∧ (afterBgnd.core 9).rd 3 = 0xF := by decide +kernel
theorem test_rtl5_pile_up : (afterPile.core 9).rdB 13 = 0x003009004000 := by decide +kernel
theorem test_rtl5_peak : (afterPeak.core 9).rd 11 = 1 ∧ (afterPeak.core 9).rdB 64 = 0x04E233FC3600 ∧
    (afterPeak.core 9).rdB 65 = 0x0000000FF199 := by decide +kernel
theorem test_rtl5_occulter : (afterCoarse.core 9).rd 11 = 1 ∧ (afterOcc.core 9).rdB 64 = 0x04E230550000 ∧
    (afterOcc.core 9).rdB 65 = 0x000000007F07 ∧ (afterOcc.core 9).rdB 37 = 0x00F000000000 ∧
    (afterOcc.core 9).rdB 38 = 0x04E230552901 ∧ (afterOcc.core 9).rdB 41 = 0x814182830506 := by decide +kernel

def sec100 : State := at_ .scan 125500002600
theorem test_point_record : sec100.fillRec 2 { tile := 31744, tpt := 16 * 125500002550 } (16 * 125490000000) false
    (0x04E230550000, 0x000000007F07) = (0x04E23055801E, 0x98A076007F07) := by decide +kernel
theorem test_header_base : (sec100.headerWords 2 0 (16 * 125490000000)).getD 1 0 = 0x00321D34CE80 := by decide +kernel

/-! spec/13 "from IDLE to the first Survey frame": MODE_STAT without ARMED_OK -/

theorem test_mode_status : rd (State.with armed [(F.DEV.MODE_STAT.SEQ, 0, 2)]) 0x1000001 = some 0x000200000002 ∧
    rd (State.with scan [(F.DEV.MODE_STAT.SEQ, 0, 3)]) 0x1000001 = some 0x000300000003 := by decide +kernel

/-! spec/14 "turn-assist zone" -/

def turnAssist : State := State.with idle [(F.SAFE.ZONE_A.EN, 0, 1), (F.SAFE.ZONE_A.C1, 0, 255), (F.SAFE.ZONE_A.R0, 0, 24),
  (F.SAFE.ZONE_A.R1, 0, 47), (F.SAFE.ZONE_A.CONF_MIN, 0, 32), (F.SAFE.ZONE_B.RMIN, 0, 300), (F.SAFE.ZONE_B.RMAX, 0, 3500),
  (F.SAFE.ZONE_C.OUT, 0, 1), (F.SAFE.ZONE_C.MIN_SHOTS, 0, 6)]
theorem test_zone : turnAssist.zoneHit 0 8 (0x0073A0C81E1E, 0x5A00) = true ∧
    turnAssist.zoneHit 0 8 (0x0012B0C81E1E, 0x5A00) = false ∧ rd turnAssist 0x1000820 = some 0x3FC00BD82001 ∧
    rd turnAssist 0x1000821 = some 0xDAC00012C ∧ rd turnAssist 0x1000822 = some 0x106 := by decide +kernel

/-! spec/15: a stamp, and "reading a fault register through the chain" -/

def mailed : State := ((State.with idle [(F.MBX.CNT.SEQ, 3, 0x40)]).mbxPlace 3 (coreCode 9) [5, 6, 7]).1
theorem test_mail_stamp : (mailed.mbx 3).msg = [0x1D0041000005, 6, 7] ∧ rd mailed 0x1000A18 = some 0x1D0041000103 := by
  decide +kernel

def chained : State :=
  let s := State.with idle [(F.LINK.STAT.STATE, 0, 3), (F.LINK.CREDIT.P_BUF0, 0, 64), (F.LINK.CREDIT.P_BUF1, 0, 64),
    (F.LINK.STAT.STATE, 2, 3)]
  { s with net := { s.net with ports := [(0, { (s.port 0) with txSeq := 17 })], below := 3 } }
theorem test_chained_response :
    ((nxt (execUpstreamFrameForward [0x0500412A0000, 0x100] chained)).port 0).unacked.map (·.words) =
      [[0x0522412A0000, 0x100]] := by decide +kernel

/-! spec/17 "adding port B to a bank's stream while scanning" -/

def streaming : State :=
  let s := State.with scan [(F.LINK.STAT.STATE, 0, 3), (F.LINK.CREDIT.P_BUF0, 0, 64), (F.LINK.CREDIT.P_BUF1, 0, 64)]
  { s with net := { s.net with ports := [(0, { (s.port 0) with rxSeq := 9, txSeq := 20 })] } }
def widened : State := nxt (execRegWr 0 [0x021202110000, 0x1001040, 0x3A0002000203] streaming)
def resized : State := nxt (execRegWr 0 [0x021202110000, 0x1001040, 0x3A0004000203] streaming)

theorem test_route_write : rd streaming 0x1001040 = some 0x3A0002000201 ∧
    (widened.port 0).unacked.map (·.words) = [[0x052800110000]] ∧ rd widened 0x1001040 = some 0x3A0002000203 ∧
    rd (nxt (execCommitGo .portA 8 widened)) 0x1000011 = some 8 := by decide +kernel
theorem test_size_write_refused : (resized.port 0).unacked.map (·.words) = [[0x062801110200, 0x1001040]] ∧
    rd resized 0x1001040 = some 0x3A0002000201 := by decide +kernel

/-! spec/16 "one ageing step" -/

def ageing567 : State := State.with scan [(F.BGND.AGE_STAT.E_REF, 0, 567), (F.BGND.AGE_STAT.E_MEAN, 0, 552), (F.BGND.AGE_CFG.AUTO, 0, 1)]
theorem test_ageing_step : (ageing567.ageJudge 552).fld F.FIRE.PULSE_CFG.WIDTH = 61 ∧
    (ageing567.ageJudge 556).fld F.FIRE.PULSE_CFG.WIDTH = 60 ∧ (ageing567.ageJudge 552).bit F.DEV.CMT_STAT.PEND 0 = true ∧
    rd ageing567 0x1000B07 = some 0x1F50281400A1 ∧ rd ageing567 0x1000B08 = some 0x023702280000 := by decide +kernel

theorem witness_EveryCommandGoesOn : idle.wf ∧ ({ idle with pending := [.pllLock .tpll 0] } : State).pending ≠ [] :=
  ⟨(sound_ok (by decide)).1, by decide⟩
end Sys2Proof.Tests
end

section
/-!
SUPPORT. Bits of registers read back, and what a report to the Dome and a port entering TRAIN leave alone.
-/
namespace Sys2Proof.Machine

/-! ## One-bit fields -/

/-- A held field depends on the register table and the fuses only. -/
theorem State.fld_congr {s t : State} {F : Fld} {i j : Nat} (hf : t.fuses = s.fuses)
    (hr : Tab.find? t.regs (F.key i j) = Tab.find? s.regs (F.key i j)) : t.fld F i j = s.fld F i j := by
  simp only [State.fld, Tab.get, hf, hr]

theorem State.flag_congr {s t : State} {F : Fld} {i j : Nat} (hf : t.fuses = s.fuses)
    (hr : Tab.find? t.regs (F.key i j) = Tab.find? s.regs (F.key i j)) : t.flag F i j = s.flag F i j := by
  simp only [State.flag, State.fld_congr hf hr]

@[simp] theorem State.setBit_regs (s : State) (F : Fld) (b : Bool) (i j : Nat) :
    (s.setBit F b i j).regs = (s.setFld F (if b then 1 else 0) i j).regs := by rw [State.setBit_eq]

theorem State.sorted_setBit {s : State} (h : Tab.sorted s.regs = true) (F : Fld) (b : Bool) (i j : Nat) :
    Tab.sorted (s.setBit F b i j).regs = true := by
  rw [State.setBit_regs]; exact State.sorted_setFld h F _ i j

theorem State.find?_setBit_ne (s : State) (F : Fld) (b : Bool) (i j : Nat) {k : Nat} (h : k ≠ F.key i j) :
    Tab.find? (s.setBit F b i j).regs k = Tab.find? s.regs k := by
  rw [State.setBit_regs]; exact State.find?_setFld_ne s F _ i j h

/-- A bit written reads back. -/
theorem State.flag_setBit_same {s : State} (h : Tab.sorted s.regs = true) {F : Fld} (hF : 1 < F.span) (b : Bool)
    (i j : Nat) : (s.setBit F b i j).flag F i j = b := by
  have hread : (s.setBit F b i j).fld F i j = (if b then 1 else 0) % F.span := by
    rw [State.setBit_eq]; exact State.fld_setFld_same h F _ i j
  rw [State.flag, hread]
  cases b
  · simp
  · simp [Nat.mod_eq_of_lt hF]

/-- A bit written leaves every other bit alone. -/
theorem State.flag_setBit_ne (s : State) {F G : Fld} (b : Bool) {i j k l : Nat} (h : G.key k l ≠ F.key i j) :
    (s.setBit F b i j).flag G k l = s.flag G k l :=
  State.flag_congr (State.setBit_fuses s F b i j) (State.find?_setBit_ne s F b i j h)

/-- A write of a bit changes the registers and what `hot` remembers of them, nothing else. -/
theorem State.setBit_frame (s : State) (F : Fld) (b : Bool) (i j : Nat) :
    s.setBit F b i j = { s with regs := (s.setBit F b i j).regs, hot := (s.setBit F b i j).hot } := by
  rw [State.setBit_eq]; rfl

theorem sameRegs.refl (ks : List Nat) (s : State) : sameRegs ks s s := fun _ _ => rfl

/-- A write of a bit whose key is listed. -/
theorem sameRegs.setBit {ks : List Nat} {s t : State} (h : sameRegs ks s t) (F : Fld) (b : Bool) (i j : Nat)
    (hF : F.key i j ∈ ks) : sameRegs ks s (t.setBit F b i j) := fun k hk =>
  (State.find?_setBit_ne t F b i j (ne_of_mem_of_not_mem hF hk).symm).trans (h k hk)

/-! ## Reports to the Dome -/

/-- A fault on a hardware path is reported and takes LSR_EN away at once (R329, R333). -/
theorem State.report_hardware (s : State) {r : Report} (h : r.hardware = true) :
    s.report r = { s with
      fire := s.fire.drop s.now
      dome := { s.dome with reports := s.dome.reports ++ [(r, s.raw)], cmd := false } } := by
  simp only [State.report, h]; rfl

/-- Any other fault is reported only. -/
theorem State.report_soft (s : State) {r : Report} (h : r.hardware = false) :
    s.report r = { s with dome := { s.dome with reports := s.dome.reports ++ [(r, s.raw)] } } := by
  simp only [State.report, h]; rfl

@[simp] theorem State.report_fuses (s : State) (r : Report) : (s.report r).fuses = s.fuses := by
  cases h : r.hardware
  · rw [State.report_soft s h]
  · rw [State.report_hardware s h]

@[simp] theorem State.report_regs (s : State) (r : Report) : (s.report r).regs = s.regs := by
  cases h : r.hardware
  · rw [State.report_soft s h]
  · rw [State.report_hardware s h]

theorem State.flag_report (s : State) (r : Report) (F : Fld) (i j : Nat) : (s.report r).flag F i j = s.flag F i j :=
  State.flag_congr (State.report_fuses s r) (by rw [State.report_regs])

/-! ## Ports that begin their bring-up -/

/-- Only the link registers and what lies behind the links differ. -/
def LinksOnly (s t : State) : Prop :=
  t = { s with regs := t.regs, net := t.net } ∧ sameOutside [(0x1000900, 0x10009BF)] s t

theorem LinksOnly.refl (s : State) : LinksOnly s s := ⟨rfl, fun _ _ => rfl⟩

theorem LinksOnly.trans {s t u : State} (hst : LinksOnly s t) (htu : LinksOnly t u) : LinksOnly s u := by
  obtain ⟨ht, hst⟩ := hst
  obtain ⟨hu, htu⟩ := htu
  refine ⟨?_, fun k hk => (htu k hk).trans (hst k hk)⟩
  rw [ht] at hu
  exact hu

/-- A write of a link register's field. -/
theorem LinksOnly.setFld (s : State) (F : Fld) (v i j : Nat)
    (h : 0x1000900 ≤ F.key i j / 64 ∧ F.key i j / 64 ≤ 0x10009BF) : LinksOnly s (s.setFld F v i j) := by
  refine ⟨rfl, fun k hk => State.find?_setFld_ne s F v i j ?_⟩
  rintro rfl
  have := hk _ (List.mem_singleton_self _)
  omega

theorem LinksOnly.sendTrain (s : State) (p : Nat) : LinksOnly s (s.sendTrain p) := by
  unfold State.sendTrain
  split
  · exact ⟨rfl, fun _ _ => rfl⟩
  · exact LinksOnly.refl s

theorem LinksOnly.startTrain (s : State) {p : Nat} (hp : p < 3) : LinksOnly s (s.startTrain p) := by
  have hport : ∀ x, LinksOnly s (s.setPort p x) := fun _ => ⟨rfl, fun _ _ => rfl⟩
  have hkey : 0x1000900 ≤ F.LINK.STAT.STATE.key p 0 / 64 ∧ F.LINK.STAT.STATE.key p 0 / 64 ≤ 0x10009BF := by
    clear hport; revert p; decide
  exact ((hport _).trans (LinksOnly.setFld _ _ _ _ _ hkey)).trans (LinksOnly.sendTrain _ p)

/-- The bring-up of the enabled ports touches nothing but the links (R308, R363). -/
theorem LinksOnly.portsBringUp (s : State) : LinksOnly s s.portsBringUp := by
  have hone : ∀ (t : State) {p : Nat}, p < 3 → LinksOnly t
      (if t.flag F.LINK.CTRL.EN p && t.fld F.LINK.STAT.STATE p == 0 then t.startTrain p else t) := by
    intro t p hp
    split
    · exact LinksOnly.startTrain t hp
    · exact LinksOnly.refl t
  exact ((hone s (p := 0) (by decide)).trans (hone _ (p := 1) (by decide))).trans (hone _ (p := 2) (by decide))

end Sys2Proof.Machine
end

section
/-!
SUPPORT. The loss of the reference and of a PLL's lock (spec/02_time_and_clocks.md R30, R33).
-/
namespace Sys2Proof.Machine

/-- REF_LOSS and SUSPECT are set and REFCLK is or is not absent from now on (R30). -/
def State.refLost (s : State) (absent : Bool) : State :=
  { (s.setBit F.TIME.PLL_STAT.REF_LOSS true).setBit F.TIME.STAT.SUSPECT true with
    clk := { s.clk with refAbsent := absent } }

/-- LOCK clears, LOL sets, and a TPLL loss sets SUSPECT (R33). -/
def State.lockLost (s : State) (p : Pll) : State :=
  let s := (s.setBit (pllLock p) false).setBit (pllLol p) true
  if p = .tpll then s.setBit F.TIME.STAT.SUSPECT true else s

theorem execRefclkLoss_eq {s : State} (absent : Bool) (hon : s.dev.inReset = false) :
    exec (.refclkLoss absent) s = .next ((s.refLost absent).report .ref) := by
  show execRefclkLoss absent s = _
  simp [execRefclkLoss, whenOn, hon, State.refLost]

theorem execPllLossOfLock_eq {s : State} {p : Pll} (hon : s.dev.inReset = false) (hl : s.flag (pllLock p) = true) :
    exec (.pllLossOfLock p) s = .next ((s.lockLost p).report (pllReport p)) := by
  show execPllLossOfLock p s = _
  simp [execPllLossOfLock, whenOn, onlyIf, hon, hl, State.lockLost]

theorem State.refLost_flags {s : State} (h : Tab.sorted s.regs = true) (absent : Bool) :
    (s.refLost absent).flag F.TIME.PLL_STAT.REF_LOSS = true ∧ (s.refLost absent).flag F.TIME.STAT.SUSPECT = true :=
  ⟨(State.flag_setBit_ne _ _ (by decide)).trans (State.flag_setBit_same h (by decide) true 0 0),
    State.flag_setBit_same (State.sorted_setBit h _ _ _ _) (by decide) true 0 0⟩

theorem State.refLost_frame (s : State) (absent : Bool) :
    s.refLost absent = { s with
      regs := (s.refLost absent).regs, hot := (s.refLost absent).hot, clk := { s.clk with refAbsent := absent } } := by
  simp [State.refLost]

theorem State.refLost_sameRegs (s : State) (absent : Bool) :
    sameRegs [F.TIME.PLL_STAT.REF_LOSS.key 0 0, F.TIME.STAT.SUSPECT.key 0 0] s (s.refLost absent) :=
  ((sameRegs.refl _ s).setBit F.TIME.PLL_STAT.REF_LOSS true 0 0 (by simp)).setBit F.TIME.STAT.SUSPECT true 0 0 (by simp)

/-! ## Which bits the PLLs have -/

theorem span_pllLock (p : Pll) : 1 < (pllLock p).span := by cases p <;> decide

theorem span_pllLol (p : Pll) : 1 < (pllLol p).span := by cases p <;> decide

theorem key_pllLock_ne_pllLol (p : Pll) : (pllLock p).key 0 0 ≠ (pllLol p).key 0 0 := by cases p <;> decide

theorem key_pllLock_ne_suspect (p : Pll) : (pllLock p).key 0 0 ≠ F.TIME.STAT.SUSPECT.key 0 0 := by cases p <;> decide

theorem key_pllLol_ne_suspect (p : Pll) : (pllLol p).key 0 0 ≠ F.TIME.STAT.SUSPECT.key 0 0 := by cases p <;> decide

/-! ## A lock that is lost -/

/-- A TPLL loss marks the time word suspect, which no bit of the PLLs' own shows. -/
theorem State.flag_lockLost (s : State) (p : Pll) {G : Fld} (h : G.key 0 0 ≠ F.TIME.STAT.SUSPECT.key 0 0) :
    (s.lockLost p).flag G = ((s.setBit (pllLock p) false).setBit (pllLol p) true).flag G := by
  unfold State.lockLost
  split
  · exact State.flag_setBit_ne _ _ h
  · rfl

theorem State.lockLost_lock {s : State} (h : Tab.sorted s.regs = true) (p : Pll) :
    (s.lockLost p).flag (pllLock p) = false := by
  rw [State.flag_lockLost s p (key_pllLock_ne_suspect p), State.flag_setBit_ne _ _ (key_pllLock_ne_pllLol p)]
  exact State.flag_setBit_same h (span_pllLock p) false 0 0

theorem State.lockLost_lol {s : State} (h : Tab.sorted s.regs = true) (p : Pll) :
    (s.lockLost p).flag (pllLol p) = true := by
  rw [State.flag_lockLost s p (key_pllLol_ne_suspect p)]
  exact State.flag_setBit_same (State.sorted_setBit h _ _ _ _) (span_pllLol p) true 0 0

theorem State.lockLost_suspect {s : State} (h : Tab.sorted s.regs = true) :
    (s.lockLost .tpll).flag F.TIME.STAT.SUSPECT = true :=
  State.flag_setBit_same (State.sorted_setBit (State.sorted_setBit h _ _ _ _) _ _ _ _) (by decide) true 0 0

theorem State.lockLost_frame (s : State) (p : Pll) :
    s.lockLost p = { s with regs := (s.lockLost p).regs, hot := (s.lockLost p).hot } := by
  unfold State.lockLost
  split
  · rw [State.setBit_frame (State.setBit (State.setBit s _ _) _ _), State.setBit_frame (State.setBit s _ _),
      State.setBit_frame s]
  · rw [State.setBit_frame (State.setBit s _ _), State.setBit_frame s]

theorem State.lockLost_sameRegs (s : State) (p : Pll) :
    sameRegs ([(pllLock p).key 0 0, (pllLol p).key 0 0] ++
      if p = .tpll then [F.TIME.STAT.SUSPECT.key 0 0] else []) s (s.lockLost p) := by
  have hpll : ∀ ks, sameRegs ([(pllLock p).key 0 0, (pllLol p).key 0 0] ++ ks) s
      ((s.setBit (pllLock p) false).setBit (pllLol p) true) := fun ks =>
    ((sameRegs.refl _ s).setBit _ _ 0 0 (by simp)).setBit _ _ 0 0 (by simp)
  unfold State.lockLost
  split
  · exact (hpll _).setBit _ _ 0 0 (by simp)
  · exact hpll _

/-- The loss of TPLL and of SPLL takes LSR_EN away on a hardware path, that of LPLL does not (R333). -/
theorem pllReport_hardware (p : Pll) : (pllReport p).hardware = decide (p ≠ .lpll) := by cases p <;> rfl

end Sys2Proof.Machine
end

section
open Sys2Proof Sys2Proof.Machine

/-- Settles O1: the marks of a loss are writes of its own bits, and its report tells the Dome and, on a hardware path, drops
LSR_EN. -/
theorem referenceLossAndLossOfLockAreReported : Obligations.ReferenceLossAndLossOfLockAreReported := by
  unfold Obligations.ReferenceLossAndLossOfLockAreReported
  rintro s ⟨-, hregs, -⟩ hon
  refine ⟨fun absent => ⟨_, execRefclkLoss_eq absent hon, ?_⟩, fun p hl => ⟨_, execPllLossOfLock_eq hon hl, ?_⟩⟩
  · obtain ⟨hloss, hsus⟩ := State.refLost_flags hregs absent
    refine ⟨(State.flag_report _ _ _ 0 0).trans hloss, (State.flag_report _ _ _ 0 0).trans hsus, ?_⟩
    have hsame := State.refLost_sameRegs s absent
    rw [State.report_hardware _ rfl, State.refLost_frame]
    exact ⟨rfl, rfl, hsame⟩
  · refine ⟨(State.flag_report _ _ _ 0 0).trans (State.lockLost_lock hregs p),
      (State.flag_report _ _ _ 0 0).trans (State.lockLost_lol hregs p), ?_, ?_⟩
    · rintro rfl
      exact (State.flag_report _ _ _ 0 0).trans (State.lockLost_suspect hregs)
    have hsame := State.lockLost_sameRegs s p
    by_cases hp : p = .lpll
    · rw [State.report_soft _ (by rw [pllReport_hardware]; simp [hp]), State.lockLost_frame]
      exact ⟨by simp [hp], by simp [hp], rfl, hsame⟩
    · rw [State.report_hardware _ (by rw [pllReport_hardware]; simp [hp]), State.lockLost_frame]
      exact ⟨by simp [hp]; rfl, by simp [hp], rfl, hsame⟩
end

section
/-!
SUPPORT. A PLL that locks, and the start of the time word (spec/02_time_and_clocks.md R32, R33, R36, R46).
-/
namespace Sys2Proof.Machine

/-! ## The lock itself -/

/-- LOCK sets, an acquisition ends and reports its band, and REFCLK is back (R32, R33). -/
def State.lockTaken (s : State) (p : Pll) (band : BitVec 6) : State :=
  let t := s.setBit (pllLock p) true
  { (if s.clk.acq p then t.setFld (pllBand p) band.toNat else t) with
    clk := { s.clk.setAcq false p with refAbsent := false } }

/-- What follows a lock: a TPLL lock aligns phase 0 and starts the time word (R36, R46), and an acquisition of LPLL by a clocked
device brings up its ports (R308). -/
def State.afterLock (s : State) (p : Pll) (acq : Bool) : State :=
  match p with
  | .tpll => s.alignRef.startTime
  | .spll => s
  | .lpll => if acq && s.live then s.portsBringUp else s

theorem execPllLock_eq {s : State} {p : Pll} (band : BitVec 6) (hon : s.dev.inReset = false)
    (hl : s.flag (pllLock p) = false) :
    exec (.pllLock p band) s = .next ((s.lockTaken p band).afterLock p (s.clk.acq p)) := by
  show execPllLock p band s = _
  cases ha : s.clk.acq p <;> cases p <;>
    simp [execPllLock, whenOn, onlyIf, hon, hl, State.lockTaken, State.afterLock, ha]

/-! ## What the lock's own writes hold -/

theorem span_pllBand (p : Pll) : (pllBand p).span = 2 ^ 6 := by cases p <;> rfl

theorem key_pllLock_ne_pllBand (p : Pll) : (pllLock p).key 0 0 ≠ (pllBand p).key 0 0 := by cases p <;> decide

theorem key_pllBand_ne_suspect (p : Pll) : (pllBand p).key 0 0 ≠ F.TIME.STAT.SUSPECT.key 0 0 := by cases p <;> decide

theorem Clk.acq_setAcq (k : Clk) (b : Bool) (p : Pll) : (k.setAcq b p).acq p = b := by cases p <;> rfl

/-- The end of an acquisition leaves the time word alone. -/
theorem Clk.setAcq_time (k : Clk) (b : Bool) (p : Pll) :
    (k.setAcq b p).off = k.off ∧ (k.setAcq b p).timeRun = k.timeRun := by cases p <;> exact ⟨rfl, rfl⟩

theorem State.lockTaken_frame (s : State) (p : Pll) (band : BitVec 6) :
    s.lockTaken p band = { s with
      regs := (s.lockTaken p band).regs, hot := (s.lockTaken p band).hot
      clk := { s.clk.setAcq false p with refAbsent := false } } := by
  unfold State.lockTaken
  rw [State.setBit_frame s]
  split <;> rfl

theorem State.sorted_lockTaken {s : State} (h : Tab.sorted s.regs = true) (p : Pll) (band : BitVec 6) :
    Tab.sorted (s.lockTaken p band).regs = true := by
  have hset := State.sorted_setBit h (pllLock p) true 0 0
  unfold State.lockTaken
  split
  · exact State.sorted_setFld hset _ _ _ _
  · exact hset

theorem State.flag_lockTaken {s : State} (h : Tab.sorted s.regs = true) (p : Pll) (band : BitVec 6) :
    (s.lockTaken p band).flag (pllLock p) = true := by
  have hset : (s.setBit (pllLock p) true).flag (pllLock p) = true := State.flag_setBit_same h (span_pllLock p) true 0 0
  have hband : ((s.setBit (pllLock p) true).setFld (pllBand p) band.toNat).flag (pllLock p) = true := by
    rw [State.flag, State.fld_setFld_ne _ _ (key_pllLock_ne_pllBand p)]; exact hset
  by_cases ha : s.clk.acq p = true
  · simp only [State.lockTaken, ha, if_true]
    exact hband
  · simp only [State.lockTaken, ha]
    exact hset

/-- A lock that ends an acquisition takes the band reported; any other keeps the band (R32, R33). -/
theorem State.band_lockTaken {s : State} (h : Tab.sorted s.regs = true) (p : Pll) (band : BitVec 6) :
    (s.lockTaken p band).fld (pllBand p) = if s.clk.acq p then band.toNat else s.fld (pllBand p) := by
  by_cases ha : s.clk.acq p = true
  · simp only [State.lockTaken, ha, if_true]
    refine (State.fld_setFld_same (State.sorted_setBit h _ _ _ _) (pllBand p) band.toNat 0 0).trans ?_
    rw [span_pllBand, Nat.mod_eq_of_lt band.isLt]
  · simp only [State.lockTaken, ha]
    exact State.fld_congr (State.setBit_fuses ..) (State.find?_setBit_ne _ _ _ _ _ (key_pllLock_ne_pllBand p).symm)

/-! ## The start of the time word -/

/-- The time word runs from 0 in the present tick, and cores that wait for one wait from its start (R46, log entry 15). -/
def State.timeStarted (s : State) : State :=
  { s with
    cores := s.cores.map (fun (p : Nat × Core) => (p.1, p.2.timeStarts s.now))
    clk := { s.clk with timeRun := true, off := -(s.raw : Int) } }

/-- The first TPLL lock after reset starts the time word, with SUSPECT clear (R46). -/
theorem State.startTime_first {s : State} (h : s.clk.timeRun = false) :
    s.startTime = s.timeStarted.setBit F.TIME.STAT.SUSPECT false := by
  simp [State.startTime, State.timeStarted, h]

/-- A later one leaves it as it is (R46). -/
theorem State.startTime_running {s : State} (h : s.clk.timeRun = true) : s.startTime = s := by
  simp [State.startTime, h]

theorem State.startTime_find? (s : State) {k : Nat} (hk : k ≠ F.TIME.STAT.SUSPECT.key 0 0) :
    Tab.find? s.startTime.regs k = Tab.find? s.regs k := by
  unfold State.startTime
  split
  · rfl
  · exact State.find?_setBit_ne _ _ _ _ _ hk

theorem State.startTime_frame (s : State) :
    s.startTime = { s with
      regs := s.startTime.regs, hot := s.startTime.hot, cores := s.startTime.cores
      clk := { s.clk with timeRun := s.startTime.clk.timeRun, off := s.startTime.clk.off } } := by
  cases h : s.clk.timeRun
  · rw [State.startTime_first h, State.setBit_frame]
    rfl
  · rw [State.startTime_running h]

/-- A time word whose offset takes back the ticks passed stands at 0, and so does the epoch count. -/
theorem State.time_zero {s : State} (hr : s.clk.timeRun = true) (ho : s.clk.off = -(s.raw : Int)) :
    s.timeNow = 0 ∧ s.epoch = 0 := by
  have ht : s.ticks = 0 := by simp [State.ticks, hr, ho]
  simp [State.timeNow, State.epoch, ht, timeWord]

/-! ## What follows a lock leaves alone -/

/-- The first TPLL lock after reset sets the time word and the epoch count to 0, with SUSPECT clear (R46). -/
theorem State.afterLock_first {s : State} (hs : Tab.sorted s.regs = true) (acq : Bool) (h : s.clk.timeRun = false) :
    let t := s.afterLock .tpll acq
    t.timeNow = 0 ∧ t.epoch = 0 ∧ t.flag F.TIME.STAT.SUSPECT = false ∧ t.clk.timeRun = true := by
  have hstart : s.afterLock .tpll acq = s.alignRef.timeStarted.setBit F.TIME.STAT.SUSPECT false :=
    State.startTime_first (s := s.alignRef) h
  have hclk : (s.afterLock .tpll acq).clk = s.alignRef.timeStarted.clk := by rw [hstart, State.setBit_clk]
  have hraw : (s.afterLock .tpll acq).raw = s.raw := by rw [hstart, State.setBit_raw]; rfl
  have hrun : (s.afterLock .tpll acq).clk.timeRun = true := by rw [hclk]; rfl
  obtain ⟨hnow, hep⟩ := State.time_zero hrun (by rw [hclk, hraw]; rfl)
  refine ⟨hnow, hep, ?_, hrun⟩
  rw [hstart]
  exact State.flag_setBit_same hs (by decide) false 0 0

theorem State.afterLock_keeps (s : State) (p : Pll) (acq : Bool) :
    let t := s.afterLock p acq
    t.mem = s.mem ∧ t.force = s.force ∧ t.fuses = s.fuses ∧ t.raw = s.raw := by
  cases p with
  | tpll =>
    simp only [State.afterLock]
    rw [State.startTime_frame]
    exact ⟨rfl, rfl, rfl, rfl⟩
  | spll => exact ⟨rfl, rfl, rfl, rfl⟩
  | lpll =>
    simp only [State.afterLock]
    split
    · rw [(LinksOnly.portsBringUp s).1]
      exact ⟨rfl, rfl, rfl, rfl⟩
    · exact ⟨rfl, rfl, rfl, rfl⟩

theorem State.afterLock_acq (s : State) (p q : Pll) (acq : Bool) : (s.afterLock p acq).clk.acq q = s.clk.acq q := by
  cases p with
  | tpll =>
    simp only [State.afterLock]
    rw [State.startTime_frame]
    cases q <;> rfl
  | spll => rfl
  | lpll =>
    simp only [State.afterLock]
    split
    · rw [(LinksOnly.portsBringUp s).1]
    · rfl

/-- Of the registers, SUSPECT and those of the links. -/
theorem State.afterLock_find? (s : State) (p : Pll) (acq : Bool) {k : Nat} (hs : k ≠ F.TIME.STAT.SUSPECT.key 0 0)
    (hk : k / 64 < 0x1000900 ∨ 0x10009BF < k / 64) :
    Tab.find? (s.afterLock p acq).regs k = Tab.find? s.regs k := by
  cases p with
  | tpll => exact State.startTime_find? s.alignRef hs
  | spll => rfl
  | lpll =>
    simp only [State.afterLock]
    split
    · exact (LinksOnly.portsBringUp s).2 k (by simpa using hk)
    · rfl

/-- No lock but the first TPLL lock moves the time word (R46). -/
theorem State.afterLock_time (s : State) {p : Pll} (acq : Bool) (h : p ≠ .tpll ∨ s.clk.timeRun = true) :
    (s.afterLock p acq).clk.off = s.clk.off ∧ (s.afterLock p acq).clk.timeRun = s.clk.timeRun := by
  cases p with
  | tpll =>
    have hr : s.clk.timeRun = true := by simpa using h
    simp only [State.afterLock, State.startTime_running (s := s.alignRef) hr]
    exact ⟨rfl, rfl⟩
  | spll => exact ⟨rfl, rfl⟩
  | lpll =>
    simp only [State.afterLock]
    split
    · rw [(LinksOnly.portsBringUp s).1]
      exact ⟨rfl, rfl⟩
    · exact ⟨rfl, rfl⟩

end Sys2Proof.Machine
end

section
open Sys2Proof Sys2Proof.Machine

/-- Settles O2: what follows a lock touches neither the PLL's own fields nor, but for the first TPLL lock, the time word. -/
theorem lockStartsTheTimeWordOnce : Obligations.LockStartsTheTimeWordOnce := by
  unfold Obligations.LockStartsTheTimeWordOnce
  rintro s p band ⟨-, hregs, -⟩ hon hl
  refine ⟨_, execPllLock_eq band hon hl, ?_⟩
  obtain ⟨hmem, hforce, hfuses, hraw⟩ := State.afterLock_keeps (s.lockTaken p band) p (s.clk.acq p)
  have hframe := State.lockTaken_frame s p band
  have hclk : (s.lockTaken p band).clk = { s.clk.setAcq false p with refAbsent := false } := by rw [hframe]
  obtain ⟨hoff, hrun⟩ := Clk.setAcq_time s.clk false p
  refine ⟨?_, ?_, ?_, ?_, ?_, ?_, ?_, ?_, ?_⟩
  · refine (State.flag_congr hfuses (State.afterLock_find? _ p _ (key_pllLock_ne_suspect p) ?_)).trans
      (State.flag_lockTaken hregs p band)
    cases p <;> decide
  · rw [State.afterLock_acq, hclk]
    exact Clk.acq_setAcq s.clk false p
  · refine (State.fld_congr hfuses (State.afterLock_find? _ p _ (key_pllBand_ne_suspect p) ?_)).trans
      (State.band_lockTaken hregs p band)
    cases p <;> decide
  · rintro rfl h0
    exact State.afterLock_first (State.sorted_lockTaken hregs _ band) _ (by rw [hclk]; exact h0)
  · intro h
    obtain ⟨ho, hr⟩ := State.afterLock_time (s.lockTaken p band) (s.clk.acq p) (by rw [hclk]; exact h.imp_right hrun.trans)
    rw [ho, hr, hclk]
    exact ⟨hoff, hrun⟩
  · rw [hmem, hframe]
  · rw [hforce, hframe]
  · rw [hfuses, hframe]
  · rw [hraw, hframe]
end

section
/-!
SUPPORT. What a register's own operation can answer to a write, and the judgement of a write in a scanning mode
(spec/00_scope.md R10, spec/15_gloelink.md R365, R375, spec/17_register_map.md R403, R404).
-/
namespace Sys2Proof.Machine

/-! ## What a register's own operation answers

The effect of a write knows two refusals, those of its register's chapter and of a semaphore's owner; the refusals for an
address, a reach, a guard or an RWL field are the judgement's alone. -/

/-- A write is taken, or refused by what its register's own chapter says. -/
def OwnAnswer (r : WRes) : Prop := r.2 = none ∨ r.2 = some .refused ∨ r.2 = some .semOwn

theorem OwnAnswer.taken (t : State) : OwnAnswer (t, none) := .inl rfl

theorem OwnAnswer.refused (t : State) : OwnAnswer (t, some .refused) := .inr (.inl rfl)

theorem OwnAnswer.semOwn (t : State) : OwnAnswer (t, some .semOwn) := .inr (.inr rfl)

theorem OwnAnswer.ite {c : Prop} [Decidable c] {x y : WRes} (hx : OwnAnswer x) (hy : OwnAnswer y) :
    OwnAnswer (if c then x else y) := by
  split <;> assumption

/-- What the accessor is then told: an answer for its address, whose code is not that of RWL. -/
theorem OwnAnswer.reply {r : WRes} (h : OwnAnswer r) (s : State) (addr : Nat) :
    ∃ q, (s.answer addr r).reply = some q ∧ q.code ≠ Err.rwl.code ∧ q.addr = addr := by
  obtain ⟨t, e⟩ := r
  obtain rfl | rfl | rfl : e = none ∨ e = some .refused ∨ e = some .semOwn := h
  all_goals exact ⟨_, rfl, by simp [Err.code], rfl⟩

/-! ### Requests for a mode -/

theorem State.reqErr_own (s : State) (n : Nat) : OwnAnswer (s.reqErr n) := .refused _

theorem State.reqIdle_own (s : State) : OwnAnswer s.reqIdle := by
  unfold State.reqIdle
  split
  case h_5 => exact .ite (.taken _) (s.reqErr_own 8)
  case h_6 => exact s.reqErr_own 2
  all_goals exact .taken _

theorem State.reqArmed_own (s : State) : OwnAnswer s.reqArmed := by
  unfold State.reqArmed
  split
  case h_1 => exact .ite (s.reqErr_own 3) (.ite (s.reqErr_own 4) (.taken _))
  case h_5 => exact s.reqErr_own 2
  all_goals exact .taken _

theorem State.reqScan_own (s : State) : OwnAnswer s.reqScan := by
  unfold State.reqScan
  split
  · exact .ite (s.reqErr_own 5) (.ite (s.reqErr_own 6) (.ite (s.reqErr_own 7) (.taken _)))
  · exact s.reqErr_own 2

theorem State.reqSafe_own (s : State) : OwnAnswer s.reqSafe := by
  unfold State.reqSafe
  split
  case h_6 => exact s.reqErr_own 2
  all_goals exact .taken _

theorem State.wrModeReq_own (s : State) (v : Word) : OwnAnswer (s.wrModeReq v) := by
  unfold State.wrModeReq
  refine .ite (s.reqErr_own 1) ?_
  dsimp only
  split
  exacts [State.reqIdle_own _, State.reqArmed_own _, State.reqScan_own _, State.reqSafe_own _, State.reqErr_own _ 2]

/-! ### The other registers with an action that can be refused -/

theorem State.semWrite_own (s : State) (n : Nat) (a : Accessor) (v : Word) : OwnAnswer (s.semWrite n a v) :=
  .ite (.taken _) (.semOwn _)

theorem State.wrPllCtrl_own (s : State) (v : Word) : OwnAnswer (s.wrPllCtrl v) :=
  .ite (.ite (.taken _) (.refused _)) (.taken _)

theorem State.wrSscCfg_own (s : State) (v : Word) : OwnAnswer (s.wrSscCfg v) :=
  .ite (.refused _) (.ite (.refused _) (.ite (.taken _) (.taken _)))

theorem State.wrSscSeg_own (s : State) (n : Nat) (v : Word) : OwnAnswer (s.wrSscSeg n v) :=
  .ite (.refused _) (.taken _)

theorem State.wrFmuCfg_own (s : State) (v : Word) : OwnAnswer (s.wrFmuCfg v) :=
  .ite (.ite (.refused _) (.taken _)) (.taken _)

theorem State.wrTdacCfg_own (s : State) (v : Word) : OwnAnswer (s.wrTdacCfg v) :=
  .ite (.refused _) (.ite (.refused _) (.taken _))

theorem State.wrCapCtrl_own (s : State) (v : Word) : OwnAnswer (s.wrCapCtrl v) := .ite (.refused _) (.taken _)

theorem State.wrCoreCtrl_own (s : State) (c : Nat) (v : Word) : OwnAnswer (s.wrCoreCtrl c v) :=
  .ite (.refused _) (.taken _)

theorem State.wrEphLoad_own (s : State) (v : Word) : OwnAnswer (s.wrEphLoad v) :=
  .ite (.ite (.refused _) (.taken _)) (.taken _)

theorem State.wrDegCtrl_own (s : State) (v : Word) : OwnAnswer (s.wrDegCtrl v) :=
  .ite (.ite (.refused _) (.taken _)) (.taken _)

theorem State.wrRstCtrl_own (s : State) (v : Word) : OwnAnswer (s.wrRstCtrl v) := .ite (.taken _) (.refused _)

theorem State.wrRingCfg_own (s : State) (b : Nat) (v : Word) : OwnAnswer (s.wrRingCfg b v) :=
  .ite (.refused _) (.taken _)

theorem State.wrBootCtrl_own (s : State) (a : Accessor) (v : Word) : OwnAnswer (s.wrBootCtrl a v) :=
  .ite (.refused _) (.ite (.taken _) (.ite (.refused _) (.taken _)))

/-! ### The blocks -/

theorem State.wrDev_own (s : State) (a : Accessor) (addr : Nat) (v : Word) : OwnAnswer (s.wrDev a addr v) :=
  .ite (s.wrModeReq_own v) (.ite (s.wrRstCtrl_own v) (.ite (.taken _) (.ite (.taken _) (.ite (.taken _)
    (.ite (.taken _) (.ite (s.wrBootCtrl_own a v) (.taken _)))))))

theorem State.wrTime_own (s : State) (addr : Nat) (v : Word) : OwnAnswer (s.wrTime addr v) :=
  .ite (.taken _) (.ite (s.wrPllCtrl_own v) (.ite (s.wrSscCfg_own v) (.ite (s.wrFmuCfg_own v)
    (.ite (s.wrSscSeg_own _ v) (.taken _)))))

theorem State.wrFire_own (s : State) (addr : Nat) (v : Word) : OwnAnswer (s.wrFire addr v) :=
  .ite (.taken _) (.ite (.taken _) (.taken _))

theorem State.wrMon_own (s : State) (addr : Nat) (v : Word) : OwnAnswer (s.wrMon addr v) :=
  .ite (.taken _) (.ite (.ite (.refused _) (.taken _)) (.ite (s.wrCapCtrl_own v) (.taken _)))

theorem State.wrMirr_own (s : State) (addr : Nat) (v : Word) : OwnAnswer (s.wrMirr addr v) := .ite (.taken _) (.taken _)

theorem State.wrAfe_own (s : State) (addr : Nat) (v : Word) : OwnAnswer (s.wrAfe addr v) :=
  .ite (.taken _) (.ite (.taken _) (.ite (.taken _) (.ite (.taken _) (.ite (.taken _)
    (.ite (s.wrTdacCfg_own v) (.taken _))))))

theorem State.wrSafe_own (s : State) (addr : Nat) (v : Word) : OwnAnswer (s.wrSafe addr v) :=
  .ite (.taken _) (.ite (s.wrDegCtrl_own v) (.ite (.taken _) (.ite (.taken _) (.taken _))))

theorem State.wrLink_own (s : State) (addr : Nat) (v : Word) : OwnAnswer (s.wrLink addr v) :=
  .ite (.taken _) (.ite (.taken _) (.taken _))

theorem State.wrMbx_own (s : State) (addr : Nat) (v : Word) : OwnAnswer (s.wrMbx addr v) := .ite (.taken _) (.taken _)

theorem State.wrCoreReg_own (s : State) (blk addr : Nat) (v : Word) : OwnAnswer (s.wrCoreReg blk addr v) :=
  .ite (s.wrCoreCtrl_own _ v) (.ite (s.wrEphLoad_own v) (.taken _))

theorem State.wrBank_own (s : State) (addr : Nat) (v : Word) : OwnAnswer (s.wrBank addr v) :=
  .ite (s.wrRingCfg_own _ v) (.taken _)

theorem State.wrStrip_own (s : State) (addr : Nat) (v : Word) : OwnAnswer (s.wrStrip addr v) := .ite (.taken _) (.taken _)

theorem State.effectWrite_own (s : State) (a : Accessor) (blk addr : Nat) (v : Word) :
    OwnAnswer (s.effectWrite a blk addr v) := by
  unfold State.effectWrite
  repeat' with_reducible refine OwnAnswer.ite ?_ ?_
  exacts [s.wrDev_own a addr v, s.wrTime_own addr v, s.wrFire_own addr v, s.wrMon_own addr v, s.wrMirr_own addr v,
    s.wrAfe_own addr v, s.wrSafe_own addr v, s.wrLink_own addr v, s.wrMbx_own addr v, s.semWrite_own _ a v, .taken _,
    s.wrCoreReg_own 11 addr v, s.wrCoreReg_own 12 addr v, s.wrBank_own addr v, s.wrStrip_own addr v, .taken _]

/-! ## The judgement of RWL fields -/

theorem State.rwlWrite_iff {s : State} {addr : Nat} {v : Word} : s.rwlWrite addr v = true ↔
    ∃ p ∈ fldsAt addr, p.1.acc = .rwl ∧
      v.toNat / 2 ^ p.1.low p.2.2 % p.1.span ≠ (s.hwHeld p.1 p.2.1 p.2.2).getD (s.fld p.1 p.2.1 p.2.2) := by
  simp [State.rwlWrite, Fld.of]

/-- In a scanning mode RWL fields alone decide on a write that neither a core's reach nor a semaphore bars (R404). -/
theorem State.judgeWrite_scanning {s : State} {a : Accessor} {addr blk : Nat} {v : Word} (hs : s.scanning = true)
    (hb : blockOf addr = some blk) (hreach : ∀ c, a = .core c → wrsAllowed c.val blk addr = true)
    (hg : s.guarded a blk addr v = false) :
    s.judgeWrite a addr v = if s.rwlWrite addr v then some .rwl else none := by
  cases a with
  | core c => cases hr : s.rwlWrite addr v <;> simp [State.judgeWrite, hb, hreach c rfl, hg, hs, hr]
  | _ => cases hr : s.rwlWrite addr v <;> simp [State.judgeWrite, hb, hg, hs, hr]

/-- A write that changes no RWL field leaves no note (R408). -/
theorem State.noted_of_keeps {s : State} {addr : Nat} {v : Word} (h : s.rwlWrite addr v = false) : s.noted addr v = s := by
  simp [State.noted, h]

theorem exec_registerWrite_live {s : State} (hl : s.live = true) (a : Accessor) (addr : BitVec 25) (v : Word) :
    exec (.registerWrite a addr v) s = .next (s.access a addr.toNat v) := by
  show execRegisterWrite a addr v s = _
  simp [execRegisterWrite, writeCmd, whenLive, hl]

end Sys2Proof.Machine
end

section
open Sys2Proof Sys2Proof.Machine

/-- Settles O59: in a scanning mode the RWL fields alone judge such a write, and no register's own operation answers RWL. -/
theorem rwlWritesAreJudgedByTheirValue : Obligations.RwlWritesAreJudgedByTheirValue := by
  unfold Obligations.RwlWritesAreJudgedByTheirValue
  intro s a addr v blk hl hs hb hreach hg
  have hj := State.judgeWrite_scanning hs hb hreach hg
  dsimp only
  rw [← State.rwlWrite_iff]
  refine ⟨fun hc => ⟨_, exec_registerWrite_live hl a addr v, ?_⟩, fun hc => ⟨_, exec_registerWrite_live hl a addr v, ?_⟩⟩
  · exact State.access_refused (e := .rwl) (by rw [hj, if_pos hc])
  · rw [State.access_taken (by rw [hj, if_neg hc]), State.noted_of_keeps (Bool.eq_false_iff.2 hc), hb]
    exact ⟨rfl, (s.effectWrite_own a blk addr.toNat v).reply s addr.toNat⟩
end
